-- ==== Sys2Proof/Word.lean ====
section
/-! DEFINITION. The one machine word of the block's outside: a byte of the panel port or a character of the roof link. -/

namespace Sys2Proof

/-- A byte of a panel port transaction, or the eight data bits of a roof link character. -/
abbrev Byte := BitVec 8

end Sys2Proof
end

