-- ==== Sys2Proof/Config.lean ====
section
/-! DEFINITION. The fixed sizes and ceilings that the manual states for the part. The part has no
implementation-defined constant: every figure below is stated by a numbered rule. -/

namespace Sys2Proof.Config

/-- Places of the Wait Queue (R110). -/
abbrev queueCapacity : Nat := 16

/-- Bytes of the panel port's command buffer (R171). -/
abbrev bufferCapacity : Nat := 40

/-- Saturation of slot counters and cycle counters, in seconds (R53, R165). -/
abbrev counterMax : Nat := 65535

/-- Ceiling of a power figure that is clamped: P_rate, D_roll, D_proj (R71, R78, R82). -/
abbrev powerMax : Nat := 65535

/-- Saturation of the pulse timer in milliseconds and of E_cur in watt-hours (R68, R69). -/
abbrev wideMax : Nat := 4294967295

/-- Saturation of the miss count (R13) and of the skip count (R101). -/
abbrev nibbleMax : Nat := 15

/-- Crystal cycles in one millisecond tick (R50). -/
abbrev cyclesPerMillisecond : Nat := 6144

/-- Millisecond ticks in one second tick (R51). -/
abbrev millisecondsPerSecond : Nat := 1000

/-- The call inputs are sampled at every twentieth millisecond tick (R161). -/
abbrev callSamplePeriod : Nat := 20

/-- Bit times of one roof link character (R146). -/
abbrev bitsPerCharacter : Nat := 11

/-- Samples from the first of a start bit to the ninth of the stop bit, with which a character is read (R147). -/
abbrev samplesToRead : Nat := 169

/-- Bit times of the gap between transactions: two character times (R152). -/
abbrev gapBits : Nat := 22

/-- Longest duration of a SAVE in milliseconds (R178). -/
abbrev saveMilliseconds : Nat := 300

end Sys2Proof.Config
end

