-- ==== Sys2Proof/Syntax.lean ====
section
/-! DEFINITION. The commands of the block: one constructor of `Instr` for each row of
spec/opcode_table.json, with the row's operands. -/

namespace Sys2Proof

/-- A unit number, 0 to 35 (R1). -/
abbrev UnitNo := Fin 36

/-- A slot number of the Permit Table, 0 to 95 (R21). -/
abbrev SlotNo := Fin 96

/-- A wired channel, W0 to W3 (R1). -/
abbrev ChannelNo := Fin 4

/-- The levels that the sampled inputs show at one millisecond tick: `true` is the high level. -/
structure InputLevels where
  pulse : Bool
  eoi : Bool
  call0 : Bool
  call1 : Bool
  call2 : Bool
  call3 : Bool
deriving DecidableEq, Repr

/-- The things that take a second tick, each on its own state (R51, R117). -/
inductive TickPart where
  | restartHold       -- the restart hold's count falls (R180)
  | startGate         -- the start gate's count falls (R60)
  | shedGate          -- the shed gate's count falls (R62)
  | slotCounters      -- the slot counters advance (R53)
  | subintervalClock  -- the elapsed count rises and the clock tests for its end (R75, R77)
  | rateDecay         -- the loss test, then the decay (R72, R73)
  | cycleCounters     -- the cycle counters of the channels advance (R165)
  | shedEvaluation    -- the shed evaluation (R124)
  | wiredRetry (channel : ChannelNo)  -- the desire step of a wired unit without an entry (R117)
  | regularPass       -- the regular admission pass (R90)
deriving DecidableEq, Repr

/-- The events that a second tick can raise: the rows of the table that come together with it. -/
inductive TickEvent where
  | settleExpiry (slot : SlotNo)
  | minRunExpiry (slot : SlotNo)
  | drainingMinRunExpiry (slot : SlotNo)
  | rotationExpiry (slot : SlotNo)
  | complianceExpiry (slot : SlotNo)
  | minOffExpiry (slot : SlotNo)
  | startGateOpening
  | shedGateOpening
  | restartHoldEnd
  | meterLoss
  | freeClose
  | selfClose
  | cycleOnLimitStop (channel : ChannelNo)
deriving DecidableEq, Repr

/-- One item of the order in which the things that come together at a second tick are taken. -/
inductive TickItem where
  | part (p : TickPart)
  | event (e : TickEvent)
deriving DecidableEq, Repr

/-- The commands: one constructor per row of spec/opcode_table.json. -/
inductive Instr where
  /-- SET_UNIT: the parameter bytes of the command, the unit record of R174. -/
  | setUnit (params : List Byte)
  /-- GET_UNIT: the unit number byte. -/
  | getUnit (unit : Byte)
  /-- READ_UNIT_STATUS: the unit number byte. -/
  | readUnitStatus (unit : Byte)
  /-- LOCK_UNIT: the unit number byte. -/
  | lockUnit (unit : Byte)
  /-- UNLOCK_UNIT: the unit number byte. -/
  | unlockUnit (unit : Byte)
  /-- RETIRE_UNIT: the unit number byte. -/
  | retireUnit (unit : Byte)
  /-- RELEASE_UNIT: the unit number byte. -/
  | releaseUnit (unit : Byte)
  /-- SET_SITE: the parameter bytes, the 32-byte site record. -/
  | setSite (params : List Byte)
  /-- GET_SITE. -/
  | getSite
  /-- SET_LIMIT: the demand limit and the margin. -/
  | setLimit (limit margin : BitVec 16)
  /-- CURTAIL: the threshold byte, 0 for OFF. -/
  | curtail (threshold : Byte)
  /-- READ_DEMAND. -/
  | readDemand
  /-- RESET_PEAK. -/
  | resetPeak
  /-- READ_PERMIT: the slot byte. -/
  | readPermit (slot : Byte)
  /-- READ_QUEUE. -/
  | readQueue
  /-- READ_NOTICES. -/
  | readNotices
  /-- SAVE. -/
  | save
  /-- SAVE_END: the Settings Store has written its valid marker. -/
  | saveEnd
  /-- RESTART. -/
  | restart
  /-- PANEL_WRITE: a whole write transaction: the 7-bit address, the whole bytes that followed it, and
  whether the write ended within a byte. -/
  | panelWrite (address : BitVec 7) (bytes : List Byte) (broken : Bool)
  /-- POWER_ON_RESET: the release of a power-on reset, with the two address straps as sampled. -/
  | powerOnReset (straps : BitVec 2)
  /-- SECOND_TICK: with the order in which the things that come together at the tick are taken. -/
  | secondTick (order : List TickItem)
  /-- SETTLE_EXPIRY of the permit in a slot. -/
  | settleExpiry (slot : SlotNo)
  /-- MIN_RUN_EXPIRY of the permit in a slot. -/
  | minRunExpiry (slot : SlotNo)
  /-- DRAINING_MIN_RUN_EXPIRY of the permit in a slot. -/
  | drainingMinRunExpiry (slot : SlotNo)
  /-- ROTATION_EXPIRY of the permit in a slot. -/
  | rotationExpiry (slot : SlotNo)
  /-- COMPLIANCE_EXPIRY of the permit in a slot. -/
  | complianceExpiry (slot : SlotNo)
  /-- MIN_OFF_EXPIRY of the permit in a slot. -/
  | minOffExpiry (slot : SlotNo)
  /-- START_GATE_OPENING. -/
  | startGateOpening
  /-- SHED_GATE_OPENING. -/
  | shedGateOpening
  /-- RESTART_HOLD_END. -/
  | restartHoldEnd
  /-- METER_LOSS. -/
  | meterLoss
  /-- FREE_CLOSE. -/
  | freeClose
  /-- SELF_CLOSE. -/
  | selfClose
  /-- EOI_MARK. -/
  | eoiMark
  /-- PULSE_EDGE: `tickFirst` says whether the millisecond tick at which the edge was sampled has
  advanced the pulse timer before the edge is taken (R68 leaves the order open). -/
  | pulseEdge (tickFirst : Bool)
  /-- CALL_CHANGE of a wired channel. -/
  | callChange (channel : ChannelNo)
  /-- CYCLE_ON_LIMIT_STOP of a wired channel. -/
  | cycleOnLimitStop (channel : ChannelNo)
  /-- LINK_GAP_END. -/
  | linkGapEnd
  /-- POLL_SENT. -/
  | pollSent
  /-- REPORT_RECEIVED: the eighth character is in, and the reply is validated. -/
  | reportReceived
  /-- REPLY_ENDED_EARLY. -/
  | replyEndedEarly
  /-- REPLY_TIMEOUT. -/
  | replyTimeout
  /-- MILLISECOND_TICK: with the input levels that the samples of this tick see. -/
  | millisecondTick (inputs : InputLevels)
  /-- CHARACTER_RECEIVED: the eight data bits and the mark bit of a character with a high stop bit. -/
  | characterReceived (data : Byte) (mark : Bool)
  /-- RECEIVER_FRAMING_ERROR: a stop bit was read low, with the mark bit that was read before it (0, as in every character
  but the first of a frame, where the command names none). -/
  | receiverFramingError (mark : Bool := false)
  /-- RECEIVER_LINE_HIGH: after a framing error the line was sampled high. -/
  | receiverLineHigh
  /-- RESET_ASSERTED: the onset of a power-on reset. -/
  | resetAsserted
deriving DecidableEq, Repr

end Sys2Proof
end

