-- ==== Sys2Proof/Decode.lean ====
section
/-! DEFINITION. The words of the table (no row of spec/opcode_table.json has bits), and the panel port's own
decoding: which command the bytes of a write transaction name (R171, R173), and the bytes of each panel command. -/

namespace Sys2Proof

/-- The command that a word of the table spells. No row of the table gives a bit ("fields": [] in every
row, no match or mask), so no word spells a command. -/
def decodeTableWord (_nbits _w : Nat) : Option Instr := none

/-- Why the bytes of a write transaction are no command that a block takes (R171). -/
inductive WriteError where
  /-- The write carried no byte: it is no command and executes nothing. -/
  | empty
  /-- More than 40 bytes: refused BAD COMMAND. -/
  | overlong
  /-- The code names no command: refused BAD COMMAND. -/
  | unknownCode
  /-- Not the parameter count of the command's layout: refused BAD COMMAND. -/
  | wrongCount
deriving DecidableEq, Repr

/-- A command with one parameter byte. -/
def oneByteCommand (f : Byte → Instr) : List Byte → Except WriteError Instr
  | [b] => .ok (f b)
  | _ => .error .wrongCount

/-- A command without parameters. -/
def bareCommand (i : Instr) : List Byte → Except WriteError Instr
  | [] => .ok i
  | _ => .error .wrongCount

/-- SET LIMIT's parameters: D_lim and then M, two bytes each, most significant first (R173). -/
def limitCommand : List Byte → Except WriteError Instr
  | [d1, d0, m1, m0] => .ok (.setLimit (d1 ++ d0) (m1 ++ m0))
  | _ => .error .wrongCount

/-- SET SITE's parameters: 32 bytes (R173). -/
def siteCommand (params : List Byte) : Except WriteError Instr :=
  if params.length = 32 then .ok (.setSite params) else .error .wrongCount

/-- SET UNIT's parameters: at least two bytes; R174 decides the rest of the length against the record. -/
def unitCommand (params : List Byte) : Except WriteError Instr :=
  if 2 ≤ params.length then .ok (.setUnit params) else .error .wrongCount

/-- The command that a code byte and its parameters name (the table of R173). -/
def decodeCommand (code : Byte) (params : List Byte) : Except WriteError Instr :=
  match code.toNat with
  | 0x10 => unitCommand params
  | 0x11 => oneByteCommand .getUnit params
  | 0x12 => oneByteCommand .readUnitStatus params
  | 0x13 => oneByteCommand .lockUnit params
  | 0x14 => oneByteCommand .unlockUnit params
  | 0x15 => oneByteCommand .retireUnit params
  | 0x16 => oneByteCommand .releaseUnit params
  | 0x20 => siteCommand params
  | 0x21 => bareCommand .getSite params
  | 0x22 => limitCommand params
  | 0x23 => oneByteCommand .curtail params
  | 0x30 => bareCommand .readDemand params
  | 0x31 => bareCommand .resetPeak params
  | 0x32 => oneByteCommand .readPermit params
  | 0x33 => bareCommand .readQueue params
  | 0x34 => bareCommand .readNotices params
  | 0x40 => bareCommand .save params
  | 0x41 => bareCommand .restart params
  | _ => .error .unknownCode

/-- The command that the whole bytes of a write transaction name (R171): a byte beyond the fortieth makes
the write overlong, whatever its code. -/
def decodeWrite : List Byte → Except WriteError Instr
  | [] => .error .empty
  | code :: params =>
    if Config.bufferCapacity < (code :: params).length then .error .overlong else decodeCommand code params

/-- The bytes of a panel command's write transaction (R173), and none for a row of the table that is an
event and not a panel command. -/
def encodeWrite : Instr → Option (List Byte)
  | .setUnit params => some (0x10#8 :: params)
  | .getUnit u => some [0x11#8, u]
  | .readUnitStatus u => some [0x12#8, u]
  | .lockUnit u => some [0x13#8, u]
  | .unlockUnit u => some [0x14#8, u]
  | .retireUnit u => some [0x15#8, u]
  | .releaseUnit u => some [0x16#8, u]
  | .setSite params => some (0x20#8 :: params)
  | .getSite => some [0x21#8]
  | .setLimit d m => some [0x22#8, d.extractLsb' 8 8, d.extractLsb' 0 8, m.extractLsb' 8 8, m.extractLsb' 0 8]
  | .curtail c => some [0x23#8, c]
  | .readDemand => some [0x30#8]
  | .resetPeak => some [0x31#8]
  | .readPermit i => some [0x32#8, i]
  | .readQueue => some [0x33#8]
  | .readNotices => some [0x34#8]
  | .save => some [0x40#8]
  | .restart => some [0x41#8]
  | .saveEnd | .panelWrite _ _ _ | .powerOnReset _ | .secondTick _ | .settleExpiry _ | .minRunExpiry _
  | .drainingMinRunExpiry _ | .rotationExpiry _ | .complianceExpiry _ | .minOffExpiry _ | .startGateOpening
  | .shedGateOpening | .restartHoldEnd | .meterLoss | .freeClose | .selfClose | .eoiMark | .pulseEdge _
  | .callChange _ | .cycleOnLimitStop _ | .linkGapEnd | .pollSent | .reportReceived | .replyEndedEarly
  | .replyTimeout | .millisecondTick _ | .characterReceived _ _ | .receiverFramingError _ | .receiverLineHigh
  | .resetAsserted => none

end Sys2Proof
end

