-- ==== Sys2Proof/Machine/Records.lean ====
section
/-! DEFINITION. The named values and the two configuration records of the manual: the unit record (R2) and the
site record (R85, R177 and the site default table before R179), their tests and the site defaults. -/

namespace Sys2Proof.Machine

/-- Level that an output or input takes as "on" (the unit record table). -/
inductive Polarity where | activeHigh | activeLow
deriving DecidableEq, Repr

/-- When the cycling of a wired channel applies (R166). -/
inductive CyclingMode where | always | whenShedding
deriving DecidableEq, Repr

/-- The direction in which a filtered change of PULSE is an edge (R66). -/
inductive CountingEdge where | rising | falling | both
deriving DecidableEq, Repr

/-- Sync mode of the subinterval clock (R75, R76). -/
inductive SyncMode where | free | meter
deriving DecidableEq, Repr

/-- Link speed of the roof link, in baud (R52). -/
inductive LinkSpeed where | b9600 | b19200 | b38400
deriving DecidableEq, Repr

/-- The five wired fields of a wired unit's record. -/
structure WiredFields where
  cyclePeriod : Nat        -- minutes, 0..255
  onLimit : Nat            -- minutes, 0..255
  cyclingMode : CyclingMode
  drivePolarity : Polarity
  callPolarity : Polarity
deriving DecidableEq, Repr

/-- The unit record: the configuration of one unit. The stage count is the length of the ratings list, since
entry k of the list is the rating of stage k. -/
structure UnitRecord where
  ratings : List Nat       -- 1..4 entries, each 1..1023, in 100 W steps
  cls : Nat                -- class, 0..7
  minRun : Nat             -- seconds, 0..1023
  minOff : Nat             -- seconds, 0..1023
  rotation : Nat           -- steps of 64 s, 0..63
  wired : Option WiredFields
deriving DecidableEq, Repr

/-- The site record, its fields in record order. -/
structure SiteRecord where
  pulseWeight : Nat        -- w, Wh, 1..10000
  countingEdge : CountingEdge
  minSpacing : Nat         -- ms, 10..1000
  lossTime : Nat           -- s, 10..600
  subLength : Nat          -- T_s, s, 10..900
  subCount : Nat           -- S, 1..15
  syncMode : SyncMode
  grace : Nat              -- g, s, 1..60
  limit : Nat              -- D_lim, 1..65535
  margin : Nat             -- M, 0..D_lim
  budget : Nat             -- F, 0..65535
  startSpacing : Nat       -- s, 1..255
  shedSpacing : Nat        -- s, 1..255
  settleTime : Nat         -- s, 0..1023
  complianceTimeout : Nat  -- s, 1..1023
  skipLimit : Nat          -- 1..15
  silenceCount : Nat       -- 1..15
  replyTimeout : Nat       -- ms, 20..255
  linkSpeed : LinkSpeed
  restartHold : Nat        -- s, 0..600
  noticeMask : BitVec 16   -- enable bits in the order of the notice word, bit 15 zero
deriving DecidableEq, Repr

/-- The number of ordinal stages of a record. -/
def UnitRecord.stageCount (r : UnitRecord) : Nat := r.ratings.length

/-- Wired units are 32 to 35 (R1). -/
def isWired (u : UnitNo) : Bool := decide (32 ≤ u.val)

/-- The channel of a wired unit (R1). -/
def channelOf (u : UnitNo) : Option ChannelNo :=
  if h : 32 ≤ u.val then some ⟨u.val - 32, by omega⟩ else none

/-- The unit of a wired channel: W0 is unit 32 (R1). -/
def channelUnit (c : ChannelNo) : UnitNo := ⟨32 + c.val, by omega⟩

/-- The roof address of a unit: its number plus 1 (R1). -/
def roofAddress (u : UnitNo) : Nat := u.val + 1

/-- Whether a whole count lies in a closed range. -/
def inRange (lo hi n : Nat) : Bool := decide (lo ≤ n) && decide (n ≤ hi)

/-- The range tests of the wired fields (R2). -/
def WiredFields.valid (w : WiredFields) : Bool := inRange 0 255 w.cyclePeriod && inRange 0 255 w.onLimit

/-- The tests of a SET UNIT record for a unit number (R2). -/
def UnitRecord.valid (u : UnitNo) (r : UnitRecord) : Bool :=
  inRange 1 4 r.ratings.length && r.ratings.all (inRange 1 1023) && inRange 0 7 r.cls
    && inRange 0 1023 r.minRun && inRange 0 1023 r.minOff && inRange 0 63 r.rotation
    && (if isWired u then decide (r.ratings.length = 1) && r.wired.any WiredFields.valid else r.wired.isNone)

/-- The tests of a SET SITE record (R85, with R52, R58, R103, R177): the ranges of the site default table,
S × T_s at most 3600 s, twice the grace below T_s, the margin at most the limit, bit 15 of the mask zero. -/
def SiteRecord.valid (r : SiteRecord) : Bool :=
  inRange 1 10000 r.pulseWeight && inRange 10 1000 r.minSpacing && inRange 10 600 r.lossTime
    && inRange 10 900 r.subLength && inRange 1 15 r.subCount && inRange 1 60 r.grace
    && inRange 1 65535 r.limit && inRange 0 r.limit r.margin && inRange 0 65535 r.budget
    && inRange 1 255 r.startSpacing && inRange 1 255 r.shedSpacing && inRange 0 1023 r.settleTime
    && inRange 1 1023 r.complianceTimeout && inRange 1 15 r.skipLimit && inRange 1 15 r.silenceCount
    && inRange 20 255 r.replyTimeout && inRange 0 600 r.restartHold && !r.noticeMask.getLsbD 15
    && decide (r.subCount * r.subLength ≤ 3600) && decide (2 * r.grace < r.subLength)

/-- The site defaults (the table before R179). -/
def siteDefaults : SiteRecord where
  pulseWeight := 100
  countingEdge := .rising
  minSpacing := 50
  lossTime := 60
  subLength := 60
  subCount := 15
  syncMode := .free
  grace := 5
  limit := 65535
  margin := 0
  budget := 65535
  startSpacing := 15
  shedSpacing := 5
  settleTime := 30
  complianceTimeout := 60
  skipLimit := 4
  silenceCount := 3
  replyTimeout := 50
  linkSpeed := .b19200
  restartHold := 120
  noticeMask := 0x7FFF#16

/-- The speed divisor of a link speed (R52). -/
def LinkSpeed.divisor : LinkSpeed → Nat
  | .b9600 => 40
  | .b19200 => 20
  | .b38400 => 10

/-- Crystal cycles of one bit time: 16 sample periods of the divisor's cycles (R52). -/
def LinkSpeed.bitCycles (v : LinkSpeed) : Nat := 16 * v.divisor

end Sys2Proof.Machine
end

