-- ==== Sys2Proof/Machine/State.lean ====
section
/-! DEFINITION. The state of the Endafor 3240 as plain data, block by block, and the machine right after a
power-on reset. A field marked MODEL'S OWN is not a register of the manual: it records that an event has been
raised and not yet been taken, so that the event's own command can take it. -/

namespace Sys2Proof.Machine

/-! ### Unit Table -/

/-- Unit state (the status table before R7). -/
inductive UnitState where | unconfigured | active | locked | retiring
deriving DecidableEq, Repr

/-- Link condition of a linked unit (R13, R14). -/
inductive LinkCondition where | heard | silent
deriving DecidableEq, Repr

/-- Condition of a unit (R8, R10). -/
inductive Condition where | normal | tripped
deriving DecidableEq, Repr

/-- Adoption window (R7). -/
inductive Window where | opened | closed
deriving DecidableEq, Repr

/-- The unit status record. The commanded level is not stored (the text after the status table). -/
structure UnitStatus where
  state : UnitState
  link : LinkCondition
  misses : Nat          -- 0..15
  desired : Nat         -- 0..stage count
  running : Nat         -- 0..stage count; a wired unit's running level is its commanded level
  condition : Condition
  window : Window
  noncompliant : Bool
deriving DecidableEq, Repr

/-- The two records of one unit: the working record, absent while UNCONFIGURED, and the status. -/
structure UnitEntry where
  record : Option UnitRecord
  status : UnitStatus
deriving DecidableEq, Repr

/-- The status that configuration and either reset give a configured unit (R3, R20). -/
def UnitStatus.fresh : UnitStatus where
  state := .active
  link := .heard
  misses := 0
  desired := 0
  running := 0
  condition := .normal
  window := .opened
  noncompliant := false

/-- The status of an UNCONFIGURED unit (R6, R17). -/
def UnitStatus.none : UnitStatus := { UnitStatus.fresh with state := .unconfigured }

/-- An UNCONFIGURED unit. -/
def UnitEntry.blank : UnitEntry := { record := Option.none, status := UnitStatus.none }

/-! ### Permit Table and Timer Bank -/

/-- Permit state, in the order of the permit state table (R48). -/
inductive PermitState where | starting | running | draining | stopping | resting
deriving DecidableEq, Repr

/-- Origin of a permit. -/
inductive Origin where | granted | adopted
deriving DecidableEq, Repr

/-- Stop reason, in the order of the permit record table. -/
inductive StopReason where
  | released | shed | curtailed | rotated | locked | retired | forced | tripped | cycled | unpermitted
deriving DecidableEq, Repr

/-- A permit: the record of one stage of one unit. Counter and compare values are the slot's. -/
structure Permit where
  unit : UnitNo
  stage : Nat            -- 0..3
  rating : Nat           -- 1..1023
  state : PermitState
  origin : Origin
  minRunMet : Bool
  rotationDue : Bool
  reason : Option StopReason
deriving DecidableEq, Repr

/-- One slot: FREE (no permit) or holding a permit, with its seconds counter and two compare values. -/
structure Slot where
  permit : Option Permit
  counter : Nat          -- 0..65535 s
  aValue : Nat           -- compare A, 0..1023 s
  aArmed : Bool
  pValue : Nat           -- compare P, 0..63 steps of 64 s
  pArmed : Bool
deriving DecidableEq, Repr

/-- A FREE slot: counter 0, compare A disarmed at 0, compare P disarmed (R53, R56, R64). -/
def Slot.free : Slot where
  permit := none
  counter := 0
  aValue := 0
  aArmed := false
  pValue := 0
  pArmed := false

/-- The start gate (R60, R61). A count that reaches 0 makes it OPEN. -/
inductive StartGate where
  | opened
  | counting (left : Nat)
  | held
deriving DecidableEq, Repr

/-- The shed gate (R62, R63). COUNTING with 0 left is the moment between the tick that brings the count to 0
and the opening that is then taken (R127). -/
inductive ShedGate where
  | opened
  | counting (left : Nat)
deriving DecidableEq, Repr

/-- The dividers of the time base (R50, R51, R161); the link bit divider stands with the roof link. `millisecondDue` and
`secondDue` are MODEL'S OWN: the divider has wrapped and its tick has not been taken yet. -/
structure TimeBase where
  millisecondDivider : Nat   -- crystal cycles, 0..6143
  secondDivider : Nat        -- millisecond ticks, 0..999
  callPhase : Nat            -- millisecond ticks since the last call sample, 0..19
  millisecondDue : Bool
  secondDue : Bool
deriving DecidableEq, Repr

/-! ### Meter Interface -/

/-- An input filter: the filtered level, absent until settled, and the last two samples (R65, R161). -/
structure Filter where
  level : Option Bool
  last1 : Option Bool
  last2 : Option Bool
deriving DecidableEq, Repr

/-- A filter after a reset. -/
def Filter.unsettled : Filter := { level := none, last1 := none, last2 := none }

/-- Meter state (R70). -/
inductive MeterState where | starting | ok | lost
deriving DecidableEq, Repr

/-- Which close the second tick has raised (R75, R77). -/
inductive CloseKind where | free | selfClose
deriving DecidableEq, Repr

/-- The Meter Interface. The last five fields are MODEL'S OWN. -/
structure Meter where
  pulseFilter : Filter
  eoiFilter : Filter
  elapsedMs : Option Nat     -- e, none while not timing
  interval : Option Nat      -- Δt, none until recorded
  state : MeterState
  rate : Nat                 -- P_rate
  energy : Nat               -- E_cur, Wh
  elapsed : Nat              -- of the subinterval clock, s
  syncLost : Bool
  ring : List Nat            -- newest first
  rolling : Nat              -- D_roll
  peak : Nat
  elapsedBefore : Option Nat -- e before the advance of the last millisecond tick
  pulseDue : Bool            -- an edge of PULSE was sampled at the last millisecond tick
  eoiDue : Bool              -- a mark was sampled at the last millisecond tick
  lossDue : Bool             -- the loss test of the last second tick held
  closeDue : Option CloseKind -- the clock's test of the last second tick ended the subinterval
deriving DecidableEq, Repr

/-- The Meter Interface after either reset (R89). -/
def Meter.fresh : Meter where
  pulseFilter := .unsettled
  eoiFilter := .unsettled
  elapsedMs := none
  interval := none
  state := .starting
  rate := 0
  energy := 0
  elapsed := 0
  syncLost := false
  ring := []
  rolling := 0
  peak := 0
  elapsedBefore := none
  pulseDue := false
  eoiDue := false
  lossDue := false
  closeDue := none

/-! ### Wait Queue -/

/-- Why an entry waits, in the order of the queue entry table. -/
inductive WaitReason where
  | hold | curtail | cycle | resting | table | budget | demand | gate | barrier
deriving DecidableEq, Repr

/-- An entry of the Wait Queue. -/
structure QueueEntry where
  unit : UnitNo
  wanted : Nat       -- 1..4
  cls : Nat          -- class copy, 0..7
  skips : Nat        -- 0..15
  reason : WaitReason
  remaining : Nat    -- 0..1023 s
deriving DecidableEq, Repr

/-! ### Shed Controller -/

/-- Site demand state (R125). -/
inductive SiteDemand where | normal | overload
deriving DecidableEq, Repr

/-- The Shed Controller's state; a threshold of `none` is OFF. -/
structure ShedController where
  demand : SiteDemand
  threshold : Option Nat   -- 1..7
  exhausted : Bool
deriving DecidableEq, Repr

/-! ### Roof Link Controller -/

/-- Line state (R152). -/
inductive LineState where | idle | sending | awaiting | gap
deriving DecidableEq, Repr

/-- The receiver (R147). In a character it holds the samples taken since the start bit's first. -/
inductive Receiver where
  | waitingStart
  | inCharacter (samples : List Bool)
  | waitingHigh
deriving DecidableEq, Repr

/-- The transaction in flight: the polled unit, the speed and timeout it began with, and the ten characters
of its poll frame, fixed when the frame was built (R150, R152). -/
structure Transaction where
  unit : UnitNo
  speed : LinkSpeed
  timeout : Nat      -- ms
  frame : List Byte
deriving DecidableEq, Repr

/-- The Roof Link Controller. `replyBroken` is MODEL'S OWN: the reply has ended early and the miss has not
been taken yet. `lineWasHigh` is what the receiver's last sample found, since a start bit begins at the first low
sample after a high one (R147). -/
structure RoofLink where
  line : LineState
  transaction : Option Transaction
  gapSpeed : LinkSpeed       -- speed at which the gap is counted
  bitDivider : Nat           -- crystal cycles within a bit time (R52)
  lineBits : Nat             -- bit times since SENDING or GAP began
  receiver : Receiver
  lineWasHigh : Bool
  reply : List Byte          -- 0..8 characters
  replyTimer : Nat           -- ms since AWAITING began
  urgent : List UnitNo
  ringPosition : Nat         -- 0..32
  silentRound : Option UnitNo -- the last unit polled in the running round
  replyBroken : Bool
deriving DecidableEq, Repr

/-- The Roof Link Controller after either reset, with the speed of the working site record and the lowest
configured linked unit (R159). That no high sample has been seen is a DESIGN CHOICE (log entry 17). -/
def RoofLink.fresh (speed : LinkSpeed) (lowest : Nat) : RoofLink where
  line := .gap
  transaction := none
  gapSpeed := speed
  bitDivider := 0
  lineBits := 0
  receiver := .waitingStart
  lineWasHigh := false
  reply := []
  replyTimer := 0
  urgent := []
  ringPosition := lowest
  silentRound := none
  replyBroken := false

/-! ### Wired Channel block -/

/-- One wired channel. `calling` is the call state last presented. The last two fields are MODEL'S OWN. -/
structure Channel where
  filter : Filter
  calling : Bool
  grantRecorded : Bool
  cycleCounter : Nat    -- 0..65535 s
  callDue : Bool        -- the sample of the last millisecond tick turned the call state over
  testDue : Bool        -- the on-limit test of the last second tick has not been made yet
deriving DecidableEq, Repr

/-- A channel after either reset (R169). -/
def Channel.fresh : Channel where
  filter := .unsettled
  calling := false
  grantRecorded := false
  cycleCounter := 0
  callDue := false
  testDue := false

/-! ### Panel Port, Settings Store -/

/-- Status byte of a response (R172). -/
inductive Status where | ok | badCommand | badValue | inUse | busy | noResponse
deriving DecidableEq, Repr

/-- A latched response: its status and its data bytes (R172). -/
structure Response where
  status : Status
  data : List Byte
deriving DecidableEq, Repr

/-- The Panel Port. The attention line follows from the flags and the mask (R177): `State.attention`. -/
structure PanelPort where
  straps : BitVec 2
  buffer : List Byte      -- at most 40 bytes
  response : Response
  notices : BitVec 16     -- the notice word, bit 15 always 0
deriving DecidableEq, Repr

/-- The port after either reset: buffer empty, response NONE, the flags as given (R177). -/
def PanelPort.fresh (straps : BitVec 2) (notices : BitVec 16) : PanelPort where
  straps := straps
  buffer := []
  response := { status := .noResponse, data := [] }
  notices := notices

/-- The copy that a SAVE in progress is writing (R178): the site record and the 36 places. -/
structure SaveCopy where
  site : List Byte
  places : Vector (Option (List Byte)) 36
deriving DecidableEq, Repr

/-- The Settings Store: the stored bytes, the valid marker, and the SAVE in progress with the milliseconds it
has run. -/
structure SettingsStore where
  site : List Byte                                       -- 32 bytes
  places : Vector (Option (List Byte)) 36  -- a unit record or the empty mark
  valid : Bool
  saving : Option SaveCopy
  savingMs : Nat
deriving DecidableEq, Repr

/-- The restart hold: running with a remaining count, or ended (R180). Running with 0 left is the moment
between the tick that brings the count to 0 and the ending that is then taken. -/
inductive RestartHold where
  | running (left : Nat)
  | ended
deriving DecidableEq, Repr

/-! ### The whole part -/

/-- The state of the part, with the queue of the commands that wait (first in, first out). `openingDue` is MODEL'S
OWN: the start gate's count has made it OPEN and the opening has not been taken yet. -/
structure State where
  timeBase : TimeBase
  units : Vector UnitEntry 36
  slots : Vector Slot 96
  freeList : List SlotNo
  startGate : StartGate
  openingDue : Bool
  shedGate : ShedGate
  meter : Meter
  queue : List QueueEntry
  shed : ShedController
  link : RoofLink
  channels : Vector Channel 4
  panel : PanelPort
  site : SiteRecord
  store : SettingsStore
  hold : RestartHold
  resetHeld : Bool          -- a power-on reset is asserted
  pending : List Instr
deriving DecidableEq, Repr

/-- The dividers right after either reset (R50, R51). -/
def TimeBase.fresh : TimeBase where
  millisecondDivider := 0
  secondDivider := 0
  callPhase := 0
  millisecondDue := false
  secondDue := false

/-- No stop is decided and no curtail is set (R145). -/
def ShedController.fresh : ShedController where
  demand := .normal
  threshold := none
  exhausted := false

/-- A Settings Store that no SAVE has ever completed: its marker is invalid and its places are empty.
DESIGN CHOICE (log entry 1): the manual does not say what a new part's store holds. -/
def SettingsStore.new : SettingsStore where
  site := []
  places := Vector.replicate 36 none
  valid := false
  saving := none
  savingMs := 0

/-- Fault reasons. The manual gives this block no fault: a command that it cannot take is answered with a
status byte (R172), and everything else runs. So the type has no constructor, and no command can fault. -/
inductive Fault where
deriving DecidableEq, Repr

/-- Refusals. -/
inductive Refusal where
  /-- Raised by `exec` alone, for a row of the table without a meaning in this model, under the row's
  mnemonic. Safe: the model stops where the part goes on. No arm raises it. -/
  | notModelled (mnemonic : String)
deriving DecidableEq, Repr

/-- The part right after a power-on reset with an invalid Settings Store: the site defaults are the working
site record, every unit is UNCONFIGURED, RESTARTED and SETTINGS INVALID are raised (R177, R179), the restart
hold runs for its default of 120 s and the start gate is HELD (R61, R180). The straps read 0 (DESIGN
CHOICE, log entry 1). -/
def State.reset : State where
  timeBase := .fresh
  units := Vector.replicate 36 .blank
  slots := Vector.replicate 96 .free
  freeList := List.finRange 96
  startGate := .held
  openingDue := false
  shedGate := .opened
  meter := .fresh
  queue := []
  shed := .fresh
  link := .fresh siteDefaults.linkSpeed 0
  channels := Vector.replicate 4 .fresh
  panel := .fresh 0#2 0x0003#16
  site := siteDefaults
  store := .new
  hold := .running siteDefaults.restartHold
  resetHeld := false
  pending := []

end Sys2Proof.Machine
end

