-- ==== Sys2Proof/Machine/Operands.lean ====
section
/-! DEFINITION. The encoding of fields on the panel port (R173) and the byte layouts of the unit record (R174)
and of the site record (the site default table before R179), each with its reading. -/

namespace Sys2Proof.Machine

/-- A number of one byte. -/
def byte1 (n : Nat) : List Byte := [BitVec.ofNat 8 n]

/-- A number of two bytes, most significant byte first. -/
def byte2 (n : Nat) : List Byte := [BitVec.ofNat 8 (n / 256), BitVec.ofNat 8 n]

/-- A number of three bytes, most significant byte first. -/
def byte3 (n : Nat) : List Byte := BitVec.ofNat 8 (n / 65536) :: byte2 n

/-- A number of four bytes, most significant byte first. -/
def byte4 (n : Nat) : List Byte := BitVec.ofNat 8 (n / 16777216) :: byte3 n

/-- A flag: 0 for clear and 1 for set (R173). -/
def flagByte (b : Bool) : List Byte := [if b then 1#8 else 0#8]

/-- The byte of an absent field (R173). -/
def absentByte : List Byte := [0xFF#8]

/-- The number that two bytes carry. -/
def number2 (hi lo : Byte) : Nat := hi.toNat * 256 + lo.toNat

/-! ### Named values: numbered from 0 in the order of their owner's table (R173) -/

def Polarity.code : Polarity → Nat
  | .activeHigh => 0
  | .activeLow => 1

def Polarity.ofCode : Nat → Option Polarity
  | 0 => some .activeHigh
  | 1 => some .activeLow
  | _ => none

def CyclingMode.code : CyclingMode → Nat
  | .always => 0
  | .whenShedding => 1

def CyclingMode.ofCode : Nat → Option CyclingMode
  | 0 => some .always
  | 1 => some .whenShedding
  | _ => none

def CountingEdge.code : CountingEdge → Nat
  | .rising => 0
  | .falling => 1
  | .both => 2

def CountingEdge.ofCode : Nat → Option CountingEdge
  | 0 => some .rising
  | 1 => some .falling
  | 2 => some .both
  | _ => none

def SyncMode.code : SyncMode → Nat
  | .free => 0
  | .meter => 1

def SyncMode.ofCode : Nat → Option SyncMode
  | 0 => some .free
  | 1 => some .meter
  | _ => none

def LinkSpeed.code : LinkSpeed → Nat
  | .b9600 => 0
  | .b19200 => 1
  | .b38400 => 2

def LinkSpeed.ofCode : Nat → Option LinkSpeed
  | 0 => some .b9600
  | 1 => some .b19200
  | 2 => some .b38400
  | _ => none

def UnitState.code : UnitState → Nat
  | .unconfigured => 0
  | .active => 1
  | .locked => 2
  | .retiring => 3

def LinkCondition.code : LinkCondition → Nat
  | .heard => 0
  | .silent => 1

def Condition.code : Condition → Nat
  | .normal => 0
  | .tripped => 1

def Window.code : Window → Nat
  | .opened => 0
  | .closed => 1

/-- The codes of the permit states; FREE is coded 5 (R48). -/
def PermitState.code : PermitState → Nat
  | .starting => 0
  | .running => 1
  | .draining => 2
  | .stopping => 3
  | .resting => 4

def Origin.code : Origin → Nat
  | .granted => 0
  | .adopted => 1

def StopReason.code : StopReason → Nat
  | .released => 0
  | .shed => 1
  | .curtailed => 2
  | .rotated => 3
  | .locked => 4
  | .retired => 5
  | .forced => 6
  | .tripped => 7
  | .cycled => 8
  | .unpermitted => 9

def WaitReason.code : WaitReason → Nat
  | .hold => 0
  | .curtail => 1
  | .cycle => 2
  | .resting => 3
  | .table => 4
  | .budget => 5
  | .demand => 6
  | .gate => 7
  | .barrier => 8

def MeterState.code : MeterState → Nat
  | .starting => 0
  | .ok => 1
  | .lost => 2

def Status.code : Status → Nat
  | .ok => 0
  | .badCommand => 1
  | .badValue => 2
  | .inUse => 3
  | .busy => 4
  | .noResponse => 5

/-! ### The unit record on the port (R174) -/

/-- The five wired fields, in the layout's order. -/
def WiredFields.encode (w : WiredFields) : List Byte :=
  byte1 w.cyclePeriod ++ byte1 w.onLimit ++ byte1 w.cyclingMode.code ++ byte1 w.drivePolarity.code
    ++ byte1 w.callPolarity.code

/-- The unit record in the layout of R174. -/
def UnitRecord.encode (u : UnitNo) (r : UnitRecord) : List Byte :=
  byte1 u.val ++ byte1 r.ratings.length ++ r.ratings.flatMap byte2 ++ byte1 r.cls ++ byte2 r.minRun
    ++ byte2 r.minOff ++ byte1 r.rotation ++ (r.wired.elim [] WiredFields.encode)

/-- A list of two-byte numbers of a stated length, with the bytes that follow it. -/
def takeRatings : Nat → List Byte → Option (List Nat × List Byte)
  | 0, bs => some ([], bs)
  | n + 1, hi :: lo :: bs => (takeRatings n bs).map fun q => (number2 hi lo :: q.1, q.2)
  | _ + 1, _ => none

/-- The wired fields, present with all five bytes, absent, or of a wrong length or value. -/
def takeWired : List Byte → Option (Option WiredFields)
  | [] => some none
  | [p, l, m, d, c] => do
    let mode ← CyclingMode.ofCode m.toNat
    let drive ← Polarity.ofCode d.toNat
    let call ← Polarity.ofCode c.toNat
    pure (some { cyclePeriod := p.toNat, onLimit := l.toNat, cyclingMode := mode, drivePolarity := drive,
                 callPolarity := call })
  | _ => none

/-- The fields behind the ratings: class, minimum run, minimum off, rotation, wired fields. -/
def takeUnitTail (ratings : List Nat) : List Byte → Option UnitRecord
  | c :: r1 :: r0 :: o1 :: o0 :: rt :: rest =>
    (takeWired rest).map fun w =>
      { ratings := ratings, cls := c.toNat, minRun := number2 r1 r0, minOff := number2 o1 o0,
        rotation := rt.toNat, wired := w }
  | _ => none

/-- The unit number and record that the bytes of a SET UNIT carry, passing every test of R2 and R174: `none`
where any of them fails (status BAD VALUE). The byte count is right exactly when the ratings and the fields
behind them use up the bytes. -/
def parseUnitRecord : List Byte → Option (UnitNo × UnitRecord)
  | ub :: nb :: rest =>
    if h : ub.toNat < 36 then
      match takeRatings nb.toNat rest with
      | some (ratings, tail) =>
        match takeUnitTail ratings tail with
        | some r => if r.valid ⟨ub.toNat, h⟩ then some (⟨ub.toNat, h⟩, r) else none
        | none => none
      | none => none
    else none
  | _ => none

/-! ### The site record on the port (the site default table before R179) -/

/-- The site record in record order, 32 bytes. -/
def SiteRecord.encode (r : SiteRecord) : List Byte :=
  byte2 r.pulseWeight ++ byte1 r.countingEdge.code ++ byte2 r.minSpacing ++ byte2 r.lossTime
    ++ byte2 r.subLength ++ byte1 r.subCount ++ byte1 r.syncMode.code ++ byte1 r.grace ++ byte2 r.limit
    ++ byte2 r.margin ++ byte2 r.budget ++ byte1 r.startSpacing ++ byte1 r.shedSpacing
    ++ byte2 r.settleTime ++ byte2 r.complianceTimeout ++ byte1 r.skipLimit ++ byte1 r.silenceCount
    ++ byte1 r.replyTimeout ++ byte1 r.linkSpeed.code ++ byte2 r.restartHold ++ byte2 r.noticeMask.toNat

/-- The site record that 32 bytes carry, passing every test of SET SITE (R85): `none` where one fails. -/
def parseSiteRecord : List Byte → Option SiteRecord
  | [w1, w0, ce, sp1, sp0, lt1, lt0, t1, t0, sc, sm, g, d1, d0, m1, m0, f1, f0, st, sh, se1, se0, co1, co0,
      sk, si, rt, ls, rh1, rh0, nm1, nm0] => do
    let edge ← CountingEdge.ofCode ce.toNat
    let mode ← SyncMode.ofCode sm.toNat
    let speed ← LinkSpeed.ofCode ls.toNat
    let r : SiteRecord :=
      { pulseWeight := number2 w1 w0, countingEdge := edge, minSpacing := number2 sp1 sp0,
        lossTime := number2 lt1 lt0, subLength := number2 t1 t0, subCount := sc.toNat, syncMode := mode,
        grace := g.toNat, limit := number2 d1 d0, margin := number2 m1 m0, budget := number2 f1 f0,
        startSpacing := st.toNat, shedSpacing := sh.toNat, settleTime := number2 se1 se0,
        complianceTimeout := number2 co1 co0, skipLimit := sk.toNat, silenceCount := si.toNat,
        replyTimeout := rt.toNat, linkSpeed := speed, restartHold := number2 rh1 rh0,
        noticeMask := nm1 ++ nm0 }
    if r.valid then some r else none
  | _ => none

end Sys2Proof.Machine
end

