-- ==== Sys2Proof/Machine/Flags.lean ====
section
/-! DEFINITION. The notice flags and the attention line (R176, R177). -/

namespace Sys2Proof.Machine

/-- The fifteen notices, in the order of the notice word (R176). -/
inductive Notice where
  | restarted | settingsInvalid | unitSilent | unitBack | noncompliant | tableFull | queueFull | meterLost
  | meterNoise | syncLost | syncSlip | overload | limitExceeded | unitRetired | shedExhausted
deriving DecidableEq, Repr

/-- The bit of a notice in the notice word (R176). -/
def Notice.bit : Notice → Nat
  | .restarted => 0
  | .settingsInvalid => 1
  | .unitSilent => 2
  | .unitBack => 3
  | .noncompliant => 4
  | .tableFull => 5
  | .queueFull => 6
  | .meterLost => 7
  | .meterNoise => 8
  | .syncLost => 9
  | .syncSlip => 10
  | .overload => 11
  | .limitExceeded => 12
  | .unitRetired => 13
  | .shedExhausted => 14

/-- The word with one flag set. -/
def Notice.word (n : Notice) : BitVec 16 := BitVec.twoPow 16 n.bit

/-- Raising sets the flag; a flag already set stays set (R176). -/
def State.raise (n : Notice) (s : State) : State :=
  { s with panel := { s.panel with notices := s.panel.notices ||| n.word } }

/-- Whether a flag is set. -/
def State.raised (s : State) (n : Notice) : Bool := s.panel.notices.getLsbD n.bit

/-- Raising a notice only where a condition holds. -/
def State.raiseIf (c : Bool) (n : Notice) (s : State) : State := if c then s.raise n else s

/-- The attention line is asserted while at least one flag whose mask bit is set is set, and released while a
power-on reset is held (R177). It follows the flags and the mask at once, so it is a view of them. -/
def State.attention (s : State) : Bool :=
  !s.resetHeld && decide (s.panel.notices &&& s.site.noticeMask ≠ 0#16)

end Sys2Proof.Machine
end

