-- ==== Sys2Proof/Machine/Ops.lean ====
section
/-! DEFINITION. The shared operations over units, slots and permits: reading them, the entries of a permit into
each state with their timer loadings, freeing, retirement, hand-over of the commanded level, the entry into a
stop and top order. -/

namespace Sys2Proof.Machine

/-! ### Units -/

/-- The 36 units, in ascending order. -/
def allUnits : List UnitNo := List.finRange 36

/-- The 96 slots, in ascending order. -/
def allSlots : List SlotNo := List.finRange 96

/-- The working record of a unit. -/
def State.record (s : State) (u : UnitNo) : Option UnitRecord := s.units[u].record

/-- The stored status of a unit. -/
def State.status (s : State) (u : UnitNo) : UnitStatus := s.units[u].status

/-- Changes a unit's status. -/
def State.modifyStatus (u : UnitNo) (f : UnitStatus → UnitStatus) (s : State) : State :=
  { s with units := s.units.set u { s.units[u] with status := f s.units[u].status } }

/-- Whether a unit is configured: ACTIVE, LOCKED or RETIRING. -/
def State.configured (s : State) (u : UnitNo) : Bool := decide ((s.status u).state ≠ .unconfigured)

/-- The stage count of a unit, 0 without a record. -/
def State.stageCount (s : State) (u : UnitNo) : Nat := (s.record u).elim 0 UnitRecord.stageCount

/-- The class of a unit as the unit record holds it at the moment, 0 without a record. -/
def State.cls (s : State) (u : UnitNo) : Nat := (s.record u).elim 0 UnitRecord.cls

/-- The minimum run of a unit as its record holds it at the moment of a loading (R55). -/
def State.minRun (s : State) (u : UnitNo) : Nat := (s.record u).elim 0 UnitRecord.minRun

/-- The minimum off of a unit as its record holds it at the moment of a loading (R55). -/
def State.minOff (s : State) (u : UnitNo) : Nat := (s.record u).elim 0 UnitRecord.minOff

/-- The rotation of a unit as its record holds it at the moment of a loading (R57). -/
def State.rotation (s : State) (u : UnitNo) : Nat := (s.record u).elim 0 UnitRecord.rotation

/-- The rating of stage k of a unit, where the record has that stage. -/
def State.rating (s : State) (u : UnitNo) (k : Nat) : Option Nat := (s.record u).bind fun r => r.ratings[k]?

/-! ### Permits -/

/-- Commanded on: STARTING, RUNNING or DRAINING (R24). -/
def PermitState.commandedOn : PermitState → Bool
  | .starting | .running | .draining => true
  | .stopping | .resting => false

/-- Whether a slot holds a permit of a unit with a property. -/
def State.holds (s : State) (u : UnitNo) (f : Permit → Bool) (i : SlotNo) : Bool :=
  match s.slots[i].permit with
  | some p => decide (p.unit = u) && f p
  | none => false

/-- The slots that hold a permit of a unit with a property, in ascending order. -/
def State.slotsOf (s : State) (u : UnitNo) (f : Permit → Bool) : List SlotNo := allSlots.filter (s.holds u f)

/-- The commanded level: the number of the unit's permits that are commanded on (R24). -/
def State.level (s : State) (u : UnitNo) : Nat := (s.slotsOf u (·.state.commandedOn)).length

/-- The slot of a unit's permit at a stage, if it has one; no two permits share unit and stage (R23). -/
def State.slotAt (s : State) (u : UnitNo) (k : Nat) : Option SlotNo :=
  allSlots.find? (s.holds u fun p => decide (p.stage = k))

/-- The slot of the unit's top commanded-on permit, the one at stage L − 1 (R30). -/
def State.topSlot (s : State) (u : UnitNo) : Option SlotNo :=
  match s.level u with
  | 0 => none
  | l + 1 => allSlots.find? (s.holds u fun p => decide (p.stage = l) && p.state.commandedOn)

/-- Whether the unit has a permit in STOPPING. -/
def State.hasStopping (s : State) (u : UnitNo) : Bool :=
  allSlots.any (s.holds u fun p => decide (p.state = .stopping))

/-- Whether the unit holds any non-free permit. -/
def State.hasPermit (s : State) (u : UnitNo) : Bool := allSlots.any (s.holds u fun _ => true)

/-- The number of the unit's non-free permits. -/
def State.permitCount (s : State) (u : UnitNo) : Nat := (s.slotsOf u fun _ => true).length

/-- What a slot adds to a load when its permit is in a state that counts. -/
def Slot.load (counts : PermitState → Bool) (sl : Slot) : Nat :=
  match sl.permit with
  | some p => if counts p.state then p.rating else 0
  | none => 0

/-- The unsettled load U: the sum of the ratings of STARTING permits (R46). -/
def State.unsettled (s : State) : Nat :=
  (allSlots.map fun i => s.slots[i].load fun st => decide (st = .starting)).sum

/-- The committed load C: the sum of the ratings of permits in STARTING, RUNNING, DRAINING and STOPPING (R46). -/
def State.committed (s : State) : Nat :=
  (allSlots.map fun i => s.slots[i].load fun st => decide (st ≠ .resting)).sum

/-- The running level: for a wired unit its commanded level, otherwise as recorded (R11, R164). -/
def State.runningLevel (s : State) (u : UnitNo) : Nat := if isWired u then s.level u else (s.status u).running

/-- The effective desired level D: the recorded one while NORMAL, 0 while TRIPPED (R9). -/
def State.effectiveDesired (s : State) (u : UnitNo) : Nat :=
  if (s.status u).condition = .normal then (s.status u).desired else 0

/-- The remaining time of a STOPPING or RESTING permit: compare A less the counter, 0 once reached (R47). -/
def Slot.remaining (sl : Slot) : Nat := sl.aValue - sl.counter

/-! ### Loadings of a slot's compare values -/

/-- Whether compare A has expired and its expiry has not been taken: armed, with the counter at or above it. -/
def Slot.aDue (sl : Slot) : Bool := sl.aArmed && decide (sl.aValue ≤ sl.counter)

/-- Whether compare P has expired and its expiry has not been taken (R57). -/
def Slot.pDue (sl : Slot) : Bool := sl.pArmed && decide (sl.pValue * 64 ≤ sl.counter)

/-- Loading compare A arms it, unless the counter is at or above the value: then it expires at once and is
disarmed, and the loading operation takes the expiry (R55). -/
def Slot.loadA (v : Nat) (sl : Slot) : Slot := { sl with aValue := v, aArmed := decide (sl.counter < v) }

/-- Loading compare P with the rotation: 0 stays disarmed; a counter already at or past P × 64 s sets rotation
due at once (R57). -/
def Slot.loadP (rot : Nat) (sl : Slot) : Slot :=
  { sl with
    pValue := rot
    pArmed := decide (rot ≠ 0) && decide (sl.counter < rot * 64)
    permit := sl.permit.map fun p =>
      { p with rotationDue := decide (rot ≠ 0) && decide (rot * 64 ≤ sl.counter) } }

/-- Every exit from RUNNING disarms compare P and clears rotation due (R57). -/
def Slot.disarmP (sl : Slot) : Slot :=
  { sl with pArmed := false, permit := sl.permit.map fun p => { p with rotationDue := false } }

/-- Records a stop reason on the slot's permit. -/
def Slot.setReason (r : StopReason) (sl : Slot) : Slot :=
  { sl with permit := sl.permit.map fun p => { p with reason := some r } }

/-! ### Entries of a permit into its states (R25 to R34, R54, R55) -/

/-- RUNNING from STARTING at settle expiry: the counter continues, compare A takes the minimum run, and
min-run met is set at once where the counter has reached it (R27). -/
def Slot.enterRunningSettled (minRun rot : Nat) (sl : Slot) : Slot :=
  Slot.loadP rot <| Slot.loadA minRun
    { sl with
      permit := sl.permit.map fun p =>
        { p with state := .running, reason := none, minRunMet := p.minRunMet || decide (minRun ≤ sl.counter) } }

/-- RUNNING from DRAINING by a restore: the counter, min-run met and an armed minimum run are kept (R27, R40). -/
def Slot.enterRunningRestored (rot : Nat) (sl : Slot) : Slot :=
  Slot.loadP rot { sl with permit := sl.permit.map fun p => { p with state := .running, reason := none } }

/-- RUNNING by adoption, of a new or a turned permit: the counter is cleared, min-run is met, compare A is
disarmed at 0 (R27, R42, R55). -/
def Slot.enterRunningAdopted (rot : Nat) (sl : Slot) : Slot :=
  Slot.loadP rot
    { sl with
      counter := 0
      aValue := 0
      aArmed := false
      permit := sl.permit.map fun p =>
        { p with state := .running, origin := .adopted, reason := none, minRunMet := true } }

/-- A slot taken for a new permit, before the loadings of its state of entry. -/
def Slot.newPermit (u : UnitNo) (k rating : Nat) (st : PermitState) (o : Origin) (met : Bool)
    (r : Option StopReason) : Slot :=
  { Slot.free with
    permit := some { unit := u, stage := k, rating := rating, state := st, origin := o, minRunMet := met,
                     rotationDue := false, reason := r } }

/-- A granted permit: STARTING, compare A with the settle time (R25); a settle time of 0 s leaves it RUNNING
when the grant is complete (R55). -/
def Slot.granted (u : UnitNo) (k rating settle minRun rot : Nat) : Slot :=
  let sl := (Slot.newPermit u k rating .starting .granted false none).loadA settle
  if settle = 0 then sl.enterRunningSettled minRun rot else sl

/-- DRAINING from STARTING or RUNNING: the counter continues, compare P is disabled, the reason is recorded;
with min-run not met compare A is loaded with the minimum run, and with it met compare A is disarmed and
keeps its value (R29, R55). -/
def Slot.enterDraining (r : StopReason) (minRun : Nat) (sl : Slot) : Slot :=
  let drained : Slot := { sl with
    permit := sl.permit.map fun p =>
      { p with state := .draining, reason := some r, minRunMet := p.minRunMet || decide (minRun ≤ sl.counter) } }
  Slot.disarmP (if sl.permit.any (·.minRunMet) then { drained with aArmed := false } else drained.loadA minRun)

/-- STOPPING: the counter is cleared and compare A is loaded with the compliance timeout; the reason already
recorded is kept (R31). -/
def Slot.enterStopping (compliance : Nat) (sl : Slot) : Slot :=
  Slot.disarmP <| Slot.loadA compliance
    { sl with counter := 0, permit := sl.permit.map fun p => { p with state := .stopping } }

/-- RESTING: the counter is cleared and compare A is loaded with the minimum off; the reason is kept (R34). -/
def Slot.enterResting (minOff : Nat) (sl : Slot) : Slot :=
  Slot.disarmP <| Slot.loadA minOff
    { sl with counter := 0, permit := sl.permit.map fun p => { p with state := .resting } }

/-- A second tick at a slot: the counter of a slot that holds a permit advances, saturating (R53). -/
def Slot.tick (sl : Slot) : Slot :=
  if sl.permit.isSome then { sl with counter := min Config.counterMax (sl.counter + 1) } else sl

/-- Changes one slot. -/
def State.modifySlot (i : SlotNo) (f : Slot → Slot) (s : State) : State :=
  { s with slots := s.slots.set i (f s.slots[i]) }

/-! ### Link and channel hand-over of the commanded level (R24, R156) -/

/-- A configured linked unit joins the tail of the urgent list, unless it is on it already (R156). -/
def State.joinUrgent (u : UnitNo) (s : State) : State :=
  if isWired u || !s.configured u || s.link.urgent.contains u then s
  else { s with link := { s.link with urgent := s.link.urgent ++ [u] } }

/-- Hands a unit over when its commanded level is no longer what it was before (R24). A wired unit's drive
output is a view of its level (`State.driveOutput`) and follows by itself. -/
def State.handOver (u : UnitNo) (before : Nat) (s : State) : State :=
  if s.level u = before then s else s.joinUrgent u

/-! ### Freeing and retirement -/

/-- Changes one channel. -/
def State.modifyChannel (c : ChannelNo) (f : Channel → Channel) (s : State) : State :=
  { s with channels := s.channels.set c (f s.channels[c]) }

/-- Clears a channel's grant-recorded mark and cycle counter (R165), and its call state where told (R162). -/
def Channel.clearCycle (ch : Channel) : Channel := { ch with grantRecorded := false, cycleCounter := 0 }

/-- A channel whose unit is UNCONFIGURED presents nothing and is RELEASED (R162). -/
def Channel.dropUnit (ch : Channel) : Channel :=
  { ch.clearCycle with calling := false, callDue := false, testDue := false }

/-- Applies a change to the channel of a wired unit; a linked unit has none. -/
def State.onChannelOf (u : UnitNo) (f : Channel → Channel) (s : State) : State :=
  match channelOf u with
  | some c => s.modifyChannel c f
  | none => s

/-- The completion of a retirement (R17): the unit becomes UNCONFIGURED, its working record is removed, it
leaves the urgent list, its channel stops acting, and UNIT RETIRED is raised. The poll ring and the silent
list are views of the unit records, which it leaves with its record. -/
def State.completeRetirement (u : UnitNo) (s : State) : State :=
  State.raise .unitRetired <| State.onChannelOf u Channel.dropUnit
    { s with
      units := s.units.set u .blank
      link := { s.link with urgent := s.link.urgent.filter fun v => decide (v ≠ u) } }

/-- Completes the retirement of a RETIRING unit that holds no non-free permit (R17). -/
def State.retireIfEmpty (u : UnitNo) (s : State) : State :=
  if (s.status u).state = .retiring && !s.hasPermit u then s.completeRetirement u else s

/-- Frees a slot to the tail of the free list (R22, R35); the last permit of a RETIRING unit completes its
retirement. -/
def State.freeSlot (u : UnitNo) (i : SlotNo) (s : State) : State :=
  State.retireIfEmpty u { s with slots := s.slots.set i .free, freeList := s.freeList ++ [i] }

/-- Sends a permit of a unit to RESTING (R34). A minimum off of 0 s expires at the loading, so the slot is
freed within the operation (R55). -/
def State.restSlot (u : UnitNo) (i : SlotNo) (s : State) : State :=
  if s.minOff u = 0 then s.freeSlot u i else s.modifySlot i (Slot.enterResting (s.minOff u))

/-- Sends a permit to STOPPING; a wired unit's permit passes to RESTING at the moment of entry (R31). -/
def State.stopSlot (u : UnitNo) (i : SlotNo) (s : State) : State :=
  if isWired u then s.restSlot u i else s.modifySlot i (Slot.enterStopping s.site.complianceTimeout)

/-- The noncompliant flag clears when the unit is left with no permit in STOPPING (R33). -/
def State.settleCompliance (u : UnitNo) (s : State) : State :=
  if s.hasStopping u then s else s.modifyStatus u fun st => { st with noncompliant := false }

/-! ### Top order and the entry into a stop -/

/-- The descent of top order, at most as many times as a unit has stages (R30). -/
def State.descend : Nat → UnitNo → State → State
  | 0, _, s => s
  | n + 1, u, s =>
    match s.topSlot u with
    | some i =>
      match s.slots[i].permit with
      | some p =>
        if p.state = .draining && p.minRunMet then State.descend n u (s.stopSlot u i) else s
      | none => s
    | none => s

/-- Top order applied to a unit (R30). -/
def State.topOrder (u : UnitNo) (s : State) : State := s.descend 4 u

/-- The slots of the STARTING and RUNNING permits of a unit among a set of its stages. -/
def State.stoppable (s : State) (u : UnitNo) (stages : Nat → Bool) : List SlotNo :=
  s.slotsOf u fun p => (decide (p.state = .starting) || decide (p.state = .running)) && stages p.stage

/-- The entry into a stop: each STARTING or RUNNING permit of the set goes to DRAINING with the reason, and top
order is then applied to the unit (R36). -/
def State.enterStop (u : UnitNo) (r : StopReason) (stages : Nat → Bool) (s : State) : State :=
  State.topOrder u <|
    (s.stoppable u stages).foldl (fun t i => t.modifySlot i (Slot.enterDraining r (t.minRun u))) s

/-- Takes the slot at the head of the free list for a new permit; `none` when the list is empty (R22). -/
def State.takeFree (sl : Slot) (s : State) : Option State :=
  match s.freeList with
  | [] => none
  | i :: rest => some { s with slots := s.slots.set i sl, freeList := rest }

/-- The drive output of a wired channel: undriven without a configured unit or while a reset is held, otherwise
active exactly when the unit's commanded level is 1 (R163). -/
inductive Drive where | undriven | inactive | active
deriving DecidableEq, Repr

/-- The drive output of a channel, a view of the commanded level (R163). -/
def State.driveOutput (s : State) (c : ChannelNo) : Drive :=
  if s.resetHeld || !s.configured (channelUnit c) then .undriven
  else if s.level (channelUnit c) = 1 then .active else .inactive

/-- The level that a drive output shows: `some true` is high, `none` is undriven (R163). -/
def State.driveLevel (s : State) (c : ChannelNo) : Option Bool :=
  match s.driveOutput c, (s.record (channelUnit c)).bind UnitRecord.wired with
  | .active, some w => some (decide (w.drivePolarity = .activeHigh))
  | .inactive, some w => some (decide (w.drivePolarity = .activeLow))
  | _, _ => none

end Sys2Proof.Machine
end

