-- ==== Sys2Proof/Machine/Demand.lean ====
section
/-! DEFINITION. The demand figures of the Meter Interface and what is tested against them: filters, the close of
a subinterval, the regimes, the projection, the admission test and the shed test (R65 to R88). -/

namespace Sys2Proof.Machine

/-! ### Input filters (R65, R161) -/

/-- One sample of a filter: the level changes at the sample that is the third in a row to show the new level. -/
def Filter.sample (x : Bool) (f : Filter) : Filter :=
  { level := if f.last1 = some x && f.last2 = some x then some x else f.level
    last1 := some x
    last2 := f.last1 }

/-- The change that a sample made: `some true` from low to high, `some false` from high to low; the first
level a filter gets is no change. -/
def Filter.change (before after : Filter) : Option Bool :=
  match before.level, after.level with
  | some a, some b => if a = b then none else some b
  | _, _ => none

/-- Whether a change of the filtered PULSE level is an edge by the counting edge (R66). -/
def CountingEdge.counts : CountingEdge → Bool → Bool
  | .rising, up => up
  | .falling, up => !up
  | .both, _ => true

/-! ### Figures -/

/-- The demand window W = S × T_s (the text after the limits table). -/
def SiteRecord.window (r : SiteRecord) : Nat := r.subCount * r.subLength

/-- The remaining time of the subinterval, t_rem = max(0, T_s − elapsed) (R75). -/
def State.remainingTime (s : State) : Nat := s.site.subLength - s.meter.elapsed

/-- The regime, read from the meter state and the ring fill (R81). -/
inductive Regime where | fallback | warming | full
deriving DecidableEq, Repr

def State.regime (s : State) : Regime :=
  if s.meter.state = .ok then
    (if s.meter.ring.length + 1 < s.site.subCount then .warming else .full)
  else .fallback

/-- The regime's code in READ DEMAND (R175). -/
def Regime.code : Regime → Nat
  | .fallback => 0
  | .warming => 1
  | .full => 2

/-- E_back: the exact sum of the newest S − 1 entries of the ring (R82). In WARMING the ring holds fewer than
S − 1 entries, so this is the sum of all of them, as R88 asks for the reported figure. -/
def State.energyBack (s : State) : Nat := (s.meter.ring.take (s.site.subCount - 1)).sum

/-- Proj_E(ΔP) (R82). -/
def State.projectedEnergy (s : State) (extra : Nat) : Nat :=
  s.energyBack + s.meter.energy + (s.meter.rate + s.unsettled + extra) * s.remainingTime / 36

/-- D_proj(ΔP) (R82). -/
def State.projected (s : State) (extra : Nat) : Nat :=
  min Config.powerMax (s.projectedEnergy extra * 36 / s.site.window)

/-- The projected demand as READ DEMAND reports it: 0 in FALLBACK (R88). -/
def State.reportedProjection (s : State) : Nat :=
  if s.regime = .fallback then 0 else s.projected 0

/-- The steady test of a candidate (R83). -/
def State.steadyTest (s : State) (extra : Nat) : Bool :=
  decide (s.meter.rate + s.unsettled + extra ≤ s.site.limit)

/-- The window test of a candidate (R83). -/
def State.windowTest (s : State) (extra : Nat) : Bool :=
  decide (s.projected extra ≤ s.site.limit - s.site.margin)

/-- The admission test of the regime in force: the reason on failure, `none` when the stage passes (R83). -/
def State.demandObstacle (s : State) (extra : Nat) : Option WaitReason :=
  match s.regime with
  | .fallback => if s.committed + extra ≤ s.site.budget then none else some .budget
  | .warming => if s.steadyTest extra then none else some .demand
  | .full => if s.windowTest extra && s.steadyTest extra then none else some .demand

/-- The shed test: whether the site is over its limit (R84). -/
def State.overLimit (s : State) : Bool :=
  match s.regime with
  | .fallback => decide (s.site.budget < s.committed)
  | .warming => decide (s.site.limit < s.meter.rate + s.unsettled)
  | .full => decide (s.site.limit < s.projected 0)

/-! ### The close of a subinterval -/

/-- Changes the Meter Interface. -/
def State.modifyMeter (f : Meter → Meter) (s : State) : State := { s with meter := f s.meter }

/-- The rolling demand over a ring (R78, R79). -/
def SiteRecord.rollingOf (r : SiteRecord) (ring : List Nat) : Nat :=
  min Config.powerMax (ring.sum * 36 / r.window)

/-- The operation of a close on the Meter Interface: push, zero, publish, peak (R78). A close that the last second tick
raised and that has not been taken yet is over with it: an EOI mark that is taken between the tick and FREE_CLOSE or
SELF_CLOSE is the one close of that moment, and leaves elapsed 0. R77 states the mark before the tick and the mark after
the self-close, and not the mark between them: DESIGN CHOICE (log entry 27). -/
def Meter.close (site : SiteRecord) (m : Meter) : Meter :=
  let ring := (m.energy :: m.ring).take site.subCount
  let rolling := site.rollingOf ring
  { m with
    ring := ring
    energy := 0
    elapsed := 0
    rolling := rolling
    peak := if ring.length = site.subCount then max m.peak rolling else m.peak
    closeDue := none }

/-- A close of the subinterval, with LIMIT EXCEEDED where the published demand is above the limit (R78). -/
def State.closeSubinterval (s : State) : State :=
  let t := s.modifyMeter (Meter.close s.site)
  t.raiseIf (decide (t.site.limit < t.meter.rolling)) .limitExceeded

/-- Emptying the ring publishes D_roll as 0 (R79). -/
def Meter.emptyRing (m : Meter) : Meter := { m with ring := [], rolling := 0 }

/-- A change of T_s or S restarts the subinterval bookkeeping (R86). It withdraws a close that the last second tick raised and
that has not been taken yet: DESIGN CHOICE (log entry 27). -/
def Meter.restartSubinterval (m : Meter) : Meter :=
  { m.emptyRing with energy := 0, elapsed := 0, syncLost := false, closeDue := none }

/-! ### Rate, decay and loss -/

/-- floor(w × 36000 / t), clamped (R71, R72). -/
def SiteRecord.rateOver (r : SiteRecord) (ms : Nat) : Nat := min Config.powerMax (r.pulseWeight * 36000 / ms)

/-- Whether the time since the last counted pulse exceeds the meter loss time (R73). -/
def Meter.lossHolds (site : SiteRecord) (m : Meter) : Bool :=
  decide (m.state = .ok) && m.elapsedMs.any fun e => decide (site.lossTime * 1000 < e)

/-- The Meter Interface's part of a second tick in OK: the loss test first; if it holds, the loss is raised for
METER_LOSS to take and nothing decays; if not, the rate decays where e exceeds Δt (R72, R73). -/
def Meter.secondTick (site : SiteRecord) (m : Meter) : Meter :=
  if m.lossHolds site then { m with lossDue := true }
  else
    match m.state, m.elapsedMs, m.interval with
    | .ok, some e, some d => if d < e then { m with rate := site.rateOver e } else m
    | _, _, _ => m

/-- The subinterval clock's part of a second tick: elapsed rises by 1, then the clock tests whether the
subinterval ends at this tick (R75, R77). -/
def Meter.clockTick (site : SiteRecord) (m : Meter) : Meter :=
  let n := m.elapsed + 1
  { m with
    elapsed := n
    closeDue :=
      if site.syncMode = .free || m.syncLost then (if site.subLength ≤ n then some .free else none)
      else if site.subLength + site.grace ≤ n then some .selfClose else none }

/-- The loss of the meter: LOST, P_rate 0 (R73). -/
def Meter.lose (m : Meter) : Meter := { m with state := .lost, rate := 0, lossDue := false }

/-! ### Counted pulses (R67 to R71, R74) -/

/-- The time e that an edge is tested against and that a counted pulse records: with the millisecond tick of
the same moment taken first it is e, otherwise e as it stood before that tick (R68). -/
def Meter.edgeTime (tickFirst : Bool) (m : Meter) : Option Nat := if tickFirst then m.elapsedMs else m.elapsedBefore

/-- An edge is noise while timing with e below the minimum pulse spacing (R67). -/
def Meter.isNoise (site : SiteRecord) (tickFirst : Bool) (m : Meter) : Bool :=
  (m.edgeTime tickFirst).any fun e => decide (e < site.minSpacing)

/-- What a counted pulse does to the timing, the meter state and the rate (R68, R70, R71, R74). The pulse sets
e to 0; a millisecond tick of the same moment that is taken after it brings e to 1. A loss that the last second tick
raised and that METER_LOSS has not taken yet is withdrawn: R73 states the pulse before the tick and the pulse after the
loss, and not the pulse between them. DESIGN CHOICE (log entry 28). -/
def Meter.countPulse (site : SiteRecord) (tickFirst : Bool) (m : Meter) : Meter :=
  let m1 := { m with
    energy := min Config.wideMax (m.energy + site.pulseWeight)
    elapsedMs := some (if tickFirst then 0 else 1)
    elapsedBefore := some 0
    lossDue := false }
  match m.state, m.edgeTime tickFirst with
  | .lost, _ => { m1.emptyRing with interval := none, state := .starting }
  | .starting, none => m1
  | _, some e =>
    let d := min Config.wideMax (max 1 e)
    { m1 with interval := some d, state := .ok, rate := site.rateOver d }
  | .ok, none => m1

end Sys2Proof.Machine
end

