-- ==== Sys2Proof/Machine/Admission.lean ====
section
/-! DEFINITION. The Admission Unit's pass and grant (R90 to R103), and the Wait Queue with the desire step that
keeps it (R12, R109 to R119). -/

namespace Sys2Proof.Machine

/-! ### Cycling of a wired channel (R94, R166) -/

/-- The wired fields of a channel's unit. -/
def State.wiredFields (s : State) (c : ChannelNo) : Option WiredFields :=
  (s.record (channelUnit c)).bind UnitRecord.wired

/-- Whether cycling applies to a channel at the moment (R166). -/
def State.cyclingApplies (s : State) (c : ChannelNo) : Bool :=
  match s.wiredFields c with
  | some w =>
    (decide (w.cyclingMode = .always) || decide (s.shed.demand = .overload) || s.shed.threshold.isSome)
      && decide (0 < w.onLimit) && decide (w.onLimit < w.cyclePeriod)
  | none => false

/-- The CYCLE check of a channel (R94). -/
def State.cycleHolds (s : State) (c : ChannelNo) : Bool :=
  s.cyclingApplies c && s.channels[c].grantRecorded
    && (s.wiredFields c).any fun w => decide (s.channels[c].cycleCounter < w.cyclePeriod * 60)

/-! ### The checks of a pass -/

/-- Whether the restart hold is running (R92, R180). -/
def State.holdRunning (s : State) : Bool := decide (s.hold ≠ .ended)

/-- The remaining time of the permit at a unit's stage in STOPPING or RESTING, if it has one there (R95). -/
def State.restingAt (s : State) (u : UnitNo) (k : Nat) : Option Nat :=
  (s.slotAt u k).map fun i => s.slots[i].remaining

/-- The first check that holds for an entry with its remaining seconds, in the order of R91; `none` when no
check holds. -/
def State.obstacle (s : State) (e : QueueEntry) : Option (WaitReason × Nat) :=
  if s.holdRunning then some (.hold, 0)
  else if s.shed.threshold.any fun c => decide (c ≤ s.cls e.unit) then some (.curtail, 0)
  else if (channelOf e.unit).any s.cycleHolds then some (.cycle, 0)
  else
    match s.restingAt e.unit (s.level e.unit) with
    | some left => some (.resting, left)
    | none =>
      if s.freeList.isEmpty then some (.table, 0)
      else
        match s.demandObstacle ((s.rating e.unit (s.level e.unit)).getD 0) with
        | some r => some (r, 0)
        | none => if s.startGate = .opened then none else some (.gate, 0)

/-- Whether an entry is a barrier (R102). -/
def State.isBarrier (s : State) (e : QueueEntry) : Bool := decide (s.site.skipLimit ≤ e.skips)

/-- Raising the skip count of an entry in front of a grant that failed on demand (R101). -/
def QueueEntry.passedOver (e : QueueEntry) : QueueEntry :=
  if e.reason = .budget || e.reason = .demand then { e with skips := min Config.nibbleMax (e.skips + 1) } else e

/-- An entry that the walk does not test, with the reason that R101 or R102 gives it. -/
def QueueEntry.untested (r : WaitReason) (e : QueueEntry) : QueueEntry := { e with reason := r, remaining := 0 }

/-- What a walk of the queue finds: the entries in front with their reasons, the entry granted, if any, and the
entries behind it or behind a barrier. -/
structure Walk where
  front : List QueueEntry
  granted : Option QueueEntry
  behind : List QueueEntry
deriving DecidableEq, Repr

/-- The walk of a pass from the head toward the tail: it ends at a grant, at a barrier that is not granted, or
past the tail (R91, R101, R102). -/
def State.walk (s : State) : List QueueEntry → Walk
  | [] => { front := [], granted := none, behind := [] }
  | e :: rest =>
    match s.obstacle e with
    | none => { front := [], granted := some e, behind := rest.map (QueueEntry.untested .gate) }
    | some (r, left) =>
      let e1 := { e with reason := r, remaining := left }
      if s.isBarrier e then
        { front := [e1], granted := none, behind := rest.map (QueueEntry.untested .barrier) }
      else
        let w := s.walk rest
        { w with front := e1 :: w.front }

/-! ### The grant (R99) -/

/-- A channel at a grant to its unit: the counter restarts and the mark is set (R165). -/
def Channel.recordGrant (ch : Channel) : Channel := { ch with grantRecorded := true, cycleCounter := 0 }

/-- The granted entry after the grant: removed when the commanded level equals the wanted level, otherwise it
keeps its place with reason GATE, remaining seconds 0 and skip count 0 (R99 step 4, R115). -/
def State.grantedEntry (s : State) (e : QueueEntry) : List QueueEntry :=
  if s.level e.unit = e.wanted then [] else [{ e with skips := 0, reason := .gate, remaining := 0 }]

/-- The permit, gate and hand-over steps of a grant at the unit's next stage (R99 steps 1 to 3). -/
def State.createGrant (u : UnitNo) (s : State) : State :=
  let k := s.level u
  let sl := Slot.granted u k ((s.rating u k).getD 0) s.site.settleTime (s.minRun u) (s.rotation u)
  match s.takeFree sl with
  | none => s
  | some t =>
    { t with startGate := .counting (s.site.startSpacing + 1) }
      |>.joinUrgent u |>.onChannelOf u Channel.recordGrant

/-- An admission pass, one operation of the Admission Unit (R91). -/
def State.admissionPass (s : State) : State :=
  let w := s.walk s.queue
  match w.granted with
  | none => { s with queue := w.front ++ w.behind }
  | some e =>
    let t := s.createGrant e.unit
    { t with queue := w.front.map QueueEntry.passedOver ++ t.grantedEntry e ++ w.behind }

/-! ### The Wait Queue -/

/-- Whether a unit holds a queue entry. -/
def State.queued (s : State) (u : UnitNo) : Bool := s.queue.any fun e => decide (e.unit = u)

/-- The entry of a unit. -/
def State.entryOf (s : State) (u : UnitNo) : Option QueueEntry := s.queue.find? fun e => decide (e.unit = u)

/-- Inserts an entry directly behind the last entry whose class copy is at or below its own, and so in front of
the first entry of a higher class of a queue in order (R111). -/
def insertByClass (e : QueueEntry) : List QueueEntry → List QueueEntry
  | [] => [e]
  | f :: rest => if e.cls < f.cls then e :: f :: rest else f :: insertByClass e rest

/-- A new entry (R109). -/
def QueueEntry.new (u : UnitNo) (wanted cls : Nat) : QueueEntry where
  unit := u
  wanted := wanted
  cls := cls
  skips := 0
  reason := .gate
  remaining := 0

/-- The removal of a unit's entry; the entries behind it move up, and no pass runs (R114). -/
def State.dequeue (u : UnitNo) (s : State) : State :=
  { s with queue := s.queue.filter fun e => decide (e.unit ≠ u) }

/-- An insertion, which runs an admission pass (R109, R112). -/
def State.enqueue (u : UnitNo) (wanted : Nat) (s : State) : State :=
  State.admissionPass { s with queue := insertByClass (.new u wanted (s.cls u)) s.queue }

/-- A change of an entry's wanted level in place, which runs an admission pass (R113). -/
def State.rewant (u : UnitNo) (wanted : Nat) (s : State) : State :=
  State.admissionPass
    { s with queue := s.queue.map fun e => if e.unit = u then { e with wanted := wanted } else e }

/-- The full-queue rule: a newcomer of a class strictly lower than the last entry's takes its place, any other
is turned away; QUEUE FULL is raised in both cases (R116). -/
def State.enqueueFull (u : UnitNo) (wanted : Nat) (s : State) : State :=
  let t := s.raise .queueFull
  match t.queue.getLast? with
  | some l => if t.cls u < l.cls then State.enqueue u wanted { t with queue := t.queue.dropLast } else t
  | none => t

/-- Whether a unit is eligible for the queue: ACTIVE, HEARD (a wired unit counts as HEARD) and NORMAL (R12). -/
def State.eligible (s : State) (u : UnitNo) : Bool :=
  decide ((s.status u).state = .active) && (isWired u || decide ((s.status u).link = .heard))
    && decide ((s.status u).condition = .normal)

/-- The desire step of a unit (R12, R112 to R116). -/
def State.desireStep (u : UnitNo) (s : State) : State :=
  let d := s.effectiveDesired u
  if s.eligible u && decide (s.level u < d) then
    match s.entryOf u with
    | some e => if e.wanted = d then s else s.rewant u d
    | none => if s.queue.length < Config.queueCapacity then s.enqueue u d else s.enqueueFull u d
  else s.dequeue u

/-- What follows a fall of the commanded level outside a request event: hand-over and the desire step (R24,
R12). `before` is the level before the operation that made the change. -/
def State.settleLevel (u : UnitNo) (before : Nat) (s : State) : State :=
  let t := s.handOver u before
  if t.level u < before then t.desireStep u else t

/-- A change of class moves the unit's entry behind its new class; it keeps its other fields, and no pass runs
(R118). -/
def State.moveByClass (u : UnitNo) (cls : Nat) (s : State) : State :=
  match s.entryOf u with
  | some e => { s with queue := insertByClass { e with cls := cls } (s.dequeue u).queue }
  | none => s

end Sys2Proof.Machine
end

