-- ==== Sys2Proof/Machine/Shed.lean ====
section
/-! DEFINITION. The Shed Controller: shed evaluation, shed action, victim choice, curtail stop and rotation
(R124 to R141). -/

namespace Sys2Proof.Machine

/-- The permit of a slot when it is RUNNING at its unit's top commanded-on stage and its unit is of a class
other than 0 (R128). -/
def State.victimPermit (s : State) (i : SlotNo) : Option Permit :=
  match s.slots[i].permit with
  | some p =>
    if p.state = .running && decide (p.stage + 1 = s.level p.unit) && decide (s.cls p.unit ≠ 0) then some p else none
  | none => none

/-- The eligible victims among the permits with a property, in ascending slot order (R128). -/
def State.victims (s : State) (f : Permit → Bool) : List SlotNo :=
  allSlots.filter fun i => (s.victimPermit i).any f

/-- The keys of the victim order but the last, as they stand at the action: class, min-run met, rotation due,
counter (R129). A larger value of each is taken first. -/
def State.victimKeys (s : State) (i : SlotNo) : List Nat :=
  match s.slots[i].permit with
  | some p => [s.cls p.unit, p.minRunMet.toNat, p.rotationDue.toNat, s.slots[i].counter]
  | none => []

/-- Whether keys come strictly later than others: at the first key that differs, the larger goes first. -/
def keysAfter : List Nat → List Nat → Bool
  | a :: as, b :: bs => if a = b then keysAfter as bs else decide (a < b)
  | _, _ => false

/-- The first victim in victim order of a list in ascending slot order: on equal keys the lower slot stands
(R129). -/
def State.firstVictim (s : State) : List SlotNo → Option SlotNo
  | [] => none
  | i :: rest =>
    match s.firstVictim rest with
    | none => some i
    | some j => if keysAfter (s.victimKeys i) (s.victimKeys j) then some j else some i

/-- Stops a victim with a reason: the shed gate closes at the moment the stop is decided, the entry into a stop
applies to the permit, and a fall of the commanded level is handed on with the desire step (R62, R130, R136,
R141). -/
def State.stopVictim (r : StopReason) (i : SlotNo) (s : State) : State :=
  match s.slots[i].permit with
  | some p =>
    let before := s.level p.unit
    { s with shedGate := .counting (s.site.shedSpacing + 1) }
      |>.enterStop p.unit r (fun k => decide (k = p.stage)) |>.settleLevel p.unit before
  | none => s

/-- Whether a permit is a rotation candidate for an entry with candidate rating ΔP, beyond being RUNNING at its
unit's top with a class other than 0 (R140). -/
def State.rotationCandidate (s : State) (e : QueueEntry) (rating : Nat) (p : Permit) : Bool :=
  p.rotationDue && decide (p.unit ≠ e.unit) && decide (s.cls e.unit ≤ s.cls p.unit)
    && decide (rating ≤ p.rating)

/-- The candidate that a rotation stops: for the first entry, in queue order, with reason DEMAND or BUDGET and at
least one candidate, its first candidate in victim order (R140). -/
def State.rotationChoice (s : State) : List QueueEntry → Option SlotNo
  | [] => none
  | e :: rest =>
    if e.reason = .demand || e.reason = .budget then
      match s.rating e.unit (s.level e.unit) with
      | some rating =>
        match s.firstVictim (s.victims (s.rotationCandidate e rating)) with
        | some i => some i
        | none => s.rotationChoice rest
      | none => s.rotationChoice rest
    else s.rotationChoice rest

/-- The eligible curtail victims under a threshold (R128). -/
def State.curtailVictim (s : State) : Option SlotNo :=
  match s.shed.threshold with
  | some c => s.firstVictim (s.victims fun p => decide (c ≤ s.cls p.unit))
  | none => none

/-- A shed action: the first branch that applies, and at most one stop (R126, R132). -/
def State.shedAction (s : State) : State :=
  if s.shed.demand = .overload then
    match s.firstVictim (s.victims fun _ => true) with
    | some i => s.stopVictim .shed i
    | none =>
      if s.shed.exhausted then s
      else State.raise .shedExhausted { s with shed := { s.shed with exhausted := true } }
  else
    match s.curtailVictim with
    | some i => s.stopVictim .curtailed i
    | none =>
      match s.rotationChoice s.queue with
      | some i => s.stopVictim .rotated i
      | none => s

/-- The move of the site demand state by an evaluation's result (R125). -/
def State.moveDemand (s : State) : State :=
  if s.overLimit then
    (if s.shed.demand = .overload then s
     else State.raise .overload { s with shed := { s.shed with demand := .overload, exhausted := false } })
  else { s with shed := { s.shed with demand := .normal } }

/-- Takes a shed action where the shed gate is OPEN (R126). -/
def State.actIfOpen (s : State) : State := if s.shedGate = .opened then s.shedAction else s

/-- A shed evaluation: the shed test moves the site demand state, and the action follows where the shed gate is
OPEN (R124, R125, R126). -/
def State.shedEvaluation (s : State) : State := s.moveDemand.actIfOpen

end Sys2Proof.Machine
end

