-- ==== Sys2Proof/Machine/Requests.lean ====
section
/-! DEFINITION. Request events of the Unit Table and what they do to the permits: trip, completion, adoption,
unpermitted running, release, restore (R7 to R11, R32, R37 to R45). -/

namespace Sys2Proof.Machine

/-- Sends the permits of a list of slots to RESTING. Where the minimum off is 0 each slot is freed as it is reached, so
that slots found together join the tail of the free list in ascending order: R35 leaves their order open, and this one is
a DESIGN CHOICE (log entry 23). -/
def State.restAll (u : UnitNo) (slots : List SlotNo) (s : State) : State :=
  slots.foldl (fun t i => t.restSlot u i) s

/-- The trip: permits in STARTING, RUNNING, DRAINING or STOPPING at or above the recorded running level go to
RESTING with reason TRIPPED, min-run met kept; top order is then applied (R10, R38). -/
def State.trip (u : UnitNo) (s : State) : State :=
  let r := s.runningLevel u
  let before := s.level u
  let tripped := s.slotsOf u fun p => decide (p.state ≠ .resting) && decide (r ≤ p.stage)
  let t := tripped.foldl (fun t i => t.modifySlot i (Slot.setReason .tripped)) s
  (t.restAll u tripped).settleCompliance u |>.topOrder u |>.handOver u before

/-- Completion: STOPPING permits at or above the recorded running level go to RESTING (R32). -/
def State.complete (u : UnitNo) (r : Nat) (s : State) : State :=
  (s.restAll u (s.slotsOf u fun p => decide (p.state = .stopping) && decide (r ≤ p.stage))).settleCompliance u

/-- Adopts the stages of a list in ascending order: a STOPPING or RESTING permit is turned in its own slot, a
stage without a permit takes the head of the free list, and at an empty list that stage and every stage above
it are left over with TABLE FULL (R42, R43). -/
def State.adopt (u : UnitNo) : List Nat → State → State
  | [], s => s
  | k :: rest, s =>
    match s.slotAt u k with
    | some i => State.adopt u rest (s.modifySlot i (Slot.enterRunningAdopted (s.rotation u)))
    | none =>
      let sl := (Slot.newPermit u k ((s.rating u k).getD 0) .running .adopted true none).enterRunningAdopted
        (s.rotation u)
      match s.takeFree sl with
      | some t => State.adopt u rest t
      | none => s.raise .tableFull

/-- A stage found running without being commanded while the window is closed, as a STOPPING permit with reason
UNPERMITTED: a RESTING permit is turned, a STOPPING one is left, a stage without a permit gets a new one. The
flag of the result says that the stage could not be recorded (R45). -/
def State.recordUnpermitted (u : UnitNo) (k : Nat) (s : State) : State × Bool :=
  let stop (sl : Slot) : Slot :=
    Slot.setReason .unpermitted (Slot.enterStopping s.site.complianceTimeout
      { sl with permit := sl.permit.map fun p => { p with minRunMet := true } })
  match s.slotAt u k with
  | some i =>
    if s.slots[i].permit.any (fun p => decide (p.state = .resting)) then (s.modifySlot i stop, false)
    else (s, false)
  | none =>
    match s.takeFree (stop (Slot.newPermit u k ((s.rating u k).getD 0) .stopping .adopted true none)) with
    | some t => (t, false)
    | none => (s, true)

/-- Records the unpermitted stages of a list, each on its own; the flag says that one could not be recorded. -/
def State.recordAllUnpermitted (u : UnitNo) : List Nat → State → State × Bool
  | [], s => (s, false)
  | k :: rest, s =>
    let one := s.recordUnpermitted u k
    let all := State.recordAllUnpermitted u rest one.1
    (all.1, one.2 || all.2)

/-- Unpermitted running of a non-empty list of stages: NONCOMPLIANT once, and TABLE FULL once where a stage could
not be recorded (R45). -/
def State.unpermitted (u : UnitNo) (stages : List Nat) (s : State) : State :=
  let t := s.recordAllUnpermitted u stages
  t.1.raiseIf t.2 .tableFull |>.raise .noncompliant

/-- The reason that stops what is adopted by a LOCKED or RETIRING unit (R44). -/
def UnitState.stopReason : UnitState → Option StopReason
  | .locked => some .locked
  | .retiring => some .retired
  | .unconfigured | .active => none

/-- The adoption of stages L to R − 1, with the stop at once of a LOCKED or RETIRING unit's adopted stages, and
the one hand-over at the final level (R42 to R44). -/
def State.adoptStages (u : UnitNo) (l r : Nat) (s : State) : State :=
  let t := (s.adopt u ((List.range r).drop l)).settleCompliance u
  let adopted := t.level u
  let t1 := match (t.status u).state.stopReason with
    | some reason => t.enterStop u reason fun k => decide (l ≤ k)
    | none => t
  if adopted = l then t1 else t1.joinUrgent u

/-- Closes the adoption window (R7). -/
def State.closeWindow (u : UnitNo) (s : State) : State := s.modifyStatus u fun st => { st with window := .closed }

/-- Stage 3 of a request event: completion, then adoption or unpermitted running, then the window closes
(R9, R41). -/
def State.applyRunning (u : UnitNo) (s : State) : State :=
  let r := s.runningLevel u
  let t := s.complete u r
  if t.configured u then
    let l := t.level u
    State.closeWindow u <|
      if l < r then
        (if (t.status u).window = .opened then t.adoptStages u l r else t.unpermitted u ((List.range r).drop l))
      else t
  else t

/-- Release of the stages from D up (R37). -/
def State.releaseFrom (u : UnitNo) (d : Nat) (s : State) : State :=
  let before := s.level u
  if d < before then (s.enterStop u .released fun k => decide (d ≤ k)).handOver u before else s

/-- Restore of the DRAINING permits with reason RELEASED below D (R40). -/
def State.restoreBelow (u : UnitNo) (d : Nat) (s : State) : State :=
  (s.slotsOf u fun p =>
      decide (p.state = .draining) && decide (p.reason = some .released) && decide (p.stage < d)).foldl
    (fun t i => t.modifySlot i (Slot.enterRunningRestored (t.rotation u))) s

/-- Stage 4 of a request event, for a unit in ACTIVE (R9). Every DRAINING permit with reason RELEASED that stands below D
when the event comes is restored (R40), so the restore is taken before the release's descent, which would carry one that
has met its minimum run on to STOPPING (log entry 14). -/
def State.applyDesired (u : UnitNo) (s : State) : State :=
  if (s.status u).state = .active then
    let d := s.effectiveDesired u
    (s.restoreBelow u d).releaseFrom u d
  else s

/-- Stage 1 of a request event: the clamped levels and the condition are recorded (R8, R9). -/
def State.recordRequest (u : UnitNo) (desired running : Nat) (c : Condition) (s : State) : State :=
  s.modifyStatus u fun st =>
    { st with desired := min desired (s.stageCount u), running := min running (s.stageCount u), condition := c }

/-- A request event, handled as one operation in five stages (R9). A retirement that completes inside it leaves
an UNCONFIGURED unit, on which the later stages act on nothing. -/
def State.requestEvent (u : UnitNo) (desired running : Nat) (c : Condition) (s : State) : State :=
  let s1 := s.recordRequest u desired running c
  let s2 := if c = .tripped then s1.trip u else s1
  let s3 := if s2.configured u then s2.applyRunning u else s2
  State.desireStep u (s3.applyDesired u)

/-- The request event of a wired unit's channel: its call as desired level 1 or 0, its running level equal to its
commanded level, condition NORMAL (R11, R162). -/
def State.callEvent (c : ChannelNo) (calling : Bool) (s : State) : State :=
  let u := channelUnit c
  (s.modifyChannel c fun ch => { ch with calling := calling, callDue := false }).requestEvent u
    (if calling then 1 else 0) (s.level u) .normal

/-- The call state that a channel reads from its filtered level and the unit record's call polarity (R162). -/
def State.callState (s : State) (c : ChannelNo) : Bool :=
  match s.channels[c].filter.level, s.wiredFields c with
  | some high, some w => decide (high = decide (w.callPolarity = .activeHigh))
  | _, _ => false

end Sys2Proof.Machine
end

