-- ==== Sys2Proof/Machine/Link.lean ====
section
/-! DEFINITION. The Roof Link Controller: characters and checks, the poll frame, the link arbiter, the
transaction and its outcomes (R146 to R160). -/

namespace Sys2Proof.Machine

/-! ### Characters (R146 to R148) -/

/-- The eleven bits of a character on the line: start bit low, eight data bits least significant first, the mark
bit, stop bit high (R146). -/
def characterBits (data : Byte) (mark : Bool) : List Bool :=
  false :: (List.range 8).map (fun i => data.getLsbD i) ++ [mark, true]

/-- The majority of three samples (R147). -/
def majority (a b c : Bool) : Bool := (a && b) || (a && c) || (b && c)

/-- What a bit's sixteen samples read: the majority of samples 7, 8 and 9, counted from 1 (R147). -/
def sampledBit (samples : List Bool) : Bool :=
  majority (samples.getD 6 false) (samples.getD 7 false) (samples.getD 8 false)

/-- What the receiver makes of the eleven bits that it reads of a character. -/
inductive Reading where
  /-- The start bit reads high: it is dropped as noise. -/
  | noise
  /-- The stop bit reads low: a framing error, after the mark bit given. -/
  | framingError (mark : Bool)
  /-- A character received with its data bits and its mark bit. -/
  | character (data : Byte) (mark : Bool)
deriving DecidableEq, Repr

/-- The byte whose bits a list gives, least significant first. -/
def byteOfBits (bits : List Bool) : Byte := BitVec.ofNat 8 (bits.foldr (fun b n => b.toNat + 2 * n) 0)

/-- The reading of eleven bits (R147). -/
def readBits (bits : List Bool) : Reading :=
  if bits.getD 0 true then .noise
  else if !bits.getD 10 false then .framingError (bits.getD 9 false)
  else .character (byteOfBits ((bits.drop 1).take 8)) (bits.getD 9 false)

/-- The reading of a character from the line's samples, sixteen in each bit time from the start bit on (R147). -/
def readSamples (samples : List Bool) : Reading :=
  readBits ((List.range Config.bitsPerCharacter).map fun b => sampledBit ((samples.drop (16 * b)).take 16))

/-- The samples of a character as the transmitter drives it: each bit for 16 sample periods (R146). -/
def drivenSamples (data : Byte) (mark : Bool) : List Bool := (characterBits data mark).flatMap (List.replicate 16)

/-- The sum of the characters of a frame modulo 256 (R148). -/
def frameSum (frame : List Byte) : Byte := frame.foldr (· + ·) 0#8

/-- Closes a frame with the check character that makes its sum 0 modulo 256 (R148). -/
def withCheck (body : List Byte) : List Byte := body ++ [0#8 - frameSum body]

/-! ### The poll frame (R149 to R151) -/

/-- Answer of a poll, coded 0 to 3 in the order of the poll frame table (R149). -/
inductive Answer where | granted | wait | defer | locked
deriving DecidableEq, Repr

def Answer.code : Answer → Nat
  | .granted => 0
  | .wait => 1
  | .defer => 2
  | .locked => 3

/-- The reason code of the poll frame. CYCLE belongs to wired units, which are not polled, and has no code: a
linked unit's entry never carries it (R149, R151). -/
def WaitReason.pollCode : WaitReason → Nat
  | .hold => 1
  | .gate => 2
  | .demand => 3
  | .budget => 4
  | .table => 5
  | .resting => 6
  | .curtail => 7
  | .barrier => 8
  | .cycle => 0

/-- The answer of a unit with its reason code and remaining seconds, by the first case that applies (R151). -/
def State.answer (s : State) (u : UnitNo) : Answer × Nat × Nat :=
  if (s.status u).state = .locked || (s.status u).state = .retiring then (.locked, 0, 0)
  else if s.effectiveDesired u ≤ s.level u then (.granted, 0, 0)
  else
    match s.entryOf u with
    | some e => (.wait, e.reason.pollCode, e.remaining)
    | none => (.defer, 0, 0)

/-- The site flags character: OVERLOAD, CURTAIL, HOLD (R149). -/
def State.siteFlags (s : State) : Nat :=
  (if s.shed.demand = .overload then 1 else 0) + (if s.shed.threshold.isSome then 2 else 0)
    + (if s.holdRunning then 4 else 0)

/-- The poll frame of a unit, built from live state (R149, R150). -/
def State.pollFrame (s : State) (u : UnitNo) : List Byte :=
  let a := s.answer u
  withCheck (byte1 (roofAddress u) ++ byte1 7 ++ byte1 0xA1 ++ byte1 (s.level u) ++ byte1 a.1.code
    ++ byte1 a.2.1 ++ byte2 a.2.2 ++ byte1 s.siteFlags)

/-- The bits of a whole frame on the line: the mark bit is 1 on the first character alone (R146). -/
def frameBits : List Byte → List Bool
  | [] => []
  | a :: rest => characterBits a true ++ rest.flatMap fun c => characterBits c false

/-- What the part drives on the roof link: the bit of the frame in progress while SENDING, nothing in every
other line state (R146). -/
def State.lineDriven (s : State) : Option Bool :=
  if s.resetHeld then none
  else if s.link.line = .sending then
    s.link.transaction.bind fun t => (frameBits t.frame)[s.link.lineBits]?
  else none

/-! ### The arbiter (R155 to R157) -/

/-- The poll ring: the configured linked units whose link condition is HEARD, ascending. -/
def State.pollRing (s : State) : List UnitNo :=
  allUnits.filter fun u => !isWired u && s.configured u && decide ((s.status u).link = .heard)

/-- The silent list: the configured linked units whose link condition is SILENT, ascending. -/
def State.silentList (s : State) : List UnitNo :=
  allUnits.filter fun u => !isWired u && s.configured u && decide ((s.status u).link = .silent)

/-- A choice of the arbiter: the unit, if any, with the urgent list, ring position and silent round after it. -/
structure Choice where
  unit : Option UnitNo
  urgent : List UnitNo
  position : Nat
  round : Option UnitNo
deriving DecidableEq, Repr

/-- The ring taken from position 0 after a wrap with no silent round to start (R157). -/
def State.chooseRingStart (s : State) : Choice :=
  match s.pollRing.head? with
  | some u => { unit := some u, urgent := s.link.urgent, position := u.val + 1, round := none }
  | none => { unit := none, urgent := s.link.urgent, position := 0, round := none }

/-- A wrap of the ring: a silent round starts where the silent list holds a unit (R157). -/
def State.chooseWrap (s : State) : Choice :=
  match s.silentList.head? with
  | some u => { unit := some u, urgent := s.link.urgent, position := s.link.ringPosition, round := some u }
  | none => s.chooseRingStart

/-- The end of a silent round: the position is set to 0 and the ring's lowest unit is taken; an empty ring
wraps again at once (R157). -/
def State.chooseRoundEnd (s : State) : Choice :=
  match s.pollRing.head? with
  | some u => { unit := some u, urgent := s.link.urgent, position := u.val + 1, round := none }
  | none =>
    match s.silentList.head? with
    | some u => { unit := some u, urgent := s.link.urgent, position := 0, round := some u }
    | none => { unit := none, urgent := s.link.urgent, position := 0, round := none }

/-- The arbiter's choice: the head of the urgent list, else the next unit of a running silent round, else the next
unit of the poll ring (R155, R157). -/
def State.choose (s : State) : Choice :=
  match s.link.urgent with
  | u :: rest =>
    { unit := some u, urgent := rest, position := s.link.ringPosition, round := s.link.silentRound }
  | [] =>
    match s.link.silentRound with
    | some last =>
      match s.silentList.find? fun u => decide (last.val < u.val) with
      | some u => { unit := some u, urgent := [], position := s.link.ringPosition, round := some u }
      | none => s.chooseRoundEnd
    | none =>
      match s.pollRing.find? fun u => decide (s.link.ringPosition ≤ u.val) with
      | some u => { unit := some u, urgent := [], position := u.val + 1, round := none }
      | none => s.chooseWrap

/-- Changes the Roof Link Controller. -/
def State.modifyLink (f : RoofLink → RoofLink) (s : State) : State := { s with link := f s.link }

/-- The receiver does not listen while the part is SENDING (R146): a character in progress is dropped. A receiver that
waits for the line to return high goes on waiting. Both are a DESIGN CHOICE (log entry 26). -/
def Receiver.deafened : Receiver → Receiver
  | .inCharacter _ => .waitingStart
  | .waitingStart => .waitingStart
  | .waitingHigh => .waitingHigh

/-- The arbiter chooses, and a transaction begins with a frame built from live state, or the line goes IDLE
(R150, R152, R155). The speed and the timeout are those of the working site record at this moment, and the bit divider
restarts, so that the start bit is driven for its 16 whole sample periods (R146; log entry 24). -/
def State.nextTransaction (s : State) : State :=
  let c := s.choose
  let t := s.modifyLink fun l => { l with urgent := c.urgent, ringPosition := c.position, silentRound := c.round }
  match c.unit with
  | none => t.modifyLink fun l => { l with line := .idle, transaction := none }
  | some u =>
    t.modifyLink fun l => { l with
      line := .sending
      transaction := some { unit := u, speed := s.site.linkSpeed, timeout := s.site.replyTimeout,
                            frame := s.pollFrame u }
      bitDivider := 0
      lineBits := 0
      receiver := l.receiver.deafened
      reply := []
      replyTimer := 0
      replyBroken := false }

/-- Whether the arbiter has a unit to poll (R152). -/
def State.unitToPoll (s : State) : Bool := s.choose.unit.isSome

/-- An IDLE line on which a unit has come to be polled: the arbiter chooses again at once (R152). -/
def State.wakeLine (s : State) : State :=
  if s.link.line = .idle && s.unitToPoll then s.nextTransaction else s

/-- The end of a transaction: the gap begins, counted at the speed that the working site record holds (R152), in whole
bit times from this moment: the bit divider restarts (DESIGN CHOICE, log entry 24). The transaction is dropped here and
not at the end of its gap (DESIGN CHOICE between R152 and R158, log entry 25). -/
def State.beginGap (s : State) : State :=
  s.modifyLink fun l => { l with
    line := .gap
    transaction := none
    gapSpeed := s.site.linkSpeed
    bitDivider := 0
    lineBits := 0
    reply := []
    replyTimer := 0
    replyBroken := false }

/-! ### The outcomes of a transaction (R13, R14, R153, R154) -/

/-- A miss of a unit: the count rises, saturating at 15; a HEARD unit whose count is at or above the silence count
becomes SILENT, UNIT SILENT is raised and the desire step is taken (R13). -/
def State.miss (u : UnitNo) (s : State) : State :=
  let n := min Config.nibbleMax ((s.status u).misses + 1)
  let t := s.modifyStatus u fun st => { st with misses := n }
  if (t.status u).link = .heard && decide (s.site.silenceCount ≤ n) then
    (t.modifyStatus u fun st => { st with link := .silent }).raise .unitSilent |>.desireStep u
  else t

/-- What a good report does before its request event: miss count 0, and a SILENT unit becomes HEARD with UNIT BACK
and its adoption window open (R14, R7). -/
def State.hear (u : UnitNo) (s : State) : State :=
  let t := s.modifyStatus u fun st => { st with misses := 0 }
  if (t.status u).link = .silent then
    (t.modifyStatus u fun st => { st with link := .heard, window := .opened }).raise .unitBack
  else t

/-- Hands a miss to the Unit Table for the polled unit as it stands at the end of the transaction; for an UNCONFIGURED unit
it is discarded (R154). A unit whose retirement completed in the transaction, and which SET UNIT has configured again
before its end, takes the miss, where R17 and R158 can be read to discard it: DESIGN CHOICE (log entry 29). -/
def State.missOf (u : UnitNo) (s : State) : State := if s.configured u then s.miss u else s

/-- The tests of a reply of eight characters, in order (R153): sum, length, kind, addresses. -/
def goodReply (u : UnitNo) : List Byte → Bool
  | [a, n, k, ua, d, r, c, x] =>
    decide (frameSum [a, n, k, ua, d, r, c, x] = 0#8) && decide (n = 5#8) && decide (k = 0xB2#8)
      && decide (a = 0#8) && decide (ua.toNat = roofAddress u)
  | _ => false

/-- A good report as the unit's request event: raw desired and running level and raw condition (R8, R14, R154). The unit is
taken as it stands at the report's arrival, one configured again since its retirement completed too, where R17 and R158 can
be read to discard the report: DESIGN CHOICE (log entry 29). -/
def State.report (u : UnitNo) (reply : List Byte) (s : State) : State :=
  if s.configured u then
    (s.hear u).requestEvent u (reply.getD 4 0#8).toNat (reply.getD 5 0#8).toNat
      (if reply.getD 6 0#8 = 0#8 then .normal else .tripped)
  else s

/-- A reply in progress that is still complete in itself and not yet ended. -/
def RoofLink.receiving (l : RoofLink) : Bool := decide (l.line = .awaiting) && !l.replyBroken

/-- A character handed to a transaction that awaits a reply: ignored before the first character with mark bit 1;
a further mark bit before the eighth character ends the reply early as a wrong length. The eighth character is taken
whatever its mark bit, since no test of R153 reads it (DEDUCED, log entry 17). -/
def RoofLink.takeCharacter (data : Byte) (mark : Bool) (l : RoofLink) : RoofLink :=
  if !l.receiving || decide (8 ≤ l.reply.length) then l
  else if l.reply.isEmpty then (if mark then { l with reply := [data] } else l)
  else if mark && decide (l.reply.length < 7) then { l with replyBroken := true }
  else { l with reply := l.reply ++ [data] }

/-- A framing error at the receiver, which read the stop bit low and waits for a high line. In a reply from its address character
on, the reply ends early; the address character itself is known by its mark bit (R147, R153). -/
def RoofLink.takeFramingError (mark : Bool) (l : RoofLink) : RoofLink :=
  { l with
    receiver := .waitingHigh
    lineWasHigh := false
    replyBroken := l.replyBroken
      || (decide (l.line = .awaiting) && (mark || !l.reply.isEmpty) && decide (l.reply.length < 8)) }

end Sys2Proof.Machine
end

