-- ==== Sys2Proof/Machine/Panel.lean ====
section
/-! DEFINITION. The Panel Port: when it acknowledges, the latched response and how it is read, the data of the
responses, and the operations of the panel commands on the state their owners keep (R1 to R6, R15 to R19, R48,
R80, R85 to R88, R122, R134, R138, R170 to R178). -/

namespace Sys2Proof.Machine

/-! ### The port (R170 to R172) -/

/-- The port's 7-bit address: 0x4C plus the straps (R170). -/
def State.portAddress (s : State) : BitVec 7 := 0x4C#7 + s.panel.straps.setWidth 7

/-- Whether the port does not answer: a SAVE runs (R170), or a power-on reset is held. -/
def State.portShut (s : State) : Bool := s.store.saving.isSome || s.resetHeld

/-- Whether the port acknowledges an address (R170). -/
def State.acknowledges (s : State) (address : BitVec 7) : Bool :=
  decide (address = s.portAddress) && !s.portShut

/-- Latches a response, replacing the one latched before (R171). -/
def State.latch (r : Response) (s : State) : State := { s with panel := { s.panel with response := r } }

/-- A response of status OK with data. -/
def Response.okWith (data : List Byte) : Response := { status := .ok, data := data }

/-- A response without data. -/
def Response.bare (st : Status) : Response := { status := st, data := [] }

/-- The bytes of the latched response: status, length, data (R172). -/
def Response.bytes (r : Response) : List Byte := byte1 r.status.code ++ byte1 r.data.length ++ r.data

/-- A read transaction of n bytes at an address: the latched response from its status byte, 0x00 beyond the end of
its data; `none` when the address is not acknowledged. A read changes no state (R172). -/
def State.readTransaction (s : State) (address : BitVec 7) (n : Nat) : Option (List Byte) :=
  if s.acknowledges address then some ((List.range n).map fun i => s.panel.response.bytes.getD i 0#8) else none

/-- How many bytes of a write the port acknowledges after its address: all while its buffer holds fewer than 40
(R171). -/
def acknowledgedBytes (bytes : List Byte) : Nat := min Config.bufferCapacity bytes.length

/-- A command's effect with the response it latches. -/
abbrev Reply := State × Response

/-- One write transaction that carries a command: the bytes are stored in the command buffer, the command executes,
and its response is latched in the same operation (R171). While the port does not answer, nothing happens. -/
def State.serve (bytes : List Byte) (f : State → Reply) (s : State) : State :=
  if s.portShut then s
  else
    let r := f { s with panel := { s.panel with buffer := bytes.take Config.bufferCapacity } }
    r.1.latch r.2

/-- A command that only reads: it latches its data and changes no other state. -/
def answering (data : State → List Byte) (s : State) : Reply := (s, .okWith (data s))

/-- A refusal with a status: no state changes beyond the latched response (R171). -/
def refusedWith (st : Status) (s : State) : Reply := (s, .bare st)

/-- A command that names a unit: a number above 35 is refused BAD VALUE (R1). -/
def withUnit (b : Byte) (f : UnitNo → State → Reply) (s : State) : Reply :=
  if h : b.toNat < 36 then f ⟨b.toNat, h⟩ s else refusedWith .badValue s

/-! ### Data of the responses -/

/-- The data of GET UNIT: the working record, or the unit number alone (R6). -/
def State.unitData (u : UnitNo) (s : State) : List Byte :=
  match s.record u with
  | some r => r.encode u
  | none => byte1 u.val

/-- The data of READ UNIT STATUS, in the order of R6. -/
def State.statusData (u : UnitNo) (s : State) : List Byte :=
  let st := s.status u
  byte1 u.val ++ byte1 st.state.code
    ++ (if isWired u then byte1 LinkCondition.heard.code ++ byte1 0 else byte1 st.link.code ++ byte1 st.misses)
    ++ byte1 st.desired ++ byte1 (s.runningLevel u) ++ byte1 st.condition.code ++ byte1 st.window.code
    ++ flagByte st.noncompliant ++ byte1 (s.level u) ++ byte1 (s.permitCount u) ++ flagByte (s.queued u)

/-- The data of READ PERMIT for a slot, in the order of R48. -/
def State.permitData (i : SlotNo) (s : State) : List Byte :=
  byte1 i.val ++ byte1 s.freeList.length ++
    match s.slots[i].permit with
    | none => byte1 5
    | some p =>
      byte1 p.state.code ++ byte1 p.unit.val ++ byte1 p.stage ++ byte2 p.rating ++ byte1 p.origin.code
        ++ byte2 s.slots[i].counter ++ byte2 s.slots[i].aValue ++ flagByte p.minRunMet ++ flagByte p.rotationDue
        ++ (p.reason.elim absentByte fun r => byte1 r.code)
        ++ byte2 (if p.state = .stopping || p.state = .resting then s.slots[i].remaining else 0)

/-- One entry in READ QUEUE's data, in the order of R122. -/
def State.entryData (s : State) (e : QueueEntry) : List Byte :=
  byte1 e.unit.val ++ byte1 e.cls ++ byte1 e.wanted ++ byte1 (s.level e.unit) ++ byte1 e.skips
    ++ flagByte (s.isBarrier e) ++ byte1 e.reason.code ++ byte2 e.remaining

/-- The data of READ QUEUE (R122). -/
def State.queueData (s : State) : List Byte :=
  byte1 s.queue.length ++ byte1 s.site.skipLimit ++ s.queue.flatMap s.entryData

/-- The code and remaining count of the start gate (R175). -/
def StartGate.report : StartGate → Nat × Nat
  | .opened => (0, 0)
  | .counting n => (1, n)
  | .held => (2, 0)

/-- The code and remaining count of the shed gate (R175). -/
def ShedGate.report : ShedGate → Nat × Nat
  | .opened => (0, 0)
  | .counting n => (1, n)

/-- The site bits: OVERLOAD, sync-lost, restart hold running (R175). -/
def State.siteBits (s : State) : Nat :=
  (if s.shed.demand = .overload then 1 else 0) + (if s.meter.syncLost then 2 else 0)
    + (if s.holdRunning then 4 else 0)

/-- The 31 bytes of READ DEMAND (R88, R175). -/
def State.demandData (s : State) : List Byte :=
  byte2 s.meter.rolling ++ byte2 s.reportedProjection ++ byte2 s.meter.rate ++ byte3 s.unsettled
    ++ byte3 s.committed ++ byte1 s.meter.state.code ++ byte1 s.regime.code ++ byte1 s.meter.ring.length
    ++ byte2 s.meter.elapsed ++ byte2 s.meter.peak ++ byte4 s.meter.energy ++ byte1 s.siteBits
    ++ byte1 (s.shed.threshold.getD 0) ++ byte1 s.startGate.report.1 ++ byte2 s.startGate.report.2
    ++ byte1 s.shedGate.report.1 ++ byte2 s.shedGate.report.2

/-- The notice word as two bytes, bit 15 first (R176). -/
def State.noticeData (s : State) : List Byte := byte2 s.panel.notices.toNat

/-! ### SET UNIT (R2 to R5, R118, R119, R128, R174) -/

/-- Installs a record for an UNCONFIGURED unit: the status of R3, the channel's counter and mark cleared (R165). -/
def State.install (u : UnitNo) (r : UnitRecord) (s : State) : State :=
  State.onChannelOf u Channel.clearCycle
    { s with units := s.units.set u { record := some r, status := .fresh } }

/-- A new unit: a wired unit's channel presents its call state as a request event (R3, R162); a linked unit joins
the poll ring, and an IDLE line is woken (R152). -/
def State.configureUnit (u : UnitNo) (r : UnitRecord) (s : State) : State :=
  let t := s.install u r
  match channelOf u with
  | some c => t.callEvent c (t.callState c)
  | none => t.wakeLine

/-- Whether a stop reason is one that class 0 is protected from (R128). -/
def StopReason.spared : StopReason → Bool
  | .shed | .curtailed | .rotated => true
  | .released | .locked | .retired | .forced | .tripped | .cycled | .unpermitted => false

/-- A move of a unit into class 0 replaces SHED, CURTAILED and ROTATED on its permits by RELEASED (R128). -/
def State.spareClassZero (u : UnitNo) (s : State) : State :=
  (s.slotsOf u fun p => p.reason.any StopReason.spared).foldl
    (fun t i => t.modifySlot i (Slot.setReason .released)) s

/-- A unit with its record replaced and its recorded levels clamped to the new stage count (R5). -/
def UnitEntry.replaced (r : UnitRecord) (e : UnitEntry) : UnitEntry :=
  { record := some r
    status := { e.status with
      desired := min e.status.desired r.stageCount
      running := min e.status.running r.stageCount } }

/-- The record replaced and the recorded levels clamped (R4, R5). -/
def State.replaceRecord (u : UnitNo) (r : UnitRecord) (s : State) : State :=
  { s with units := s.units.set u (s.units[u].replaced r) }

/-- An entry whose wanted level is above the new stage count is lowered to it, which runs a pass (R119). -/
def State.clampWanted (u : UnitNo) (r : UnitRecord) (s : State) : State :=
  match s.entryOf u with
  | some e => if r.stageCount < e.wanted then s.rewant u r.stageCount else s
  | none => s

/-- The effects of a class that is no longer the old one (R4, R118, R128). -/
def State.changeClass (u : UnitNo) (old new : Nat) (s : State) : State :=
  if old = new then s
  else
    let t := if new = 0 then s.spareClassZero u else s
    t.moveByClass u new

/-- An accepted change of a configured unit's record (R4, R5). -/
def State.changeRecord (u : UnitNo) (old new : UnitRecord) (s : State) : State :=
  ((s.replaceRecord u new).changeClass u old.cls new.cls).clampWanted u new

/-- SET UNIT with a valid record (R3, R4). -/
def State.setUnitRecord (u : UnitNo) (r : UnitRecord) (s : State) : Reply :=
  match s.record u with
  | none => (s.configureUnit u r, .bare .ok)
  | some old =>
    if (s.status u).state = .retiring then refusedWith .busy s
    else if r.ratings ≠ old.ratings && s.hasPermit u then refusedWith .inUse s
    else (s.changeRecord u old r, .bare .ok)

/-- SET UNIT (R2, R174): fewer than two parameter bytes are refused BAD COMMAND, a record that fails a test BAD
VALUE, both before any test of the unit's state. -/
def State.setUnit (params : List Byte) (s : State) : Reply :=
  if params.length < 2 || Config.bufferCapacity ≤ params.length then refusedWith .badCommand s
  else
    match parseUnitRecord params with
    | some (u, r) => s.setUnitRecord u r
    | none => refusedWith .badValue s

/-! ### LOCK, UNLOCK, RETIRE and RELEASE UNIT (R15 to R19, R39) -/

/-- Replaces the reason of a unit's DRAINING permits (R15, R17). -/
def State.replaceDraining (u : UnitNo) (r : StopReason) (s : State) : State :=
  (s.slotsOf u fun p => decide (p.state = .draining)).foldl (fun t i => t.modifySlot i (Slot.setReason r)) s

/-- Stops every commanded-on permit of a unit under a new unit state, and takes the desire step of the change of
state (R15, R17). -/
def State.windDown (u : UnitNo) (st : UnitState) (r : StopReason) (s : State) : State :=
  let before := s.level u
  let t := s.modifyStatus u fun x => { x with state := st }
  ((t.replaceDraining u r).enterStop u r fun _ => true).handOver u before |>.desireStep u

/-- LOCK UNIT (R15). -/
def State.lockUnit (u : UnitNo) (s : State) : Reply :=
  match (s.status u).state with
  | .active => (s.windDown u .locked .locked, .bare .ok)
  | .locked => (s, .bare .ok)
  | .retiring => refusedWith .busy s
  | .unconfigured => refusedWith .badValue s

/-- UNLOCK UNIT (R19). -/
def State.unlockUnit (u : UnitNo) (s : State) : Reply :=
  match (s.status u).state with
  | .locked => ((s.modifyStatus u fun x => { x with state := .active }).desireStep u, .bare .ok)
  | .active => (s, .bare .ok)
  | .retiring => refusedWith .busy s
  | .unconfigured => refusedWith .badValue s

/-- RETIRE UNIT (R17): it completes at once for a unit that holds no permit. -/
def State.retireUnit (u : UnitNo) (s : State) : Reply :=
  match (s.status u).state with
  | .active | .locked => ((s.windDown u .retiring .retired).retireIfEmpty u, .bare .ok)
  | .retiring => refusedWith .busy s
  | .unconfigured => refusedWith .badValue s

/-- The forced release of a unit's permits in one operation, against the states they hold when it starts: STOPPING
ones to RESTING, commanded-on ones directly to STOPPING with reason FORCED (R39). -/
def State.forceRelease (u : UnitNo) (s : State) : State :=
  let stopping := s.slotsOf u fun p => decide (p.state = .stopping)
  let on := s.slotsOf u (·.state.commandedOn)
  State.settleCompliance u <|
    on.foldl (fun t i => (t.modifySlot i (Slot.setReason .forced)).stopSlot u i) (s.restAll u stopping)

/-- RELEASE UNIT (R18, R39). -/
def State.releaseUnit (u : UnitNo) (s : State) : Reply :=
  if s.configured u then ((s.forceRelease u).settleLevel u (s.level u), .bare .ok) else refusedWith .badValue s

/-! ### Site commands (R85 to R87, R134, R138) -/

/-- What a new site record does to the Meter Interface: a change of T_s or S restarts the bookkeeping (R86), a
change to FREE clears sync-lost (R87). -/
def Meter.takeSite (old new : SiteRecord) (m : Meter) : Meter :=
  let m1 := if old.subLength = new.subLength && old.subCount = new.subCount then m else m.restartSubinterval
  if new.syncMode = .free then { m1 with syncLost := false } else m1

/-- An accepted SET SITE: the record is replaced at once; a change of the demand limit runs a shed evaluation
(R85 to R87, R124). -/
def State.replaceSite (r : SiteRecord) (s : State) : State :=
  let t := { s with site := r, meter := s.meter.takeSite s.site r }
  if s.site.limit = r.limit then t else t.shedEvaluation

/-- SET SITE (R85, R173): a count other than 32 bytes is refused BAD COMMAND, a record that fails a test BAD VALUE. -/
def State.setSite (params : List Byte) (s : State) : Reply :=
  if params.length ≠ 32 then refusedWith .badCommand s
  else
    match parseSiteRecord params with
    | some r => (s.replaceSite r, .bare .ok)
    | none => refusedWith .badValue s

/-- SET LIMIT (R138). -/
def State.setLimit (limit margin : Nat) (s : State) : Reply :=
  if limit = 0 || decide (limit < margin) then refusedWith .badValue s
  else ({ s with site := { s.site with limit := limit, margin := margin } }.shedEvaluation, .bare .ok)

/-- CURTAIL (R134): 0 is OFF, 1 to 7 a class; the action follows where the shed gate is OPEN. -/
def State.curtail (threshold : Nat) (s : State) : Reply :=
  if 7 < threshold then refusedWith .badValue s
  else
    ({ s with shed := { s.shed with threshold := if threshold = 0 then none else some threshold } }.actIfOpen,
      .bare .ok)

/-- RESET PEAK (R80). -/
def State.resetPeak (s : State) : Reply := (s.modifyMeter fun m => { m with peak := 0 }, .bare .ok)

/-- READ PERMIT (R48). -/
def State.readPermit (b : Byte) (s : State) : Reply :=
  if h : b.toNat < 96 then answering (State.permitData ⟨b.toNat, h⟩) s else refusedWith .badValue s

/-- READ NOTICES latches the notice word and clears every flag in one operation (R176). -/
def State.readNotices (s : State) : Reply :=
  ({ s with panel := { s.panel with notices := 0#16 } }, .okWith s.noticeData)

/-! ### SAVE (R178) -/

/-- The copy that a SAVE takes: the working site record and the 36 units, UNCONFIGURED ones as empty places. -/
def State.saveCopy (s : State) : SaveCopy where
  site := s.site.encode
  places := Vector.ofFn fun u => (s.units[u].record).map (UnitRecord.encode u)

/-- SAVE: the valid marker is cleared at the execution itself and the writing starts (R178). -/
def State.save (s : State) : Reply :=
  ({ s with store := { s.store with valid := false, saving := some s.saveCopy, savingMs := 0 } }, .bare .ok)

end Sys2Proof.Machine
end

