-- ==== Sys2Proof/Machine/Reset.lean ====
section
/-! DEFINITION. The two resets: the load of the stored settings, what every block holds after either reset, RESTART
and the assertion and release of a power-on reset (R20, R49, R64, R89, R123, R145, R159, R169, R177 to R181). -/

namespace Sys2Proof.Machine

/-- A unit after either reset: ACTIVE with the status of R20 where it has a working record, UNCONFIGURED where it
has none. -/
def UnitEntry.afterReset (r : Option UnitRecord) : UnitEntry :=
  match r with
  | some rec => { record := some rec, status := .fresh }
  | none => .blank

/-- The ring position after either reset: the lowest configured linked unit, or 0 (R159). -/
def lowestLinked (units : Vector UnitEntry 36) : Nat :=
  ((allUnits.filter fun u => !isWired u && units[u].record.isSome).head?).elim 0 (·.val)

/-- The restart hold as a reset starts it: a hold of 0 s ends at the reset itself (R180). -/
def SiteRecord.startHold (r : SiteRecord) : RestartHold :=
  if r.restartHold = 0 then .ended else .running r.restartHold

/-- The start gate after a reset: HELD while the restart hold runs, OPEN from the reset with a hold of 0 s (R61). -/
def SiteRecord.startGate (r : SiteRecord) : StartGate := if r.restartHold = 0 then .opened else .held

/-- Every block at the values its chapter gives after either reset, over given working records, with the notices
that the reset raises. The Settings Store, the straps and the queue of waiting commands are kept. -/
def State.reinitialise (site : SiteRecord) (units : Vector UnitEntry 36) (notices : BitVec 16) (s : State) : State where
  timeBase := .fresh
  units := units
  slots := Vector.replicate 96 .free
  freeList := allSlots
  startGate := site.startGate
  openingDue := false
  shedGate := .opened
  meter := .fresh
  queue := []
  shed := .fresh
  link := .fresh site.linkSpeed (lowestLinked units)
  channels := Vector.replicate 4 .fresh
  panel := .fresh s.panel.straps notices
  site := site
  store := s.store
  hold := site.startHold
  resetHeld := false
  pending := s.pending

/-! ### RESTART (R181) -/

/-- The units that a soft restart keeps: their working records as they stood, but for a RETIRING unit, whose
retirement is complete at the restart (R20). -/
def UnitEntry.afterRestart (e : UnitEntry) : UnitEntry :=
  if e.status.state = .retiring then .blank else .afterReset e.record

/-- A soft restart: the working records are kept, RESTARTED alone is raised, the straps and the store are not
read (R181). -/
def State.softRestart (s : State) : State :=
  s.reinitialise s.site (Vector.ofFn fun u => s.units[u].afterRestart) Notice.restarted.word

/-! ### Power-on reset (R178, R179) -/

/-- Whether a stored place loads as its unit: an empty place, or a record that passes the tests and carries the
number of its place (R179). -/
def placeLoads (u : UnitNo) : Option (List Byte) → Bool
  | none => true
  | some bytes =>
    match parseUnitRecord bytes with
    | some (v, _) => decide (v = u)
    | none => false

/-- The working record that a stored place gives. -/
def placeRecord : Option (List Byte) → Option UnitRecord
  | none => none
  | some bytes => (parseUnitRecord bytes).map Prod.snd

/-- The stored settings where the marker is valid and every stored record passes its tests (R179). -/
def SettingsStore.load (st : SettingsStore) : Option (SiteRecord × Vector UnitEntry 36) :=
  if st.valid && allUnits.all fun u => placeLoads u st.places[u] then
    (parseSiteRecord st.site).map fun site =>
      (site, Vector.ofFn fun u => UnitEntry.afterReset (placeRecord st.places[u]))
  else none

/-- A SAVE that a reset cuts off is not resumed, and its marker stays cleared (R178, R179). What the places hold after
a cut-off writing is not seen by anything before a SAVE has written all of them: they are left as they were. -/
def SettingsStore.cutOff (st : SettingsStore) : SettingsStore :=
  { st with valid := st.valid && st.saving.isNone, saving := none, savingMs := 0 }

/-- The onset of a power-on reset: the attention line is released, and a SAVE in progress is cut off (R177, R178). -/
def State.assertReset (s : State) : State := { s with resetHeld := true, store := s.store.cutOff }

/-- The release of a power-on reset: the straps are sampled, the settings are loaded or defaulted, and every block takes
its reset state (R170, R177, R179). -/
def State.powerOn (straps : BitVec 2) (s : State) : State :=
  let t := { s with store := s.store.cutOff, panel := { s.panel with straps := straps } }
  match t.store.load with
  | some (site, units) => t.reinitialise site units Notice.restarted.word
  | none =>
    t.reinitialise siteDefaults (Vector.replicate 36 .blank)
      (Notice.restarted.word ||| Notice.settingsInvalid.word)

end Sys2Proof.Machine
end

