-- ==== Sys2Proof/Machine/Ticks.lean ====
section
/-! DEFINITION. The events of the part itself as shared operations, each taken exactly where the state shows that it has
been raised: the expiries of the slot timers, the openings of the gates, the end of the hold, the closes and the loss,
the cycle stop, the two ticks (R26 to R35, R50 to R62, R65 to R77, R161 to R167, R180). -/

namespace Sys2Proof.Machine

/-! ### Expiries of compare A and compare P -/

/-- The permit of a slot whose compare A has expired in a state and has not been taken yet (R55, R56). -/
def State.expired (s : State) (st : PermitState) (i : SlotNo) : Option Permit :=
  match s.slots[i].permit with
  | some p => if p.state = st && s.slots[i].aDue then some p else none
  | none => none

/-- Disarms compare A: one loading gives at most one expiry (R55). -/
def Slot.disarmA (sl : Slot) : Slot := { sl with aArmed := false }

/-- Sets min-run met on the slot's permit (R28, R29). -/
def Slot.meetMinRun (sl : Slot) : Slot := { sl with permit := sl.permit.map fun p => { p with minRunMet := true } }

/-- Settle expiry: STARTING goes to RUNNING (R26, R27). -/
def State.settleExpiry (i : SlotNo) (s : State) : State :=
  match s.expired .starting i with
  | some p => s.modifySlot i (Slot.enterRunningSettled (s.minRun p.unit) (s.rotation p.unit))
  | none => s

/-- Min-run expiry in RUNNING: min-run met, the permit stays RUNNING (R28). -/
def State.minRunExpiry (i : SlotNo) (s : State) : State :=
  match s.expired .running i with
  | some _ => s.modifySlot i fun sl => sl.disarmA.meetMinRun
  | none => s

/-- Min-run expiry in DRAINING: min-run met and top order applied to the unit (R29, R30). -/
def State.drainingExpiry (i : SlotNo) (s : State) : State :=
  match s.expired .draining i with
  | some p =>
    ((s.modifySlot i fun sl => sl.disarmA.meetMinRun).topOrder p.unit).settleLevel p.unit (s.level p.unit)
  | none => s

/-- Rotation expiry: rotation due is set and compare P disarmed (R28, R57). -/
def State.rotationExpiry (i : SlotNo) (s : State) : State :=
  match s.slots[i].permit with
  | some p =>
    if p.state = .running && s.slots[i].pDue then
      s.modifySlot i fun sl =>
        { sl with pArmed := false, permit := sl.permit.map fun p => { p with rotationDue := true } }
    else s
  | none => s

/-- Compliance expiry: NONCOMPLIANT and the unit's flag; the permit stays in STOPPING (R33). -/
def State.complianceExpiry (i : SlotNo) (s : State) : State :=
  match s.expired .stopping i with
  | some p =>
    ((s.modifySlot i Slot.disarmA).modifyStatus p.unit fun st => { st with noncompliant := true }).raise .noncompliant
  | none => s

/-- Min-off expiry: the slot is freed to the tail of the free list, and a retirement may complete (R35). -/
def State.minOffExpiry (i : SlotNo) (s : State) : State :=
  match s.expired .resting i with
  | some p => s.freeSlot p.unit i
  | none => s

/-! ### Gates and hold -/

/-- The opening of the start gate at the end of its count runs a pass (R61, R90). The gate has been OPEN since the tick
that brought its count to 0 (R60), so a regular pass between may have made the grant. -/
def State.openStartGate (s : State) : State :=
  if s.openingDue then State.admissionPass { s with openingDue := false } else s

/-- The opening of the shed gate, with the shed action taken at it (R62, R126). -/
def State.openShedGate (s : State) : State :=
  if s.shedGate = .counting 0 then State.shedAction { s with shedGate := .opened } else s

/-- The end of the restart hold: the start gate leaves HELD and becomes OPEN, and the opening runs a pass (R61, R180). -/
def State.endHold (s : State) : State :=
  if s.hold = .running 0 then State.admissionPass { s with hold := .ended, startGate := .opened } else s

/-! ### Meter events -/

/-- The loss of the meter (R73). -/
def State.meterLoss (s : State) : State :=
  if s.meter.lossDue && decide (s.meter.state = .ok) then (s.modifyMeter Meter.lose).raise .meterLost else s

/-- The close at T_s in FREE mode or with sync-lost set (R75, R77). -/
def State.freeClose (s : State) : State :=
  if s.meter.closeDue = some .free && (decide (s.site.syncMode = .free) || s.meter.syncLost) then s.closeSubinterval
  else s

/-- The self-close at T_s + g in METER mode: sync-lost is set and SYNC LOST raised (R77). -/
def State.selfClose (s : State) : State :=
  if s.meter.closeDue = some .selfClose && decide (s.site.syncMode = .meter) && !s.meter.syncLost then
    (s.modifyMeter fun m => { m with syncLost := true }).closeSubinterval.raise .syncLost
  else s

/-- An EOI mark: in METER mode it closes the subinterval, early with SYNC SLIP below T_s − g, and as a resync without a
notice while sync-lost is set; in FREE mode it acts on nothing (R66, R76, R77). -/
def State.eoiMark (s : State) : State :=
  if s.meter.eoiDue then
    let t := s.modifyMeter fun m => { m with eoiDue := false }
    match s.site.syncMode with
    | .free => t
    | .meter =>
      if s.meter.syncLost then (t.modifyMeter fun m => { m with syncLost := false }).closeSubinterval
      else t.closeSubinterval.raiseIf (decide (s.meter.elapsed < s.site.subLength - s.site.grace)) .syncSlip
  else s

/-- An edge of PULSE: noise below the minimum spacing, otherwise a counted pulse, which hands a shed evaluation to the
Shed Controller (R67, R69). -/
def State.pulseEdge (tickFirst : Bool) (s : State) : State :=
  if s.meter.pulseDue then
    let t := s.modifyMeter fun m => { m with pulseDue := false }
    if s.meter.isNoise s.site tickFirst then t.raise .meterNoise
    else (t.modifyMeter (Meter.countPulse s.site tickFirst)).shedEvaluation
  else s

/-! ### Wired channels -/

/-- The presentation of a call state that a sample turned over. What is presented is the state that the sample read, the
other than the one last presented: a call polarity that SET UNIT changes after the sample is read at the next one (R5,
R162). -/
def State.callChange (c : ChannelNo) (s : State) : State :=
  if s.channels[c].callDue then
    if s.configured (channelUnit c) then s.callEvent c (!s.channels[c].calling)
    else s.modifyChannel c fun ch => { ch with callDue := false }
  else s

/-- The slot of a channel's RUNNING stage 0, where its on-limit test of this tick holds (R167). -/
def State.onLimitVictim (s : State) (c : ChannelNo) : Option SlotNo :=
  if s.cyclingApplies c && s.channels[c].grantRecorded
      && (s.wiredFields c).any (fun w => decide (w.onLimit * 60 ≤ s.channels[c].cycleCounter)) then
    allSlots.find? (s.holds (channelUnit c) fun p => decide (p.state = .running) && decide (p.stage = 0))
  else none

/-- The on-limit test of a channel at a second tick, after its counter has advanced: it stops the channel's RUNNING stage
with reason CYCLED (R167). -/
def State.cycleStop (c : ChannelNo) (s : State) : State :=
  if s.channels[c].testDue then
    let t := s.modifyChannel c fun ch => { ch with testDue := false }
    match s.onLimitVictim c with
    | some _ =>
      let u := channelUnit c
      (t.enterStop u .cycled fun k => decide (k = 0)).settleLevel u (s.level u)
    | none => t
  else s

/-! ### The second tick (R51) -/

/-- A channel at a second tick: the counter counts while the mark is set, and the on-limit test follows (R165, R167). -/
def Channel.secondTick (ch : Channel) : Channel :=
  { ch with
    cycleCounter := if ch.grantRecorded then min Config.counterMax (ch.cycleCounter + 1) else ch.cycleCounter
    testDue := true }

/-- The desire step of a configured wired unit that holds no queue entry (R117). -/
def State.retryWired (c : ChannelNo) (s : State) : State :=
  if s.configured (channelUnit c) && !s.queued (channelUnit c) then s.desireStep (channelUnit c) else s

/-- The count of the restart hold falls by 1; at 0 it waits there for its end to be taken (R180). -/
def RestartHold.tick : RestartHold → RestartHold
  | .running n => .running (n - 1)
  | .ended => .ended

/-- Whether a start gate's count reaches 0 at the next second tick (R60). -/
def StartGate.opensAtTick : StartGate → Bool
  | .counting n => decide (n ≤ 1)
  | .opened | .held => false

/-- The start gate's count falls by 1, and the gate becomes OPEN when it reaches 0 (R60). -/
def StartGate.tick : StartGate → StartGate
  | .counting n => if n ≤ 1 then .opened else .counting (n - 1)
  | .opened => .opened
  | .held => .held

/-- The shed gate's count falls by 1; at 0 it waits there for its opening to be taken (R62, R127). -/
def ShedGate.tick : ShedGate → ShedGate
  | .counting n => .counting (n - 1)
  | .opened => .opened

/-- The entry of a unit as the slot counters take the tick: the remaining seconds of a rest fall with them. So a pass of
the tick that came before the counters leaves what one behind them gives, the remaining seconds fall by one each second
(R95), and a rest that ends at the tick shows 0 (R105; log entry 5). -/
def QueueEntry.restTick (e : QueueEntry) : QueueEntry :=
  if e.reason = .resting then { e with remaining := e.remaining - 1 } else e

/-- One of the things that take a second tick, on its own state (R51). -/
def State.takePart (p : TickPart) (s : State) : State :=
  match p with
  | .restartHold => { s with hold := s.hold.tick }
  | .startGate =>
    { s with startGate := s.startGate.tick, openingDue := s.openingDue || s.startGate.opensAtTick }
  | .shedGate => { s with shedGate := s.shedGate.tick }
  | .slotCounters =>
    { s with slots := Vector.ofFn fun i => s.slots[i].tick, queue := s.queue.map QueueEntry.restTick }
  | .subintervalClock => s.modifyMeter (Meter.clockTick s.site)
  | .rateDecay => s.modifyMeter (Meter.secondTick s.site)
  | .cycleCounters => { s with channels := Vector.ofFn fun c => s.channels[c].secondTick }
  | .shedEvaluation => s.shedEvaluation
  | .wiredRetry c => s.retryWired c
  | .regularPass => s.admissionPass

/-- One of the events that come together with a second tick. -/
def State.takeEvent (e : TickEvent) (s : State) : State :=
  match e with
  | .settleExpiry i => s.settleExpiry i
  | .minRunExpiry i => s.minRunExpiry i
  | .drainingMinRunExpiry i => s.drainingExpiry i
  | .rotationExpiry i => s.rotationExpiry i
  | .complianceExpiry i => s.complianceExpiry i
  | .minOffExpiry i => s.minOffExpiry i
  | .startGateOpening => s.openStartGate
  | .shedGateOpening => s.openShedGate
  | .restartHoldEnd => s.endHold
  | .meterLoss => s.meterLoss
  | .freeClose => s.freeClose
  | .selfClose => s.selfClose
  | .cycleOnLimitStop c => s.cycleStop c

/-- One item of a second tick's order. -/
def State.takeItem (s : State) : TickItem → State
  | .part p => s.takePart p
  | .event e => s.takeEvent e

/-- All the parts of a second tick, in the order that is taken where a command's order names none. -/
def allTickParts : List TickPart :=
  [.restartHold, .startGate, .shedGate, .slotCounters, .subintervalClock, .rateDecay, .cycleCounters,
   .shedEvaluation, .wiredRetry 0, .wiredRetry 1, .wiredRetry 2, .wiredRetry 3, .regularPass]

/-- An order with each part taken once: a part named again is left out, and the parts not named follow. `left` is the
parts not yet named. -/
def completeOrder : List TickPart → List TickItem → List TickItem
  | left, [] => left.map .part
  | left, .part p :: rest =>
    if left.contains p then .part p :: completeOrder (left.filter fun q => decide (q ≠ p)) rest
    else completeOrder left rest
  | left, .event e :: rest => .event e :: completeOrder left rest

/-- What the events of an earlier second tick left raised is over when the next one comes. -/
def State.clearTickMarks (s : State) : State :=
  { s with
    meter := { s.meter with lossDue := false, closeDue := none }
    channels := Vector.ofFn fun c => { s.channels[c] with testDue := false } }

/-- The second divider at the tick: it has wrapped, or it wraps with this tick (R51). -/
def TimeBase.takeSecond (tb : TimeBase) : TimeBase :=
  { tb with secondDivider := if tb.secondDue then tb.secondDivider else 0, secondDue := false }

/-- The order of a second tick at which the start gate's count reaches 0: the gate is OPEN before any pass of that tick,
so that the regular pass and the pass of the opening meet the same gate and the first of them makes the grant (R60, R90;
log entry 5). Any other order stays as it is given. -/
def State.tickOrder (s : State) (order : List TickItem) : List TickItem :=
  if s.startGate.opensAtTick then .part .startGate :: order else order

/-- A second tick: each part takes it once, in the order given (R51). -/
def State.secondTick (order : List TickItem) (s : State) : State :=
  (completeOrder allTickParts (s.tickOrder order)).foldl State.takeItem
    { s.clearTickMarks with timeBase := s.timeBase.takeSecond }

/-! ### The millisecond tick (R50) -/

/-- The dividers at a millisecond tick (R50, R51, R161). -/
def TimeBase.takeMillisecond (tb : TimeBase) : TimeBase :=
  { tb with
    millisecondDivider := if tb.millisecondDue then tb.millisecondDivider else 0
    millisecondDue := false
    secondDivider := (tb.secondDivider + 1) % Config.millisecondsPerSecond
    secondDue := tb.secondDue || decide (tb.secondDivider + 1 = Config.millisecondsPerSecond)
    callPhase := (tb.callPhase + 1) % Config.callSamplePeriod }

/-- The Meter Interface at a millisecond tick: the filters sample, e advances while timing, saturating (R65, R68); what an
earlier tick left raised is over. -/
def Meter.millisecondTick (site : SiteRecord) (inputs : InputLevels) (m : Meter) : Meter :=
  let pulse := m.pulseFilter.sample inputs.pulse
  let eoi := m.eoiFilter.sample inputs.eoi
  { m with
    pulseFilter := pulse
    eoiFilter := eoi
    elapsedMs := m.elapsedMs.map fun e => min Config.wideMax (e + 1)
    elapsedBefore := m.elapsedMs
    pulseDue := (Filter.change m.pulseFilter pulse).any site.countingEdge.counts
    eoiDue := decide (Filter.change m.eoiFilter eoi = some true)
    lossDue := false
    closeDue := none }

/-- The call input of a channel among the sampled levels. -/
def InputLevels.call (inputs : Sys2Proof.InputLevels) (c : ChannelNo) : Bool :=
  match c.val with
  | 0 => inputs.call0
  | 1 => inputs.call1
  | 2 => inputs.call2
  | _ => inputs.call3

/-- The call inputs sampled at a twentieth millisecond tick; a channel of a configured unit whose call state then differs
from the one last presented has a change to present (R161, R162). -/
def State.sampleCalls (inputs : InputLevels) (s : State) : State :=
  let t := { s with
    channels := Vector.ofFn fun c =>
      { s.channels[c] with filter := s.channels[c].filter.sample (InputLevels.call inputs c) } }
  { t with
    channels := Vector.ofFn fun c =>
      { t.channels[c] with
        callDue := t.configured (channelUnit c) && decide (t.callState c ≠ t.channels[c].calling) } }

/-- What an earlier tick left raised at the channels is over. -/
def State.clearChannelMarks (s : State) : State :=
  { s with channels := Vector.ofFn fun c => { s.channels[c] with callDue := false, testDue := false } }

/-- The reply timeout counts in AWAITING (R152). -/
def RoofLink.millisecondTick (l : RoofLink) : RoofLink :=
  if l.line = .awaiting then { l with replyTimer := l.replyTimer + 1 } else l

/-- A millisecond tick, taken by each thing that samples or times in milliseconds (R50, R51's table). -/
def State.millisecondTick (inputs : InputLevels) (s : State) : State :=
  let t := { s.clearChannelMarks with
    timeBase := s.timeBase.takeMillisecond
    meter := s.meter.millisecondTick s.site inputs
    link := s.link.millisecondTick
    store := { s.store with
      savingMs := if s.store.saving.isSome then min Config.saveMilliseconds (s.store.savingMs + 1) else 0 } }
  if t.timeBase.callPhase = 0 then t.sampleCalls inputs else t

/-! ### Crystal time between commands (R50, R52) -/

/-- The speed at which the bit times of the line are counted at the moment: the transaction's, the gap's, or the working
record's (R52, R152). -/
def State.lineSpeed (s : State) : LinkSpeed :=
  match s.link.line, s.link.transaction with
  | .gap, _ => s.link.gapSpeed
  | _, some t => t.speed
  | _, none => s.site.linkSpeed

/-- One crystal cycle in which no command comes: the dividers count. A wrap of the millisecond divider raises the
millisecond tick for its command to take; a wrap of the link bit divider is a bit time of the line (R50, R52). -/
def State.crystalCycle (s : State) : State :=
  let ms := s.timeBase.millisecondDivider + 1
  let bit := s.link.bitDivider + 1
  let bitEnds := decide (s.lineSpeed.bitCycles ≤ bit)
  { s with
    timeBase := { s.timeBase with
      millisecondDivider := ms % Config.cyclesPerMillisecond
      millisecondDue := s.timeBase.millisecondDue || decide (ms = Config.cyclesPerMillisecond) }
    link := { s.link with
      bitDivider := if bitEnds then 0 else bit
      lineBits := if bitEnds then s.link.lineBits + 1 else s.link.lineBits } }

end Sys2Proof.Machine
end

