-- ==== Sys2Proof/Machine/TimerEvents.lean ====
section
/-! DEFINITION. The meanings of the ticks and of the events that a second tick raises: SECOND_TICK, MILLISECOND_TICK, the
six expiries of the slot timers, START_GATE_OPENING, SHED_GATE_OPENING, RESTART_HOLD_END. While a power-on reset is
held the part does not run, and every event of its own leaves it as it is. -/

namespace Sys2Proof.Machine

/-- An event of the part itself: it acts unless a power-on reset is held. -/
def State.live (s : State) (f : State → State) : State := if s.resetHeld then s else f s

/-- SECOND_TICK (R51). -/
def execSecondTick (order : List TickItem) (s : State) : Host.Outcome State Fault Refusal :=
  .next (s.live (State.secondTick order))

/-- MILLISECOND_TICK (R50). -/
def execMillisecondTick (inputs : InputLevels) (s : State) : Host.Outcome State Fault Refusal :=
  .next (s.live (State.millisecondTick inputs))

/-- SETTLE_EXPIRY (R26). -/
def execSettleExpiry (slot : SlotNo) (s : State) : Host.Outcome State Fault Refusal :=
  .next (s.live (State.settleExpiry slot))

/-- MIN_RUN_EXPIRY (R28). -/
def execMinRunExpiry (slot : SlotNo) (s : State) : Host.Outcome State Fault Refusal :=
  .next (s.live (State.minRunExpiry slot))

/-- DRAINING_MIN_RUN_EXPIRY (R29). -/
def execDrainingMinRunExpiry (slot : SlotNo) (s : State) : Host.Outcome State Fault Refusal :=
  .next (s.live (State.drainingExpiry slot))

/-- ROTATION_EXPIRY (R57). -/
def execRotationExpiry (slot : SlotNo) (s : State) : Host.Outcome State Fault Refusal :=
  .next (s.live (State.rotationExpiry slot))

/-- COMPLIANCE_EXPIRY (R33). -/
def execComplianceExpiry (slot : SlotNo) (s : State) : Host.Outcome State Fault Refusal :=
  .next (s.live (State.complianceExpiry slot))

/-- MIN_OFF_EXPIRY (R35). -/
def execMinOffExpiry (slot : SlotNo) (s : State) : Host.Outcome State Fault Refusal :=
  .next (s.live (State.minOffExpiry slot))

/-- START_GATE_OPENING (R61). -/
def execStartGateOpening (s : State) : Host.Outcome State Fault Refusal :=
  .next (s.live State.openStartGate)

/-- SHED_GATE_OPENING (R62). -/
def execShedGateOpening (s : State) : Host.Outcome State Fault Refusal :=
  .next (s.live State.openShedGate)

/-- RESTART_HOLD_END (R180). -/
def execRestartHoldEnd (s : State) : Host.Outcome State Fault Refusal :=
  .next (s.live State.endHold)

end Sys2Proof.Machine
end

