-- ==== Sys2Proof/Machine/LinkEvents.lean ====
section
/-! DEFINITION. The meanings of the roof link's events: LINK_GAP_END, POLL_SENT, REPORT_RECEIVED, REPLY_ENDED_EARLY,
REPLY_TIMEOUT, CHARACTER_RECEIVED, RECEIVER_FRAMING_ERROR, RECEIVER_LINE_HIGH. -/

namespace Sys2Proof.Machine

/-- The end of the gap, or an IDLE line on which a unit has come to be polled: the arbiter chooses (R152, R155). -/
def State.gapEnd (s : State) : State := if s.link.line = .gap || s.link.line = .idle then s.nextTransaction else s

/-- LINK_GAP_END (R152). -/
def execLinkGapEnd (s : State) : Host.Outcome State Fault Refusal :=
  .next (s.live State.gapEnd)

/-- The end of sending: AWAITING, the reply timeout from 0, no reply in progress (R152). The receiver listens again as
the start of SENDING left it: one that waited for the line to return high still does (DESIGN CHOICE, log entry 26). -/
def RoofLink.sent (l : RoofLink) : RoofLink :=
  if l.line = .sending then { l with line := .awaiting, reply := [], replyTimer := 0, replyBroken := false } else l

/-- POLL_SENT (R152). -/
def execPollSent (s : State) : Host.Outcome State Fault Refusal :=
  .next (s.live (State.modifyLink RoofLink.sent))

/-- The polled unit while AWAITING. -/
def State.polled (s : State) : Option UnitNo :=
  if s.link.line = .awaiting then s.link.transaction.map Transaction.unit else none

/-- The end of a transaction at the eighth character: a good report, or a miss of the polled unit (R153, R154). -/
def State.endReply (s : State) : State :=
  match s.polled with
  | some u =>
    if s.link.reply.length = 8 && !s.link.replyBroken then
      (if goodReply u s.link.reply then s.beginGap.report u s.link.reply else s.beginGap.missOf u)
    else s
  | none => s

/-- REPORT_RECEIVED (R153). -/
def execReportReceived (s : State) : Host.Outcome State Fault Refusal :=
  .next (s.live State.endReply)

/-- The end of a transaction whose reply has ended early: a miss (R153). -/
def State.endBroken (s : State) : State :=
  match s.polled with
  | some u => if s.link.replyBroken then s.beginGap.missOf u else s
  | none => s

/-- REPLY_ENDED_EARLY (R153). -/
def execReplyEndedEarly (s : State) : Host.Outcome State Fault Refusal :=
  .next (s.live State.endBroken)

/-- Whether the reply timeout of the transaction in flight has been reached before the eighth character (R152). -/
def State.timedOut (s : State) : Bool :=
  s.link.transaction.any (fun t => decide (t.timeout ≤ s.link.replyTimer)) && decide (s.link.reply.length < 8)

/-- The end of a transaction at its reply timeout: a miss, however many characters have arrived (R152). -/
def State.endTimeout (s : State) : State :=
  match s.polled with
  | some u => if s.timedOut then s.beginGap.missOf u else s
  | none => s

/-- REPLY_TIMEOUT (R152). -/
def execReplyTimeout (s : State) : Host.Outcome State Fault Refusal :=
  .next (s.live State.endTimeout)

/-- A character at the receiver: it does not listen while SENDING (R146), nor look for a start bit while it waits for the
line to return high (R147). Its stop bit was sampled high, so the next low sample is one after a high one. -/
def RoofLink.receive (data : Byte) (mark : Bool) (l : RoofLink) : RoofLink :=
  if l.line = .sending || l.receiver = .waitingHigh then l
  else { l.takeCharacter data mark with receiver := .waitingStart, lineWasHigh := true }

/-- CHARACTER_RECEIVED (R147, R153). -/
def execCharacterReceived (data : Byte) (mark : Bool) (s : State) : Host.Outcome State Fault Refusal :=
  .next (s.live (State.modifyLink (RoofLink.receive data mark)))

/-- A stop bit read low: nothing while SENDING or while the receiver waits for the line to return high (R146, R147). -/
def RoofLink.framingError (mark : Bool) (l : RoofLink) : RoofLink :=
  if l.line = .sending || l.receiver = .waitingHigh then l else l.takeFramingError mark

/-- RECEIVER_FRAMING_ERROR (R147). -/
def execReceiverFramingError (s : State) (mark : Bool := false) : Host.Outcome State Fault Refusal :=
  .next (s.live (State.modifyLink (RoofLink.framingError mark)))

/-- The line sampled high after a framing error: the receiver waits for a start bit again, which the next low sample
begins (R147). -/
def RoofLink.lineHigh (l : RoofLink) : RoofLink :=
  if l.line ≠ .sending && decide (l.receiver = .waitingHigh) then
    { l with receiver := .waitingStart, lineWasHigh := true }
  else l

/-- RECEIVER_LINE_HIGH (R147). -/
def execReceiverLineHigh (s : State) : Host.Outcome State Fault Refusal :=
  .next (s.live (State.modifyLink RoofLink.lineHigh))

/-! ### The receiver sample by sample (R147)

No row of the table carries a sample, so a sample is no command. What the samples of the line come to is what the three
receiver commands do, by the same operations (log entry 17). -/

/-- The speed at which the receiver samples: the transaction's, or the working site record's when none is in flight
(R147; log entry 25 for the gap). -/
def State.sampleSpeed (s : State) : LinkSpeed := s.link.transaction.elim s.site.linkSpeed Transaction.speed

/-- Crystal cycles from one sample of the receiver to the next (R52). -/
def State.samplePeriod (s : State) : Nat := s.sampleSpeed.divisor

/-- The receiver within a character, with the samples taken so far: a start bit whose samples 7, 8 and 9 read high is
noise, and the receiver waits for a start bit again; with sample 9 of the stop bit the character is read (R147). -/
def RoofLink.takeSamples (samples : List Bool) (l : RoofLink) : RoofLink :=
  let waiting : RoofLink := { l with receiver := .waitingStart }
  if decide (samples.length = 9) && sampledBit samples then waiting
  else if samples.length < Config.samplesToRead then { l with receiver := .inCharacter samples }
  else
    match readSamples samples with
    | .noise => waiting
    | .framingError mark => waiting.framingError mark
    | .character data mark => waiting.receive data mark

/-- One sample of the line at the receiver, which does not listen while SENDING: a start bit begins at the first low
sample after a high one (R146, R147). -/
def RoofLink.sampleLine (high : Bool) (l : RoofLink) : RoofLink :=
  if l.line = .sending then l
  else
    let heard : RoofLink :=
      match l.receiver with
      | .waitingStart => if l.lineWasHigh && !high then { l with receiver := .inCharacter [high] } else l
      | .inCharacter samples => l.takeSamples (samples ++ [high])
      | .waitingHigh => if high then l.lineHigh else l
    { heard with lineWasHigh := high }

/-- One sample of the line, taken every `samplePeriod` crystal cycles (R147). -/
def State.sampleLine (s : State) (high : Bool) : State := s.live (State.modifyLink (RoofLink.sampleLine high))

end Sys2Proof.Machine
end

