-- ==== Sys2Proof/Machine/MeterEvents.lean ====
section
/-! DEFINITION. The meanings of the meter's and the wired channels' events: METER_LOSS, FREE_CLOSE, SELF_CLOSE, EOI_MARK,
PULSE_EDGE, CALL_CHANGE, CYCLE_ON_LIMIT_STOP. -/

namespace Sys2Proof.Machine

/-- METER_LOSS (R73). -/
def execMeterLoss (s : State) : Host.Outcome State Fault Refusal :=
  .next (s.live State.meterLoss)

/-- FREE_CLOSE (R75, R77). -/
def execFreeClose (s : State) : Host.Outcome State Fault Refusal :=
  .next (s.live State.freeClose)

/-- SELF_CLOSE (R77). -/
def execSelfClose (s : State) : Host.Outcome State Fault Refusal :=
  .next (s.live State.selfClose)

/-- EOI_MARK (R76, R77). -/
def execEoiMark (s : State) : Host.Outcome State Fault Refusal :=
  .next (s.live State.eoiMark)

/-- PULSE_EDGE (R67 to R71, R74). -/
def execPulseEdge (tickFirst : Bool) (s : State) : Host.Outcome State Fault Refusal :=
  .next (s.live (State.pulseEdge tickFirst))

/-- CALL_CHANGE (R162). -/
def execCallChange (channel : ChannelNo) (s : State) : Host.Outcome State Fault Refusal :=
  .next (s.live (State.callChange channel))

/-- CYCLE_ON_LIMIT_STOP (R167). -/
def execCycleOnLimitStop (channel : ChannelNo) (s : State) : Host.Outcome State Fault Refusal :=
  .next (s.live (State.cycleStop channel))

end Sys2Proof.Machine
end

