-- ==== Sys2Proof/Machine/SiteCommands.lean ====
section
/-! DEFINITION. The meanings of the site commands and of the reading commands: SET_SITE, GET_SITE, SET_LIMIT, CURTAIL,
READ_DEMAND, RESET_PEAK, READ_PERMIT, READ_QUEUE, READ_NOTICES. -/

namespace Sys2Proof.Machine

/-- SET_SITE (R85 to R87). -/
def execSetSite (params : List Byte) (s : State) : Host.Outcome State Fault Refusal :=
  .next (s.serve (0x20#8 :: params) (State.setSite params))

/-- GET_SITE (R173). -/
def execGetSite (s : State) : Host.Outcome State Fault Refusal :=
  .next (s.serve [0x21#8] (answering fun t => t.site.encode))

/-- SET_LIMIT (R138). -/
def execSetLimit (limit margin : BitVec 16) (s : State) : Host.Outcome State Fault Refusal :=
  .next (s.serve (0x22#8 :: (byte2 limit.toNat ++ byte2 margin.toNat)) (State.setLimit limit.toNat margin.toNat))

/-- CURTAIL (R134). -/
def execCurtail (threshold : Byte) (s : State) : Host.Outcome State Fault Refusal :=
  .next (s.serve [0x23#8, threshold] (State.curtail threshold.toNat))

/-- READ_DEMAND (R88, R175). -/
def execReadDemand (s : State) : Host.Outcome State Fault Refusal :=
  .next (s.serve [0x30#8] (answering State.demandData))

/-- RESET_PEAK (R80). -/
def execResetPeak (s : State) : Host.Outcome State Fault Refusal :=
  .next (s.serve [0x31#8] State.resetPeak)

/-- READ_PERMIT (R48). -/
def execReadPermit (slot : Byte) (s : State) : Host.Outcome State Fault Refusal :=
  .next (s.serve [0x32#8, slot] (State.readPermit slot))

/-- READ_QUEUE (R122). -/
def execReadQueue (s : State) : Host.Outcome State Fault Refusal :=
  .next (s.serve [0x33#8] (answering State.queueData))

/-- READ_NOTICES (R176). -/
def execReadNotices (s : State) : Host.Outcome State Fault Refusal :=
  .next (s.serve [0x34#8] State.readNotices)

end Sys2Proof.Machine
end

