-- ==== Sys2Proof/Machine/UnitCommands.lean ====
section
/-! DEFINITION. The meanings of the unit commands: SET_UNIT, GET_UNIT, READ_UNIT_STATUS, LOCK_UNIT, UNLOCK_UNIT,
RETIRE_UNIT, RELEASE_UNIT. Each is one write transaction at the panel port. -/

namespace Sys2Proof.Machine

/-- SET_UNIT (R2 to R5, R174). -/
def execSetUnit (params : List Byte) (s : State) : Host.Outcome State Fault Refusal :=
  .next (s.serve (0x10#8 :: params) (State.setUnit params))

/-- GET_UNIT (R6). -/
def execGetUnit (unit : Byte) (s : State) : Host.Outcome State Fault Refusal :=
  .next (s.serve [0x11#8, unit] (withUnit unit fun u => answering (State.unitData u)))

/-- READ_UNIT_STATUS (R6). -/
def execReadUnitStatus (unit : Byte) (s : State) : Host.Outcome State Fault Refusal :=
  .next (s.serve [0x12#8, unit] (withUnit unit fun u => answering (State.statusData u)))

/-- LOCK_UNIT (R15). -/
def execLockUnit (unit : Byte) (s : State) : Host.Outcome State Fault Refusal :=
  .next (s.serve [0x13#8, unit] (withUnit unit State.lockUnit))

/-- UNLOCK_UNIT (R19). -/
def execUnlockUnit (unit : Byte) (s : State) : Host.Outcome State Fault Refusal :=
  .next (s.serve [0x14#8, unit] (withUnit unit State.unlockUnit))

/-- RETIRE_UNIT (R17). -/
def execRetireUnit (unit : Byte) (s : State) : Host.Outcome State Fault Refusal :=
  .next (s.serve [0x15#8, unit] (withUnit unit State.retireUnit))

/-- RELEASE_UNIT (R18, R39). -/
def execReleaseUnit (unit : Byte) (s : State) : Host.Outcome State Fault Refusal :=
  .next (s.serve [0x16#8, unit] (withUnit unit State.releaseUnit))

end Sys2Proof.Machine
end

