-- ==== Sys2Proof/Machine/StoreCommands.lean ====
section
/-! DEFINITION. The meanings of SAVE, SAVE_END, RESTART, PANEL_WRITE, POWER_ON_RESET and RESET_ASSERTED. -/

namespace Sys2Proof.Machine

/-- SAVE (R178). -/
def execSave (s : State) : Host.Outcome State Fault Refusal :=
  .next (s.serve [0x40#8] State.save)

/-- The end of a SAVE: the copy is written and the valid marker, last, is valid (R178). -/
def State.endSave (s : State) : State :=
  match s.store.saving with
  | some c =>
    { s with store := { site := c.site, places := c.places, valid := true, saving := none, savingMs := 0 } }
  | none => s

/-- SAVE_END (R178): it comes only while a SAVE runs. -/
def execSaveEnd (s : State) : Host.Outcome State Fault Refusal :=
  .next (if s.resetHeld then s else s.endSave)

/-- The soft restart as a panel command: no response is latched (R171, R181). -/
def State.servedRestart (s : State) : State := if s.portShut then s else s.softRestart

/-- RESTART (R181). -/
def execRestart (s : State) : Host.Outcome State Fault Refusal :=
  .next s.servedRestart

/-- The effect of the panel command that the bytes of a write name (R173). An event is no panel command and is never
named by bytes. -/
def State.runWrite (bytes : List Byte) (i : Instr) (s : State) : State :=
  match i with
  | .setUnit params => s.serve bytes (State.setUnit params)
  | .getUnit b => s.serve bytes (withUnit b fun u => answering (State.unitData u))
  | .readUnitStatus b => s.serve bytes (withUnit b fun u => answering (State.statusData u))
  | .lockUnit b => s.serve bytes (withUnit b State.lockUnit)
  | .unlockUnit b => s.serve bytes (withUnit b State.unlockUnit)
  | .retireUnit b => s.serve bytes (withUnit b State.retireUnit)
  | .releaseUnit b => s.serve bytes (withUnit b State.releaseUnit)
  | .setSite params => s.serve bytes (State.setSite params)
  | .getSite => s.serve bytes (answering fun t => t.site.encode)
  | .setLimit d m => s.serve bytes (State.setLimit d.toNat m.toNat)
  | .curtail c => s.serve bytes (State.curtail c.toNat)
  | .readDemand => s.serve bytes (answering State.demandData)
  | .resetPeak => s.serve bytes State.resetPeak
  | .readPermit b => s.serve bytes (State.readPermit b)
  | .readQueue => s.serve bytes (answering State.queueData)
  | .readNotices => s.serve bytes State.readNotices
  | .save => s.serve bytes State.save
  | .restart => s.servedRestart
  | .saveEnd | .panelWrite _ _ _ | .powerOnReset _ | .secondTick _ | .settleExpiry _ | .minRunExpiry _
  | .drainingMinRunExpiry _ | .rotationExpiry _ | .complianceExpiry _ | .minOffExpiry _ | .startGateOpening
  | .shedGateOpening | .restartHoldEnd | .meterLoss | .freeClose | .selfClose | .eoiMark | .pulseEdge _
  | .callChange _ | .cycleOnLimitStop _ | .linkGapEnd | .pollSent | .reportReceived | .replyEndedEarly
  | .replyTimeout | .millisecondTick _ | .characterReceived _ _ | .receiverFramingError _ | .receiverLineHigh
  | .resetAsserted => s

/-- A whole write transaction (R170, R171): an address that is not acknowledged carries no command; a write without a byte
executes nothing; a broken or overlong write, an unknown code and a wrong parameter count are refused BAD COMMAND; bytes
that name a valid command are taken as that command. -/
def State.writeTransaction (address : BitVec 7) (bytes : List Byte) (broken : Bool) (s : State) : State :=
  if !s.acknowledges address then s
  else if broken then s.serve bytes (refusedWith .badCommand)
  else
    match decodeWrite bytes with
    | .error .empty => s
    | .error .overlong | .error .unknownCode | .error .wrongCount => s.serve bytes (refusedWith .badCommand)
    | .ok i => s.runWrite bytes i

/-- PANEL_WRITE (R171). -/
def execPanelWrite (address : BitVec 7) (bytes : List Byte) (broken : Bool) (s : State) :
    Host.Outcome State Fault Refusal :=
  .next (s.writeTransaction address bytes broken)

/-- POWER_ON_RESET (R179). -/
def execPowerOnReset (straps : BitVec 2) (s : State) : Host.Outcome State Fault Refusal :=
  .next (s.powerOn straps)

/-- RESET_ASSERTED (R177, R178). -/
def execResetAsserted (s : State) : Host.Outcome State Fault Refusal :=
  .next s.assertReset

end Sys2Proof.Machine
end

