-- ==== Sys2Proof/Machine/Dispatch.lean ====
section
/-! DEFINITION. The dispatch: one arm per row of spec/opcode_table.json, each one call of the row's meaning. -/

namespace Sys2Proof.Machine

/-- The effect of a command on everything but the queue of waiting commands. -/
def exec (i : Instr) (s : State) : Host.Outcome State Fault Refusal :=
  match i with
  | .setUnit params => Sys2Proof.Machine.execSetUnit params s
  | .getUnit b => Sys2Proof.Machine.execGetUnit b s
  | .readUnitStatus b => Sys2Proof.Machine.execReadUnitStatus b s
  | .lockUnit b => Sys2Proof.Machine.execLockUnit b s
  | .unlockUnit b => Sys2Proof.Machine.execUnlockUnit b s
  | .retireUnit b => Sys2Proof.Machine.execRetireUnit b s
  | .releaseUnit b => Sys2Proof.Machine.execReleaseUnit b s
  | .setSite params => Sys2Proof.Machine.execSetSite params s
  | .getSite => Sys2Proof.Machine.execGetSite s
  | .setLimit d m => Sys2Proof.Machine.execSetLimit d m s
  | .curtail c => Sys2Proof.Machine.execCurtail c s
  | .readDemand => Sys2Proof.Machine.execReadDemand s
  | .resetPeak => Sys2Proof.Machine.execResetPeak s
  | .readPermit b => Sys2Proof.Machine.execReadPermit b s
  | .readQueue => Sys2Proof.Machine.execReadQueue s
  | .readNotices => Sys2Proof.Machine.execReadNotices s
  | .save => Sys2Proof.Machine.execSave s
  | .saveEnd => Sys2Proof.Machine.execSaveEnd s
  | .restart => Sys2Proof.Machine.execRestart s
  | .panelWrite a bytes broken => Sys2Proof.Machine.execPanelWrite a bytes broken s
  | .powerOnReset straps => Sys2Proof.Machine.execPowerOnReset straps s
  | .secondTick order => Sys2Proof.Machine.execSecondTick order s
  | .settleExpiry k => Sys2Proof.Machine.execSettleExpiry k s
  | .minRunExpiry k => Sys2Proof.Machine.execMinRunExpiry k s
  | .drainingMinRunExpiry k => Sys2Proof.Machine.execDrainingMinRunExpiry k s
  | .rotationExpiry k => Sys2Proof.Machine.execRotationExpiry k s
  | .complianceExpiry k => Sys2Proof.Machine.execComplianceExpiry k s
  | .minOffExpiry k => Sys2Proof.Machine.execMinOffExpiry k s
  | .startGateOpening => Sys2Proof.Machine.execStartGateOpening s
  | .shedGateOpening => Sys2Proof.Machine.execShedGateOpening s
  | .restartHoldEnd => Sys2Proof.Machine.execRestartHoldEnd s
  | .meterLoss => Sys2Proof.Machine.execMeterLoss s
  | .freeClose => Sys2Proof.Machine.execFreeClose s
  | .selfClose => Sys2Proof.Machine.execSelfClose s
  | .eoiMark => Sys2Proof.Machine.execEoiMark s
  | .pulseEdge t => Sys2Proof.Machine.execPulseEdge t s
  | .callChange c => Sys2Proof.Machine.execCallChange c s
  | .cycleOnLimitStop c => Sys2Proof.Machine.execCycleOnLimitStop c s
  | .linkGapEnd => Sys2Proof.Machine.execLinkGapEnd s
  | .pollSent => Sys2Proof.Machine.execPollSent s
  | .reportReceived => Sys2Proof.Machine.execReportReceived s
  | .replyEndedEarly => Sys2Proof.Machine.execReplyEndedEarly s
  | .replyTimeout => Sys2Proof.Machine.execReplyTimeout s
  | .millisecondTick inputs => Sys2Proof.Machine.execMillisecondTick inputs s
  | .characterReceived data mark => Sys2Proof.Machine.execCharacterReceived data mark s
  | .receiverFramingError mark => Sys2Proof.Machine.execReceiverFramingError s mark
  | .receiverLineHigh => Sys2Proof.Machine.execReceiverLineHigh s
  | .resetAsserted => Sys2Proof.Machine.execResetAsserted s

end Sys2Proof.Machine
end

