-- ==== Sys2Proof/Machine/Step.lean ====
section
/-! DEFINITION. One step of the block: the command at the front of the queue, or one crystal cycle on an empty queue. -/

namespace Sys2Proof.Machine

/-- One step: the command at the front of the queue runs on the state with the queue's rest. On an empty queue no command
comes for one crystal cycle: the dividers of the time base count (R50, R52), unless a power-on reset holds them. DESIGN
CHOICE (log entry 3). -/
def step (s : State) : Host.Outcome State Fault Refusal :=
  match s.pending with
  | [] => .next (s.live State.crystalCycle)
  | c :: rest => exec c { s with pending := rest }

/-- s with the command that a word of the table spells put at the front of its queue; s itself where the word spells
none, as no word does (`decodeTableWord`). -/
def State.withFetchWord (s : State) (nbits w : Nat) : State :=
  match decodeTableWord nbits w with
  | some c => { s with pending := c :: s.pending }
  | none => s

end Sys2Proof.Machine
end

