-- ==== Sys2Proof/WellFormed.lean ====
section
/-! DEFINITION. Which commands are rows of the table as it describes them: the checks on operands that the
types do not make. -/

namespace Sys2Proof

/-- The parts that an order of a second tick names, in order. -/
def tickParts : List TickItem → List TickPart
  | [] => []
  | .part p :: rest => p :: tickParts rest
  | .event _ :: rest => tickParts rest

/-- Whether a list has no repeats. -/
def noRepeats : List TickPart → Bool
  | [] => true
  | p :: rest => !(rest.contains p) && noRepeats rest

/-- A command as its row of the table describes it. SET_UNIT carries at least the two bytes that R174 asks
for and fits the command buffer; SET_SITE carries 32 bytes (R173); PANEL_WRITE names no valid command;
an order of a second tick takes no part twice, since each part takes the tick once (R51). -/
def Instr.wellFormed : Instr → Bool
  | .setUnit params => decide (2 ≤ params.length) && decide (params.length < Config.bufferCapacity)
  | .setSite params => decide (params.length = 32)
  | .panelWrite _ bytes broken =>
    broken || (match decodeWrite bytes with | .ok _ => false | .error _ => true)
  | .secondTick order => noRepeats (tickParts order)
  | .getUnit _ | .readUnitStatus _ | .lockUnit _ | .unlockUnit _ | .retireUnit _ | .releaseUnit _ | .getSite
  | .setLimit _ _ | .curtail _ | .readDemand | .resetPeak | .readPermit _ | .readQueue | .readNotices | .save
  | .saveEnd | .restart | .powerOnReset _ | .settleExpiry _ | .minRunExpiry _ | .drainingMinRunExpiry _
  | .rotationExpiry _ | .complianceExpiry _ | .minOffExpiry _ | .startGateOpening | .shedGateOpening
  | .restartHoldEnd | .meterLoss | .freeClose | .selfClose | .eoiMark | .pulseEdge _ | .callChange _
  | .cycleOnLimitStop _ | .linkGapEnd | .pollSent | .reportReceived | .replyEndedEarly | .replyTimeout
  | .millisecondTick _ | .characterReceived _ _ | .receiverFramingError _ | .receiverLineHigh
  | .resetAsserted => true

end Sys2Proof
end

