-- ==== Sys2Proof/Safety.lean ====
section
/-! DEFINITION. What claims about the block are stated with: when an event of the part has been raised, and the
conditions that the rules of the manual keep at every moment (R21 to R24, R33, R36, R61, R79, R85, R110, R111, R128). -/

namespace Sys2Proof.Machine

/-! ### Events of the part -/

/-- Whether an event of the part has been raised and not yet been taken. Commands of the panel port, the two ticks, the two
halves of a reset and what comes in on the roof link are given from outside: they are always to be taken. -/
def State.raisedEvent (s : State) : Instr → Bool
  | .saveEnd => s.store.saving.isSome
  | .settleExpiry i => (s.expired .starting i).isSome
  | .minRunExpiry i => (s.expired .running i).isSome
  | .drainingMinRunExpiry i => (s.expired .draining i).isSome
  | .rotationExpiry i => s.slots[i].pDue && s.slots[i].permit.any fun p => decide (p.state = .running)
  | .complianceExpiry i => (s.expired .stopping i).isSome
  | .minOffExpiry i => (s.expired .resting i).isSome
  | .startGateOpening => s.openingDue
  | .shedGateOpening => decide (s.shedGate = .counting 0)
  | .restartHoldEnd => decide (s.hold = .running 0)
  | .meterLoss => s.meter.lossDue && decide (s.meter.state = .ok)
  | .freeClose => decide (s.meter.closeDue = some .free) && (decide (s.site.syncMode = .free) || s.meter.syncLost)
  | .selfClose =>
    decide (s.meter.closeDue = some .selfClose) && decide (s.site.syncMode = .meter) && !s.meter.syncLost
  | .eoiMark => s.meter.eoiDue
  | .pulseEdge _ => s.meter.pulseDue
  | .callChange c => s.channels[c].callDue
  | .cycleOnLimitStop c => s.channels[c].testDue
  | .linkGapEnd => decide (s.link.line = .gap) || decide (s.link.line = .idle)
  | .pollSent => decide (s.link.line = .sending)
  | .reportReceived => s.polled.isSome && decide (s.link.reply.length = 8) && !s.link.replyBroken
  | .replyEndedEarly => s.polled.isSome && s.link.replyBroken
  | .replyTimeout => s.polled.isSome && s.timedOut
  | .receiverLineHigh => decide (s.link.line ≠ .sending) && decide (s.link.receiver = .waitingHigh)
  | .setUnit _ | .getUnit _ | .readUnitStatus _ | .lockUnit _ | .unlockUnit _ | .retireUnit _ | .releaseUnit _
  | .setSite _ | .getSite | .setLimit _ _ | .curtail _ | .readDemand | .resetPeak | .readPermit _ | .readQueue
  | .readNotices | .save | .restart | .panelWrite _ _ _ | .powerOnReset _ | .secondTick _ | .millisecondTick _
  | .characterReceived _ _ | .receiverFramingError _ | .resetAsserted => true

/-! ### Words for statements about commands -/

/-- The state after a command that changed nothing else: the bytes of its write stand in the command buffer and its
response is latched (R171). -/
def State.answered (s : State) (bytes : List Byte) (r : Response) : State :=
  { s with panel := { s.panel with buffer := bytes, response := r } }

/-- A byte of the panel port names a unit. -/
def names (b : Byte) (u : UnitNo) : Prop := b.toNat = u.val

/-- The line awaits the reply of a polled unit, and these characters of it have come (R152). -/
def State.awaitsWith (s : State) (u : UnitNo) (reply : List Byte) : Prop :=
  s.resetHeld = false ∧ s.link.line = .awaiting ∧ s.link.transaction.map Transaction.unit = some u
    ∧ s.link.reply = reply ∧ s.link.replyBroken = false

/-- The report frame of a unit: address 0, length 5, kind 0xB2, the unit's roof address, desired level, running level,
condition, check (R149). -/
def reportFrame (u : UnitNo) (desired running condition : Byte) : List Byte :=
  withCheck [0#8, 5#8, 0xB2#8, BitVec.ofNat 8 (roofAddress u), desired, running, condition]

/-- The order of a second tick that takes each part once and no raised event between them. -/
def plainOrder (order : List TickItem) : Prop := (∀ e : TickEvent, TickItem.event e ∉ order) ∧ noRepeats (tickParts order)

/-- The row of the table that an event of a second tick is. -/
def TickEvent.command : TickEvent → Instr
  | .settleExpiry i => .settleExpiry i
  | .minRunExpiry i => .minRunExpiry i
  | .drainingMinRunExpiry i => .drainingMinRunExpiry i
  | .rotationExpiry i => .rotationExpiry i
  | .complianceExpiry i => .complianceExpiry i
  | .minOffExpiry i => .minOffExpiry i
  | .startGateOpening => .startGateOpening
  | .shedGateOpening => .shedGateOpening
  | .restartHoldEnd => .restartHoldEnd
  | .meterLoss => .meterLoss
  | .freeClose => .freeClose
  | .selfClose => .selfClose
  | .cycleOnLimitStop c => .cycleOnLimitStop c

/-- A permit goes before another in victim order: the higher class, then min-run met, then rotation due, then the larger
counter, then the lower slot (R129). -/
def State.goesBefore (s : State) (i j : SlotNo) (p q : Permit) : Prop :=
  s.cls q.unit < s.cls p.unit
    ∨ s.cls p.unit = s.cls q.unit
      ∧ (p.minRunMet = true ∧ q.minRunMet = false
        ∨ p.minRunMet = q.minRunMet
          ∧ (p.rotationDue = true ∧ q.rotationDue = false
            ∨ p.rotationDue = q.rotationDue
              ∧ (s.slots[j].counter < s.slots[i].counter ∨ s.slots[i].counter = s.slots[j].counter ∧ i < j)))

/-- The rolling demand that a close publishes: the ring with E_cur as its newest entry, over the whole window (R78). -/
def State.demandAtClose (s : State) : Nat :=
  min 65535 (((s.meter.energy :: s.meter.ring).take s.site.subCount).sum * 36 / (s.site.subCount * s.site.subLength))

/-- The state that the operation of a close leaves: E_cur pushed as the newest entry of at most S, E_cur and elapsed 0, the
rolling demand published, the peak raised where the ring is full, LIMIT EXCEEDED where the demand is above D_lim (R78). -/
def State.closed (s : State) : State :=
  let ring := (s.meter.energy :: s.meter.ring).take s.site.subCount
  let m : Meter := { s.meter with
    ring := ring
    energy := 0
    elapsed := 0
    rolling := s.demandAtClose
    peak := if ring.length = s.site.subCount then max s.meter.peak s.demandAtClose else s.meter.peak
    closeDue := none }
  if s.site.limit < s.demandAtClose then State.raise .limitExceeded { s with meter := m } else { s with meter := m }

/-! ### Conditions that every moment keeps

Each is stated so that it can be kept by a step from any state that has it, whether or not a run reaches that state. -/

/-- The free list holds every FREE slot and no other, none twice (R21). -/
abbrev State.freeListSound (s : State) : Prop :=
  s.freeList.Nodup ∧ ∀ i : SlotNo, i ∈ s.freeList ↔ s.slots[i].permit = none

/-- No two permits have the same unit and stage (R23). -/
abbrev State.stagesDistinct (s : State) : Prop :=
  ∀ i j : SlotNo, ∀ p ∈ s.slots[i].permit, ∀ q ∈ s.slots[j].permit, p.unit = q.unit → p.stage = q.stage → i = j

/-- A unit's commanded-on permits are exactly those of the stages below its commanded level (R24). -/
abbrev State.levelsSound (s : State) : Prop :=
  ∀ i : SlotNo, ∀ p ∈ s.slots[i].permit, p.state.commandedOn = decide (p.stage < s.level p.unit)

/-- Every permit is of a stage that its unit's record has, with the record's rating of that stage (R4, R23). -/
abbrev State.ratingsSound (s : State) : Prop :=
  ∀ i : SlotNo, ∀ p ∈ s.slots[i].permit, s.rating p.unit p.stage = some p.rating

/-- The commanded level is at most the stage count (R24). -/
abbrev State.levelsBounded (s : State) : Prop := ∀ u : UnitNo, s.level u ≤ s.stageCount u

/-- A unit has a working record exactly when it is not UNCONFIGURED (the unit record table), and every working record,
the site record too, passes the tests of SET UNIT and SET SITE (R2, R85). -/
abbrev State.recordsSound (s : State) : Prop :=
  s.site.valid = true
    ∧ ∀ u : UnitNo, ((s.status u).state = .unconfigured ↔ s.record u = none) ∧ ∀ r ∈ s.record u, r.valid u = true

/-- The Wait Queue holds at most 16 entries and at most one for each unit, and stands by class ascending (R110, R111). -/
abbrev State.queueOrdered (s : State) : Prop :=
  s.queue.length ≤ Config.queueCapacity ∧ (s.queue.map QueueEntry.unit).Nodup
    ∧ (s.queue.map QueueEntry.cls).Pairwise (· ≤ ·)

/-- Each entry's unit is ACTIVE, HEARD and NORMAL, its class copy is the unit's class, and its wanted level lies above the
commanded level and not above the stage count (R109, R110). -/
abbrev State.entriesSound (s : State) : Prop :=
  ∀ e ∈ s.queue, s.eligible e.unit = true ∧ e.cls = s.cls e.unit ∧ s.level e.unit < e.wanted
    ∧ e.wanted ≤ s.stageCount e.unit

/-- The conditions of the Unit Table, the Permit Table and the Wait Queue together. -/
abbrev State.tablesSound (s : State) : Prop :=
  s.freeListSound ∧ s.stagesDistinct ∧ s.levelsSound ∧ s.ratingsSound ∧ s.levelsBounded ∧ s.recordsSound
    ∧ s.queueOrdered ∧ s.entriesSound
    ∧ ∀ u : UnitNo, (s.status u).desired ≤ s.stageCount u ∧ (s.status u).running ≤ s.stageCount u

/-- Every permit in STOPPING or RESTING has min-run met, unless its stop reason is FORCED or TRIPPED (R36). -/
abbrev State.minimumRunsKept (s : State) : Prop :=
  ∀ i : SlotNo, ∀ p ∈ s.slots[i].permit, p.state = .stopping ∨ p.state = .resting →
    p.minRunMet = true ∨ p.reason = some .forced ∨ p.reason = some .tripped

/-- A stop reason stands in DRAINING, STOPPING and RESTING and in no other state, and rotation due stands in RUNNING
alone (the permit record table, R28). -/
abbrev State.permitFieldsSound (s : State) : Prop :=
  ∀ i : SlotNo, ∀ p ∈ s.slots[i].permit,
    (p.reason.isSome = true ↔ p.state = .draining ∨ p.state = .stopping ∨ p.state = .resting)
      ∧ (p.rotationDue = true → p.state = .running)

/-- No permit of class 0 carries the stop reason SHED, CURTAILED or ROTATED (R128). -/
abbrev State.classZeroSpared (s : State) : Prop :=
  ∀ i : SlotNo, ∀ p ∈ s.slots[i].permit,
    p.reason = some .shed ∨ p.reason = some .curtailed ∨ p.reason = some .rotated → s.cls p.unit ≠ 0

/-- A noncompliant unit has a permit in STOPPING: the flag clears at the moment it is left with none (R33). -/
abbrev State.complianceSound (s : State) : Prop :=
  ∀ u : UnitNo, (s.status u).noncompliant = true → s.hasStopping u = true

/-- The start gate is HELD exactly as long as the restart hold runs (R61, R98). -/
abbrev State.holdAgrees (s : State) : Prop := s.startGate = .held ↔ s.holdRunning = true

/-- The ring holds at most S entries, and the published rolling demand is that of the ring (R79). -/
abbrev State.ringSound (s : State) : Prop :=
  s.meter.ring.length ≤ s.site.subCount ∧ s.meter.rolling = s.site.rollingOf s.meter.ring

/-- The urgent list holds configured linked units, each at most once (R156). -/
abbrev State.urgentSound (s : State) : Prop :=
  s.link.urgent.Nodup ∧ ∀ u ∈ s.link.urgent, isWired u = false ∧ s.configured u = true

/-- A FREE slot's counter holds 0, its compare A is disarmed at 0 and its compare P disarmed; no counter passes 65535
(R53, R56, R64). -/
abbrev State.slotsSound (s : State) : Prop :=
  ∀ i : SlotNo, s.slots[i].counter ≤ Config.counterMax
    ∧ (s.slots[i].permit = none → s.slots[i].counter = 0 ∧ s.slots[i].aArmed = false ∧ s.slots[i].aValue = 0
        ∧ s.slots[i].pArmed = false)

end Sys2Proof.Machine
end

