-- ==== Sys2Proof/Certificates/Slice0/Obligations.lean ====
section
/-! DEFINITION. The statements about the block, for the provers. Each says in its docstring which rule of the manual, or which
entry of the assumption log, it rests on. -/

open Sys2Proof Sys2Proof.Machine

/-! ### The machine as a whole -/

/-- A step runs the command at the front of the queue, on the state with the queue's rest. -/
def Obligations.StepRunsTheFrontCommand : Prop :=
  ∀ (c : Instr) (s : State) (rest : List Instr), s.pending = c :: rest → step s = exec c { s with pending := rest }

/-- Every command answers a next state from every state, and leaves the commands that wait as they are: the block never stops
(log entry 2). -/
def Obligations.EveryCommandAnswersANextState : Prop :=
  ∀ (c : Instr) (s : State), ∃ t, exec c s = .next t ∧ t.pending = s.pending

/-- The millisecond tick is due after 6144 crystal cycles and not before (R50); the second tick at the thousandth millisecond
tick and not before, and the call inputs are sampled at every twentieth (R51, R161). The link's bit clock ends a bit time of
the line every 16 times 40, 20 or 10 crystal cycles for 9600, 19200 and 38400 baud, at the transaction's speed, the gap's, or
the site record's, and the receiver's sample period is that divisor at the transaction's speed or the site record's (R52; log
entry 25 for the samples in a gap). That a step on an empty queue is one crystal cycle is the model's choice (log entry 3).
-/
def Obligations.DividersRaiseTheirTicks : Prop :=
  let divisor := fun speed : LinkSpeed => match speed with | .b9600 => 40 | .b19200 => 20 | .b38400 => 10
  (∀ (s : State) (n : Nat), s.pending = [] → s.resetHeld = false → s.timeBase.millisecondDivider = 0 →
    s.timeBase.millisecondDue = false → n ≤ 6144 →
    ∃ t, Host.Core.run core n s = .next t ∧ t.timeBase.millisecondDivider = n % 6144
      ∧ (t.timeBase.millisecondDue = true ↔ n = 6144)
      ∧ { t with timeBase := s.timeBase, link := s.link } = s)
    ∧ (∀ (s : State) (inputs : InputLevels) (n : Nat), s.pending = List.replicate n (.millisecondTick inputs) →
      s.resetHeld = false → s.timeBase.secondDivider = 0 → s.timeBase.secondDue = false → n ≤ 1000 →
      ∃ t, Host.Core.run core n s = .next t ∧ t.pending = [] ∧ t.timeBase.secondDivider = n % 1000
        ∧ (t.timeBase.secondDue = true ↔ n = 1000) ∧ (t.timeBase.callPhase = (s.timeBase.callPhase + n) % 20 ∨ n = 0))
    ∧ (∀ (s : State) (n : Nat), s.pending = [] → s.resetHeld = false →
      let speed := if s.link.line = .gap then s.link.gapSpeed
        else s.link.transaction.elim s.site.linkSpeed Transaction.speed
      let cycles := 16 * divisor speed
      s.link.bitDivider < cycles →
      ∃ t, Host.Core.run core n s = .next t ∧ t.link = { s.link with
        bitDivider := (s.link.bitDivider + n) % cycles
        lineBits := s.link.lineBits + (s.link.bitDivider + n) / cycles })
    ∧ ∀ s : State, s.samplePeriod = divisor (s.link.transaction.elim s.site.linkSpeed Transaction.speed)

/-- While a power-on reset is asserted, nothing but the two halves of a reset does anything (log entry 7). -/
def Obligations.HeldResetStopsEveryOtherCommand : Prop :=
  ∀ (c : Instr) (s : State), s.resetHeld = true → (∀ straps, c ≠ .powerOnReset straps) → c ≠ .resetAsserted →
    exec c s = .next s

/-- An event of the part that has not been raised changes nothing (log entry 4). -/
def Obligations.EventsNotRaisedChangeNothing : Prop :=
  ∀ (c : Instr) (s : State), s.raisedEvent c = false → exec c s = .next s

/-- While a SAVE runs, the port acknowledges nothing: a write transaction carries no command and changes nothing, and a read
gets nothing. At any other time, but for a held reset, a read of n bytes at 0x4C plus the straps gives the status byte, the
length, the data and then 0x00; after a reset that is status NONE with length 0 (R170, R172). That a read during a held reset
gets nothing is the model's choice (log entry 7), and so is that State.reset answers at 0x4C, its straps 0 (log entry 1). -/
def Obligations.SaveShutsThePanelPort : Prop :=
  (∀ (c : Instr) (s : State), s.store.saving.isSome = true →
    (encodeWrite c).isSome = true ∨ (∃ address bytes broken, c = .panelWrite address bytes broken) → exec c s = .next s)
    ∧ (∀ (s : State) (address : BitVec 7) (n : Nat),
      let r := s.panel.response
      let status : Byte := match r.status with
        | .ok => 0x00#8 | .badCommand => 0x01#8 | .badValue => 0x02#8 | .inUse => 0x03#8 | .busy => 0x04#8
        | .noResponse => 0x05#8
      (address = 0x4C#7 + s.panel.straps.setWidth 7 → s.store.saving = none → s.resetHeld = false →
        s.readTransaction address n
          = some ((List.range n).map fun k => (status :: BitVec.ofNat 8 r.data.length :: r.data).getD k 0x00#8))
      ∧ (address ≠ 0x4C#7 + s.panel.straps.setWidth 7 ∨ s.store.saving.isSome = true ∨ s.resetHeld = true →
        s.readTransaction address n = none))
    ∧ ∀ n : Nat, State.reset.readTransaction 0x4C#7 n
      = some ((List.range n).map fun k => if k = 0 then 0x05#8 else 0x00#8)

/-- The working site record is changed by SET SITE, SET LIMIT and the power-on load alone; the Settings Store by SAVE, its
end and a power-on reset alone (R178, R181). -/
def Obligations.SettingsChangeOnlyByTheirCommands : Prop :=
  ∀ (c : Instr) (s t : State), c.wellFormed = true → exec c s = .next t →
    (t.site = s.site ∨ (∃ params, c = .setSite params) ∨ (∃ limit margin, c = .setLimit limit margin)
        ∨ ∃ straps, c = .powerOnReset straps)
      ∧ ((t.store.site = s.store.site ∧ t.store.places = s.store.places ∧ t.store.valid = s.store.valid
            ∧ t.store.saving = s.store.saving)
        ∨ c = .save ∨ c = .saveEnd ∨ c = .resetAsserted ∨ ∃ straps, c = .powerOnReset straps)

/-- A command to one unit, and the end of a transaction with it, leave the two records of every other unit as they were. -/
def Obligations.UnitCommandsKeepOtherUnits : Prop :=
  ∀ (c : Instr) (s t : State) (u v : UnitNo), v ≠ u →
    (∃ b, names b u ∧ (c = .lockUnit b ∨ c = .unlockUnit b ∨ c = .retireUnit b ∨ c = .releaseUnit b))
      ∨ (∃ r : UnitRecord, r.valid u = true ∧ c = .setUnit (r.encode u))
      ∨ s.polled = some u ∧ (c = .reportReceived ∨ c = .replyEndedEarly ∨ c = .replyTimeout) →
    exec c s = .next t → t.units[v] = s.units[v]

/-! ### Resets, SAVE and the load -/

/-- The part right after a power-on reset with an invalid store: every table empty, every block at its reset value (R20, R49,
R64, R89, R123, R145, R159, R169, R177, R179, R180). -/
def Obligations.ResetLeavesTheStatedValues : Prop :=
  (∀ u : UnitNo, State.reset.record u = none ∧ (State.reset.status u).state = .unconfigured ∧ State.reset.level u = 0)
    ∧ (∀ i : SlotNo, State.reset.slots[i] = Slot.free) ∧ State.reset.freeList = List.finRange 96
    ∧ State.reset.unsettled = 0 ∧ State.reset.committed = 0
    ∧ State.reset.startGate = .held ∧ State.reset.shedGate = .opened ∧ State.reset.hold = .running 120
    ∧ State.reset.meter.state = .starting ∧ State.reset.meter.elapsedMs = none ∧ State.reset.meter.interval = none
    ∧ State.reset.meter.rate = 0 ∧ State.reset.meter.energy = 0 ∧ State.reset.meter.elapsed = 0
    ∧ State.reset.meter.syncLost = false ∧ State.reset.meter.ring = [] ∧ State.reset.meter.rolling = 0
    ∧ State.reset.meter.peak = 0 ∧ State.reset.meter.pulseFilter.level = none ∧ State.reset.meter.eoiFilter.level = none
    ∧ State.reset.queue = [] ∧ State.reset.shed = { demand := .normal, threshold := none, exhausted := false }
    ∧ State.reset.link.line = .gap ∧ State.reset.link.transaction = none ∧ State.reset.link.receiver = .waitingStart
    ∧ State.reset.link.urgent = [] ∧ State.reset.link.ringPosition = 0 ∧ State.reset.link.silentRound = none
    ∧ (∀ c : ChannelNo, State.reset.channels[c].filter.level = none ∧ State.reset.channels[c].calling = false
        ∧ State.reset.channels[c].grantRecorded = false ∧ State.reset.channels[c].cycleCounter = 0
        ∧ State.reset.driveOutput c = .undriven)
    ∧ State.reset.panel.buffer = [] ∧ State.reset.panel.response = { status := .noResponse, data := [] }
    ∧ State.reset.panel.notices = 3#16 ∧ State.reset.attention = true
    ∧ State.reset.timeBase.millisecondDivider = 0 ∧ State.reset.timeBase.secondDivider = 0
    ∧ State.reset.link.bitDivider = 0

/-- A power-on reset that finds the valid marker cleared, or a SAVE cut off, leaves the reset state with the straps sampled,
the store still invalid and SETTINGS INVALID raised with RESTARTED. One that finds the marker valid, and a stored record that
fails its test or stands in another unit's place, takes the store as invalid and leaves the same, with what is stored not
rewritten, so that the next power-on finds it so again (R177, R178, R179). What this says beyond those rules is the model's
choice: the bytes of a store whose SAVE was cut off (log entry 8), that no high sample of the line has been seen (log entry
17), and a release without an onset before it (log entry 7). -/
def Obligations.PowerOnWithInvalidStoreGivesTheDefaults : Prop :=
  ∀ (s : State) (straps : BitVec 2),
    let defaults := fun store : SettingsStore => ({ State.reset with
      panel := { State.reset.panel with straps := straps }
      store := store
      pending := s.pending } : State)
    (s.store.valid = false ∨ s.store.saving.isSome = true →
      exec (.powerOnReset straps) s
        = .next (defaults { s.store with valid := false, saving := none, savingMs := 0 }))
    ∧ (s.store.valid = true → s.store.saving = none →
      (parseSiteRecord s.store.site = none
        ∨ ∃ (u : UnitNo) (bytes : List Byte), s.store.places[u] = some bytes
          ∧ ∀ r : UnitRecord, parseUnitRecord bytes ≠ some (u, r)) →
      exec (.powerOnReset straps) s = .next (defaults { s.store with savingMs := 0 }))

/-- A completed SAVE survives a power cut: the next power-on brings back the site record and every unit record that was
working when SAVE executed, each such unit ACTIVE and fresh, a RETIRING one too (R20, R178, R179). -/
def Obligations.SavedSettingsSurviveAPowerCut : Prop :=
  ∀ (s : State) (straps : BitVec 2), s.portShut = false → s.recordsSound →
    ∃ s1 s2 s3 t, exec .save s = .next s1 ∧ exec .saveEnd s1 = .next s2 ∧ exec .resetAsserted s2 = .next s3
      ∧ exec (.powerOnReset straps) s3 = .next t
      ∧ t.site = s.site ∧ (∀ u : UnitNo, t.record u = s.record u)
      ∧ (∀ u : UnitNo, t.status u = if s.record u = none then UnitStatus.none else UnitStatus.fresh)
      ∧ t.panel.notices = 1#16 ∧ t.panel.straps = straps ∧ t.store.valid = true ∧ t.resetHeld = false

/-- SAVE clears the valid marker and takes the copy at its execution; its end writes the copy and then the marker; the onset
of a power-on reset cuts it off with the marker cleared, and releases the attention line. Nothing else changes (R177, R178).
That the copy reaches the store in one operation at the end, and that a SAVE cut off leaves the bytes as they were, is the
model's choice (log entry 8). -/
def Obligations.SaveWritesItsCopyUnlessCutOff : Prop :=
  ∀ s : State,
    (s.portShut = false → exec .save s = .next (State.answered
      { s with store := { s.store with
        valid := false
        saving := some { site := s.site.encode, places := Vector.ofFn fun u => (s.record u).map (UnitRecord.encode u) }
        savingMs := 0 } } [0x40#8] (.bare .ok)))
    ∧ (∀ c : SaveCopy, s.store.saving = some c → s.resetHeld = false →
      exec .saveEnd s = .next { s with
        store := { site := c.site, places := c.places, valid := true, saving := none, savingMs := 0 } })
    ∧ ∃ t, exec .resetAsserted s = .next t
      ∧ t = { s with
          resetHeld := true
          store := { s.store with valid := s.store.valid && s.store.saving.isNone, saving := none, savingMs := 0 } }
      ∧ t.attention = false

/-- RESTART re-initialises all live state and keeps the working records, but for a RETIRING unit's; the store and the straps
are not read, and no response is latched. The link holds no transaction and no reply, and its ring position is the lowest
configured linked unit, or 0 (R20, R49, R159, R180, R181). -/
def Obligations.RestartKeepsTheWorkingRecords : Prop :=
  ∀ s : State, s.portShut = false → ∃ t, exec .restart s = .next t
    ∧ t.site = s.site ∧ t.store = s.store ∧ t.pending = s.pending
    ∧ (∀ u : UnitNo, t.units[u] = if (s.status u).state = .retiring then UnitEntry.blank else
        match s.record u with
        | some r => { record := some r, status := UnitStatus.fresh }
        | none => UnitEntry.blank)
    ∧ (∀ i : SlotNo, t.slots[i] = Slot.free) ∧ t.freeList = List.finRange 96 ∧ t.queue = []
    ∧ t.shedGate = .opened ∧ t.shed = { demand := .normal, threshold := none, exhausted := false }
    ∧ (if s.site.restartHold = 0 then t.hold = .ended ∧ t.startGate = .opened
        else t.hold = .running s.site.restartHold ∧ t.startGate = .held)
    ∧ t.meter = Meter.fresh ∧ t.timeBase = TimeBase.fresh ∧ (∀ c : ChannelNo, t.channels[c] = Channel.fresh)
    ∧ { t.link with ringPosition := 0, lineWasHigh := false } = {
        line := .gap, transaction := none, gapSpeed := s.site.linkSpeed, bitDivider := 0, lineBits := 0
        receiver := .waitingStart, lineWasHigh := false, reply := [], replyTimer := 0, urgent := [], ringPosition := 0
        silentRound := none, replyBroken := false }
    ∧ (∀ u : UnitNo, isWired u = false → t.configured u = true → t.link.ringPosition ≤ u.val)
    ∧ ((∃ u : UnitNo, isWired u = false ∧ t.configured u = true ∧ t.link.ringPosition = u.val)
      ∨ (∀ u : UnitNo, isWired u = false → t.configured u = false) ∧ t.link.ringPosition = 0)
    ∧ t.panel = { straps := s.panel.straps, buffer := [], response := { status := .noResponse, data := [] },
                  notices := 1#16 }

/-! ### Bytes of the panel port -/

/-- A well-formed panel command is named by its bytes, and the bytes that name a command are its own; each of the eighteen
commands has the code and the parameters of R173's table (R171, R173). -/
def Obligations.WriteBytesNameTheirCommand : Prop :=
  (∀ (i : Instr) (bytes : List Byte), i.wellFormed = true → encodeWrite i = some bytes → decodeWrite bytes = .ok i)
    ∧ (∀ (i : Instr) (bytes : List Byte), decodeWrite bytes = .ok i → encodeWrite i = some bytes ∧ i.wellFormed = true)
    ∧ (∀ params : List Byte,
      encodeWrite (.setUnit params) = some (0x10#8 :: params) ∧ encodeWrite (.setSite params) = some (0x20#8 :: params))
    ∧ (∀ b : Byte,
      [Instr.getUnit b, .readUnitStatus b, .lockUnit b, .unlockUnit b, .retireUnit b, .releaseUnit b, .curtail b,
        .readPermit b].map encodeWrite
        = [0x11#8, 0x12#8, 0x13#8, 0x14#8, 0x15#8, 0x16#8, 0x23#8, 0x32#8].map fun code => some [code, b])
    ∧ ([Instr.getSite, .readDemand, .resetPeak, .readQueue, .readNotices, .save, .restart].map encodeWrite
      = [0x21#8, 0x30#8, 0x31#8, 0x33#8, 0x34#8, 0x40#8, 0x41#8].map fun code => some [code])
    ∧ ∀ limit margin : BitVec 16, encodeWrite (.setLimit limit margin)
      = some (0x22#8 :: [limit.toNat / 256, limit.toNat, margin.toNat / 256, margin.toNat].map (BitVec.ofNat 8))

/-- The unit record of R174: the bytes of the layout, one by one, and the values that a valid record may hold (R2); what a
valid record's layout carries is read back whole, and bytes that are read as a record are that record's layout, its named
values numbered from 0 in the order of their table (R173). -/
def Obligations.UnitRecordLayoutIsReadBack : Prop :=
  (∀ (u : UnitNo) (r : UnitRecord), r.valid u = true → parseUnitRecord (r.encode u) = some (u, r))
    ∧ (∀ (bytes : List Byte) (u : UnitNo) (r : UnitRecord), parseUnitRecord bytes = some (u, r) →
      r.encode u = bytes ∧ r.valid u = true)
    ∧ (∀ (u : UnitNo) (r : UnitRecord), r.encode u
      = ([u.val, r.ratings.length] ++ r.ratings.flatMap (fun rating => [rating / 256, rating])
        ++ [r.cls, r.minRun / 256, r.minRun, r.minOff / 256, r.minOff, r.rotation]
        ++ match r.wired with
          | none => []
          | some w => [w.cyclePeriod, w.onLimit, if w.cyclingMode = .always then 0 else 1,
              if w.drivePolarity = .activeHigh then 0 else 1, if w.callPolarity = .activeHigh then 0 else 1]).map
        (BitVec.ofNat 8))
    ∧ ∀ (u : UnitNo) (r : UnitRecord), r.valid u = true ↔
      1 ≤ r.ratings.length ∧ r.ratings.length ≤ 4 ∧ (∀ rating ∈ r.ratings, 1 ≤ rating ∧ rating ≤ 1023)
        ∧ r.cls ≤ 7 ∧ r.minRun ≤ 1023 ∧ r.minOff ≤ 1023 ∧ r.rotation ≤ 63
        ∧ (u.val < 32 → r.wired = none)
        ∧ (32 ≤ u.val → r.ratings.length = 1 ∧ ∃ w, r.wired = some w ∧ w.cyclePeriod ≤ 255 ∧ w.onLimit ≤ 255)

/-- The site record of R173: its 32 bytes in the order of the site default table, one by one, and the values that a valid
record may hold (the site default table, R85); what a valid record's bytes carry is read back whole, bytes that are read as a
record are that record's layout, and the site defaults are these 32 bytes and pass every test. Named values are numbered from
0 in the order of their table (R173). -/
def Obligations.SiteRecordLayoutIsReadBack : Prop :=
  (∀ r : SiteRecord, r.valid = true → parseSiteRecord r.encode = some r)
    ∧ (∀ (bytes : List Byte) (r : SiteRecord), parseSiteRecord bytes = some r → r.encode = bytes ∧ r.valid = true)
    ∧ (∀ r : SiteRecord, r.encode = [r.pulseWeight / 256, r.pulseWeight,
        (match r.countingEdge with | .rising => 0 | .falling => 1 | .both => 2), r.minSpacing / 256, r.minSpacing,
        r.lossTime / 256, r.lossTime, r.subLength / 256, r.subLength, r.subCount,
        (match r.syncMode with | .free => 0 | .meter => 1), r.grace, r.limit / 256, r.limit, r.margin / 256, r.margin,
        r.budget / 256, r.budget, r.startSpacing, r.shedSpacing, r.settleTime / 256, r.settleTime,
        r.complianceTimeout / 256, r.complianceTimeout, r.skipLimit, r.silenceCount, r.replyTimeout,
        (match r.linkSpeed with | .b9600 => 0 | .b19200 => 1 | .b38400 => 2), r.restartHold / 256, r.restartHold,
        r.noticeMask.toNat / 256, r.noticeMask.toNat].map (BitVec.ofNat 8))
    ∧ (∀ r : SiteRecord, r.valid = true ↔
      (1 ≤ r.pulseWeight ∧ r.pulseWeight ≤ 10000) ∧ (10 ≤ r.minSpacing ∧ r.minSpacing ≤ 1000)
        ∧ (10 ≤ r.lossTime ∧ r.lossTime ≤ 600) ∧ (10 ≤ r.subLength ∧ r.subLength ≤ 900)
        ∧ (1 ≤ r.subCount ∧ r.subCount ≤ 15) ∧ r.subCount * r.subLength ≤ 3600
        ∧ (1 ≤ r.grace ∧ r.grace ≤ 60) ∧ 2 * r.grace < r.subLength
        ∧ (1 ≤ r.limit ∧ r.limit ≤ 65535) ∧ r.margin ≤ r.limit ∧ r.budget ≤ 65535
        ∧ (1 ≤ r.startSpacing ∧ r.startSpacing ≤ 255) ∧ (1 ≤ r.shedSpacing ∧ r.shedSpacing ≤ 255)
        ∧ r.settleTime ≤ 1023 ∧ (1 ≤ r.complianceTimeout ∧ r.complianceTimeout ≤ 1023)
        ∧ (1 ≤ r.skipLimit ∧ r.skipLimit ≤ 15) ∧ (1 ≤ r.silenceCount ∧ r.silenceCount ≤ 15)
        ∧ (20 ≤ r.replyTimeout ∧ r.replyTimeout ≤ 255) ∧ r.restartHold ≤ 600 ∧ r.noticeMask.getLsbD 15 = false)
    ∧ siteDefaults.valid = true
    ∧ siteDefaults.encode = [0, 100, 0, 0, 50, 0, 60, 0, 60, 15, 0, 5, 0xFF, 0xFF, 0, 0, 0xFF, 0xFF, 15, 5, 0, 30, 0, 60,
        4, 3, 50, 1, 0, 120, 0x7F, 0xFF].map (BitVec.ofNat 8)

/-- A write transaction: an address not acknowledged or no byte does nothing; a broken or overlong write, an unknown code and
a wrong parameter count are answered BAD COMMAND and change nothing else; bytes that name a command run it, as the command's
own row does (R170, R171; log entry 20). That a write broken within its first byte is refused, and not taken as empty, is the
model's reading (log entry 9). -/
def Obligations.WriteTransactionRunsOrRefuses : Prop :=
  ∀ (s : State) (address : BitVec 7) (bytes : List Byte),
    ((∀ broken, s.acknowledges address = false → exec (.panelWrite address bytes broken) s = .next s)
      ∧ exec (.panelWrite address [] false) s = .next s)
    ∧ (s.acknowledges address = true →
      exec (.panelWrite address bytes true) s = .next (s.answered (bytes.take 40) (.bare .badCommand))
      ∧ (∀ e, decodeWrite bytes = .error e → e ≠ .empty →
        exec (.panelWrite address bytes false) s = .next (s.answered (bytes.take 40) (.bare .badCommand)))
      ∧ ∀ i : Instr, decodeWrite bytes = .ok i → exec (.panelWrite address bytes false) s = exec i s)

/-- GET UNIT latches the working record, or the unit number alone; READ UNIT STATUS latches the live record in the order of
R6; both change nothing else, and a number above 35 is refused. Named values are numbered in the order of their table (R1,
R6, R173); the byte of the adoption window is the model's reading (log entry 10). -/
def Obligations.UnitReadsLatchTheRecords : Prop :=
  ([UnitState.unconfigured, .active, .locked, .retiring].map UnitState.code = [0, 1, 2, 3]
    ∧ [LinkCondition.heard, .silent].map LinkCondition.code = [0, 1]
    ∧ [Condition.normal, .tripped].map Condition.code = [0, 1] ∧ [Window.opened, .closed].map Window.code = [0, 1])
  ∧ ∀ (s : State) (b : Byte), s.portShut = false →
    (∀ u : UnitNo, names b u →
      exec (.getUnit b) s = .next (s.answered [0x11#8, b] (.okWith
        (match s.record u with | some r => r.encode u | none => [BitVec.ofNat 8 u.val])))
      ∧ exec (.readUnitStatus b) s = .next (s.answered [0x12#8, b] (.okWith ([u.val, (s.status u).state.code,
          if isWired u then 0 else (s.status u).link.code, if isWired u then 0 else (s.status u).misses,
          (s.status u).desired, if isWired u then s.level u else (s.status u).running, (s.status u).condition.code,
          (s.status u).window.code, (s.status u).noncompliant.toNat, s.level u, s.permitCount u,
          (s.queued u).toNat].map (BitVec.ofNat 8)))))
    ∧ (36 ≤ b.toNat → exec (.getUnit b) s = .next (s.answered [0x11#8, b] (.bare .badValue))
      ∧ exec (.readUnitStatus b) s = .next (s.answered [0x12#8, b] (.bare .badValue)))

/-- READ PERMIT latches the slot number, the free count and the slot's state, and for a slot that holds a permit the fields
in the order of R48; a slot above 95 is refused; nothing else changes. Named values are numbered in the order of their table
(R48, R173). -/
def Obligations.ReadPermitLatchesTheSlot : Prop :=
  ([PermitState.starting, .running, .draining, .stopping, .resting].map PermitState.code = [0, 1, 2, 3, 4]
    ∧ [Origin.granted, .adopted].map Origin.code = [0, 1]
    ∧ [StopReason.released, .shed, .curtailed, .rotated, .locked, .retired, .forced, .tripped, .cycled, .unpermitted].map
      StopReason.code = [0, 1, 2, 3, 4, 5, 6, 7, 8, 9])
  ∧ ∀ (s : State) (b : Byte), s.portShut = false →
    (∀ i : SlotNo, b.toNat = i.val → exec (.readPermit b) s = .next (s.answered [0x32#8, b] (.okWith
      (match s.slots[i].permit with
      | none => [i.val, s.freeList.length, 5].map (BitVec.ofNat 8)
      | some p =>
        [i.val, s.freeList.length, p.state.code, p.unit.val, p.stage, p.rating / 256, p.rating, p.origin.code,
          s.slots[i].counter / 256, s.slots[i].counter, s.slots[i].aValue / 256, s.slots[i].aValue, p.minRunMet.toNat,
          p.rotationDue.toNat, p.reason.elim 0xFF StopReason.code,
          (if p.state = .stopping ∨ p.state = .resting then s.slots[i].aValue - s.slots[i].counter else 0) / 256,
          if p.state = .stopping ∨ p.state = .resting then s.slots[i].aValue - s.slots[i].counter else 0].map
            (BitVec.ofNat 8)))))
    ∧ (96 ≤ b.toNat → exec (.readPermit b) s = .next (s.answered [0x32#8, b] (.bare .badValue)))

/-- READ DEMAND latches 31 bytes at the offsets of R175, the meter state and the regime numbered in the order of their
tables, and changes nothing else (R175). -/
def Obligations.ReadDemandLatchesTheSnapshot : Prop :=
  ([MeterState.starting, .ok, .lost].map MeterState.code = [0, 1, 2]
    ∧ [Regime.fallback, .warming, .full].map Regime.code = [0, 1, 2])
  ∧ ∀ s : State, s.portShut = false → exec .readDemand s = .next (s.answered [0x30#8] (.okWith
    (byte2 s.meter.rolling ++ byte2 (if s.regime = .fallback then 0 else s.projected 0) ++ byte2 s.meter.rate
      ++ byte3 s.unsettled ++ byte3 s.committed
      ++ [s.meter.state.code, s.regime.code, s.meter.ring.length].map (BitVec.ofNat 8)
      ++ byte2 s.meter.elapsed ++ byte2 s.meter.peak ++ byte4 s.meter.energy
      ++ [(if s.shed.demand = .overload then 1 else 0) + (if s.meter.syncLost then 2 else 0)
            + (if s.hold = .ended then 0 else 4), s.shed.threshold.getD 0].map (BitVec.ofNat 8)
      ++ (match s.startGate with
          | .opened => byte1 0 ++ byte2 0
          | .counting n => byte1 1 ++ byte2 n
          | .held => byte1 2 ++ byte2 0)
      ++ (match s.shedGate with
          | .opened => byte1 0 ++ byte2 0
          | .counting n => byte1 1 ++ byte2 n))))

/-- READ QUEUE latches the number of entries, the skip limit and the entries in queue order; READ NOTICES latches the notice
word and clears every flag; GET SITE latches the working site record; RESET PEAK sets the peak to 0. Each changes nothing
else. The attention line is asserted exactly while a flag is set that the mask enables and no reset is held; flags and
reasons are numbered in the order of their tables (R80, R122, R173, R176, R177). -/
def Obligations.QueueNoticesSiteAndPeakCommands : Prop :=
  ([WaitReason.hold, .curtail, .cycle, .resting, .table, .budget, .demand, .gate, .barrier].map WaitReason.code
      = [0, 1, 2, 3, 4, 5, 6, 7, 8]
    ∧ [Notice.restarted, .settingsInvalid, .unitSilent, .unitBack, .noncompliant, .tableFull, .queueFull,
      .meterLost, .meterNoise, .syncLost, .syncSlip, .overload, .limitExceeded, .unitRetired, .shedExhausted].map
      Notice.bit = List.range 15)
  ∧ (∀ s : State, s.attention = true ↔
    s.resetHeld = false ∧ ∃ k : Nat, s.panel.notices.getLsbD k = true ∧ s.site.noticeMask.getLsbD k = true)
  ∧ ∀ s : State, s.portShut = false →
    exec .readQueue s = .next (s.answered [0x33#8] (.okWith
        (BitVec.ofNat 8 s.queue.length :: BitVec.ofNat 8 s.site.skipLimit :: s.queue.flatMap fun e =>
          [e.unit.val, e.cls, e.wanted, s.level e.unit, e.skips, (decide (s.site.skipLimit ≤ e.skips)).toNat,
            e.reason.code, e.remaining / 256, e.remaining].map (BitVec.ofNat 8))))
      ∧ exec .readNotices s = .next (State.answered { s with panel := { s.panel with notices := 0#16 } } [0x34#8]
        (.okWith [BitVec.ofNat 8 (s.panel.notices.toNat / 256), BitVec.ofNat 8 s.panel.notices.toNat]))
      ∧ exec .getSite s = .next (s.answered [0x21#8] (.okWith s.site.encode))
      ∧ exec .resetPeak s = .next (State.answered { s with meter := { s.meter with peak := 0 } } [0x31#8] (.bare .ok))

/-! ### The unit commands -/

/-- SET UNIT of an UNCONFIGURED linked unit installs its record, makes it ACTIVE with the status of R3 and puts it on the
poll ring; an idle line with no other unit to poll begins to poll it at once (R3, R152; log entry 18). -/
def Obligations.SetUnitConfiguresALinkedUnit : Prop :=
  ∀ (s : State) (u : UnitNo) (r : UnitRecord), s.portShut = false → isWired u = false → s.record u = none →
    r.valid u = true →
    let t : State := State.answered
      { s with units := s.units.set u { record := some r, status := {
          state := .active, link := .heard, misses := 0, desired := 0, running := 0, condition := .normal,
          window := .opened, noncompliant := false } } } (0x10#8 :: r.encode u) (.bare .ok)
    u ∈ t.pollRing ∧ t.cls u = r.cls ∧ t.stageCount u = r.ratings.length
      ∧ (s.link.line ≠ .idle → exec (.setUnit (r.encode u)) s = .next t)
      ∧ (s.link.line = .idle → s.link.urgent = [] → s.link.silentRound = none →
        (∀ v : UnitNo, isWired v = false → s.configured v = false) →
        ∃ t1, exec (.setUnit (r.encode u)) s = .next t1 ∧ { t1 with link := s.link } = t ∧ t1.link.line = .sending
          ∧ t1.link.transaction.map Transaction.unit = some u)

/-- SET UNIT of an UNCONFIGURED wired unit installs its record and presents the filtered call: a channel that does not call
leaves the unit with desired level 0 and its output inactive, one that calls queues the unit for one stage or grants it (R3,
R11, R162, R163, R165). -/
def Obligations.SetUnitConfiguresAWiredUnit : Prop :=
  ∀ (s : State) (c : ChannelNo) (r : UnitRecord) (w : WiredFields), s.portShut = false →
    s.record (channelUnit c) = none → s.hasPermit (channelUnit c) = false → r.valid (channelUnit c) = true →
    r.wired = some w →
    (s.channels[c].filter.level ≠ some (decide (w.callPolarity = .activeHigh)) →
      ∃ t, exec (.setUnit (r.encode (channelUnit c))) s = .next t ∧ t.driveOutput c = .inactive
        ∧ t = State.answered
        { s with
          units := s.units.set (channelUnit c) { record := some r, status := {
            state := .active, link := .heard, misses := 0, desired := 0, running := 0, condition := .normal,
            window := .closed, noncompliant := false } }
          channels := s.channels.set c { s.channels[c] with
            calling := false, callDue := false, grantRecorded := false, cycleCounter := 0 }
          queue := s.queue.filter fun e => decide (e.unit ≠ channelUnit c) }
        (0x10#8 :: r.encode (channelUnit c)) (.bare .ok))
    ∧ (s.channels[c].filter.level = some (decide (w.callPolarity = .activeHigh)) → s.queue.length < 16 →
      ∃ t, exec (.setUnit (r.encode (channelUnit c))) s = .next t ∧ t.channels[c].calling = true
        ∧ (t.status (channelUnit c)).desired = 1 ∧ (t.status (channelUnit c)).state = .active
        ∧ t.driveOutput c = (if t.level (channelUnit c) = 1 then .active else .inactive)
        ∧ (t.level (channelUnit c) = 1 ∨ ∃ e ∈ t.queue, e.unit = channelUnit c ∧ e.wanted = 1))

/-- SET UNIT of an ACTIVE or LOCKED unit replaces its record and clamps its recorded levels; a new class moves the unit's
entry behind every entry of that class, and a move into class 0 turns SHED, CURTAILED and ROTATED into RELEASED. An entry
whose wanted level is above the new stage count keeps its place with the wanted level lowered to it, and an admission pass
runs. Nothing else changes (R4, R5, R118, R119, R128). -/
def Obligations.SetUnitChangesARecord : Prop :=
  ∀ (s : State) (u : UnitNo) (old r : UnitRecord), s.portShut = false → s.record u = some old →
    (s.status u).state = .active ∨ (s.status u).state = .locked → r.valid u = true →
    r.ratings = old.ratings ∨ s.hasPermit u = false →
    (s.queue.map QueueEntry.unit).Nodup → (s.queue.map QueueEntry.cls).Pairwise (· ≤ ·) →
    let bytes := 0x10#8 :: r.encode u
    let moved :=
      if r.cls = old.cls then s.queue
      else (s.queue.filter fun e => decide (e.unit ≠ u) && decide (e.cls ≤ r.cls))
        ++ (s.queue.filter fun e => decide (e.unit = u)).map (fun e => { e with cls := r.cls })
        ++ s.queue.filter fun e => decide (e.unit ≠ u) && decide (r.cls < e.cls)
    let changed := fun (t : State) (response : Response) =>
      { t with slots := s.slots, queue := s.queue } = State.answered
        { s with units := s.units.set u { record := some r, status := { s.status u with
            desired := min (s.status u).desired r.ratings.length
            running := min (s.status u).running r.ratings.length } } } bytes response
      ∧ ∀ i : SlotNo, t.slots[i] =
          if r.cls = 0 ∧ old.cls ≠ 0 ∧ s.slots[i].permit.any (fun p => decide (p.unit = u)
              && (decide (p.reason = some .shed) || decide (p.reason = some .curtailed)
                || decide (p.reason = some .rotated))) = true then
            { s.slots[i] with permit := s.slots[i].permit.map fun p => { p with reason := some .released } }
          else s.slots[i]
    ((∀ e ∈ s.queue, e.unit = u → e.wanted ≤ r.ratings.length) →
      ∃ t, exec (.setUnit (r.encode u)) s = .next t ∧ changed t (.bare .ok) ∧ t.queue = moved)
    ∧ ∀ e ∈ s.queue, e.unit = u → r.ratings.length < e.wanted →
      ∃ before, changed before s.panel.response
        ∧ before.queue = moved.map (fun f => if f.unit = u then { f with wanted := r.ratings.length } else f)
        ∧ exec (.setUnit (r.encode u)) s = .next (State.answered before.admissionPass bytes (.bare .ok))

/-- What a refused command answers, changing nothing else: SET UNIT, LOCK, UNLOCK, RETIRE and RELEASE UNIT, SET SITE, SET
LIMIT and CURTAIL; and LOCK UNIT of a LOCKED unit and UNLOCK UNIT of an ACTIVE one, which are accepted and change nothing
(R1, R2, R4, R15, R17, R18, R19, R85, R134, R138, R171, R174). -/
def Obligations.RefusedCommandsOnlyAnswer : Prop :=
  ∀ (s : State), s.portShut = false →
    (∀ params : List Byte,
      (params.length < 2 ∨ 40 ≤ params.length →
        exec (.setUnit params) s = .next (s.answered ((0x10#8 :: params).take 40) (.bare .badCommand)))
      ∧ (2 ≤ params.length → params.length < 40 → parseUnitRecord params = none →
        exec (.setUnit params) s = .next (s.answered (0x10#8 :: params) (.bare .badValue)))
      ∧ (params.length ≠ 32 →
        exec (.setSite params) s = .next (s.answered ((0x20#8 :: params).take 40) (.bare .badCommand)))
      ∧ (params.length = 32 → parseSiteRecord params = none →
        exec (.setSite params) s = .next (s.answered (0x20#8 :: params) (.bare .badValue))))
    ∧ (∀ (u : UnitNo) (old r : UnitRecord), s.record u = some old → r.valid u = true →
      ((s.status u).state = .retiring →
        exec (.setUnit (r.encode u)) s = .next (s.answered (0x10#8 :: r.encode u) (.bare .busy)))
      ∧ ((s.status u).state ≠ .retiring → r.ratings ≠ old.ratings → s.hasPermit u = true →
        exec (.setUnit (r.encode u)) s = .next (s.answered (0x10#8 :: r.encode u) (.bare .inUse))))
    ∧ (∀ b : Byte, 36 ≤ b.toNat ∨ (∃ u, names b u ∧ (s.status u).state = .unconfigured) →
      exec (.lockUnit b) s = .next (s.answered [0x13#8, b] (.bare .badValue))
      ∧ exec (.unlockUnit b) s = .next (s.answered [0x14#8, b] (.bare .badValue))
      ∧ exec (.retireUnit b) s = .next (s.answered [0x15#8, b] (.bare .badValue))
      ∧ exec (.releaseUnit b) s = .next (s.answered [0x16#8, b] (.bare .badValue)))
    ∧ (∀ (b : Byte) (u : UnitNo), names b u →
      ((s.status u).state = .retiring →
        exec (.lockUnit b) s = .next (s.answered [0x13#8, b] (.bare .busy))
        ∧ exec (.unlockUnit b) s = .next (s.answered [0x14#8, b] (.bare .busy))
        ∧ exec (.retireUnit b) s = .next (s.answered [0x15#8, b] (.bare .busy)))
      ∧ ((s.status u).state = .locked → exec (.lockUnit b) s = .next (s.answered [0x13#8, b] (.bare .ok)))
      ∧ ((s.status u).state = .active → exec (.unlockUnit b) s = .next (s.answered [0x14#8, b] (.bare .ok))))
    ∧ (∀ limit margin : BitVec 16, limit = 0#16 ∨ limit.toNat < margin.toNat →
      exec (.setLimit limit margin) s = .next (s.answered
        (0x22#8 :: (byte2 limit.toNat ++ byte2 margin.toNat)) (.bare .badValue)))
    ∧ ∀ c : Byte, 7 < c.toNat → exec (.curtail c) s = .next (s.answered [0x23#8, c] (.bare .badValue))

/-- LOCK UNIT and RETIRE UNIT stop every commanded-on permit of the unit with their reason: one whose minimum run is not met
waits it out in DRAINING; any other goes to STOPPING, or in a wired unit to RESTING (and is freed where the minimum off is
0), unless it waits in DRAINING below one whose minimum run is not met. Each exit from RUNNING and each entry into STOPPING
or RESTING clears rotation due, which a permit that was in DRAINING already has clear in every state that a step keeps
(permitFieldsSound). The unit's entry leaves the queue and the new level is handed on; its STOPPING and RESTING permits and
every other unit's slots stay as they were (R15, R17, R24, R29, R30, R31, R35, R36). -/
def Obligations.LockAndRetireStopEveryStage : Prop :=
  ∀ (s : State) (b : Byte) (u : UnitNo) (c : Instr) (st : UnitState) (reason : StopReason), names b u →
    s.portShut = false →
    c = .lockUnit b ∧ st = .locked ∧ reason = .locked ∧ (s.status u).state = .active
      ∨ c = .retireUnit b ∧ st = .retiring ∧ reason = .retired
        ∧ ((s.status u).state = .active ∨ (s.status u).state = .locked) →
    ∃ t, exec c s = .next t
      ∧ ((t.status u).state = st ∨ st = .retiring ∧ t.units[u] = UnitEntry.blank ∧ t.hasPermit u = false)
      ∧ t.queue = (s.queue.filter fun e => decide (e.unit ≠ u))
      ∧ (isWired u = false → t.level u ≠ s.level u → u ∈ t.link.urgent)
      ∧ ∀ (i : SlotNo) (p : Permit), s.slots[i].permit = some p →
        if p.unit = u ∧ p.state.commandedOn = true then
          if p.minRunMet = true ∨ p.state ≠ .draining ∧ s.minRun u ≤ s.slots[i].counter then
            (isWired u = true ∧ s.minOff u = 0 ∧ t.slots[i] = Slot.free)
            ∨ ∃ q, t.slots[i].permit = some q ∧ q.unit = u ∧ q.stage = p.stage ∧ q.rating = p.rating
              ∧ q.origin = p.origin ∧ q.reason = some reason ∧ q.minRunMet = true
              ∧ q.rotationDue = (p.rotationDue && decide (p.state = .draining) && decide (q.state = .draining))
              ∧ (q.state = .stopping ∧ isWired u = false ∧ t.slots[i].counter = 0
                  ∧ t.slots[i].aValue = s.site.complianceTimeout
                ∨ q.state = .resting ∧ isWired u = true ∧ t.slots[i].counter = 0 ∧ t.slots[i].aValue = s.minOff u
                ∨ q.state = .draining ∧ t.slots[i].counter = s.slots[i].counter
                  ∧ (s.tablesSound → ∃ (j : SlotNo) (above : Permit), t.slots[j].permit = some above ∧ above.unit = u
                    ∧ q.stage < above.stage ∧ above.state = .draining ∧ above.minRunMet = false))
          else if p.state = .draining then
            t.slots[i] = { s.slots[i] with permit := some { p with reason := some reason } }
          else
            t.slots[i] = { s.slots[i] with
              aValue := s.minRun u, aArmed := true, pArmed := false
              permit := some { p with state := .draining, reason := some reason, rotationDue := false } }
        else t.slots[i] = s.slots[i]

/-- RETIRE UNIT of a unit that holds no permit completes at once: the unit is UNCONFIGURED, its record removed, off every
list, its channel stops acting and UNIT RETIRED is raised (R17, R162). -/
def Obligations.RetirementWithoutPermitsCompletesAtOnce : Prop :=
  ∀ (s : State) (b : Byte) (u : UnitNo), names b u → s.portShut = false →
    (s.status u).state = .active ∨ (s.status u).state = .locked → s.hasPermit u = false →
    exec (.retireUnit b) s = .next (State.answered (State.raise .unitRetired { s with
      units := s.units.set u UnitEntry.blank
      queue := s.queue.filter fun e => decide (e.unit ≠ u)
      link := { s.link with urgent := s.link.urgent.filter fun v => decide (v ≠ u) }
      channels := match channelOf u with
        | some c => s.channels.set c { s.channels[c] with
            calling := false, grantRecorded := false, cycleCounter := 0, callDue := false, testDue := false }
        | none => s.channels }) [0x15#8, b] (.bare .ok))

/-- UNLOCK UNIT makes a LOCKED unit ACTIVE and restores no permit. A unit that wants no more than it is commanded, or is
SILENT, holds no entry; one that wants more is queued at once behind its class, and the insertion runs an admission pass,
which may grant; while the restart hold runs it grants nothing. With 16 entries standing the newcomer takes the last one's
place only if its class is strictly lower, and QUEUE FULL is raised; a newcomer that is turned away runs no pass (R19, R109,
R111, R112, R116). -/
def Obligations.UnlockQueuesAUnitThatWantsMore : Prop :=
  ∀ (s : State) (b : Byte) (u : UnitNo), names b u → s.portShut = false → (s.status u).state = .locked →
    let d := if (s.status u).condition = .normal then (s.status u).desired else 0
    let t0 : State := { s with units := s.units.set u { s.units[u] with status := { s.status u with state := .active } } }
    let key := fun e : QueueEntry => (e.unit, e.wanted, e.cls, e.skips)
    let entry : QueueEntry := { unit := u, wanted := d, cls := s.cls u, skips := 0, reason := .gate, remaining := 0 }
    let placed := fun line : List QueueEntry => (line.filter fun e => decide (e.cls ≤ s.cls u))
      ++ entry :: line.filter fun e => decide (s.cls u < e.cls)
    let answered := fun t : State => State.answered t [0x14#8, b] (.bare .ok)
    (d ≤ s.level u ∨ isWired u = false ∧ (s.status u).link = .silent →
      exec (.unlockUnit b) s = .next (answered { t0 with queue := s.queue.filter fun e => decide (e.unit ≠ u) }))
    ∧ (s.level u < d → isWired u = true ∨ (s.status u).link = .heard → s.queued u = false →
      (s.queue.map QueueEntry.cls).Pairwise (· ≤ ·) →
      (s.queue.length < 16 →
        exec (.unlockUnit b) s = .next (answered (State.admissionPass { t0 with queue := placed s.queue })))
      ∧ (∀ l, 16 ≤ s.queue.length → s.queue.getLast? = some l →
        exec (.unlockUnit b) s = .next (answered (if s.cls u < l.cls then
            State.admissionPass { t0.raise .queueFull with queue := placed s.queue.dropLast }
          else t0.raise .queueFull)))
      ∧ (s.hold ≠ .ended →
        ∃ t, exec (.unlockUnit b) s = .next t
          ∧ { t with queue := s.queue, panel := s.panel } = t0 ∧ t.panel.response = .bare .ok
          ∧ (s.queue.length < 16 → t.queue.map key = (placed s.queue).map key ∧ t.panel.notices = s.panel.notices)
          ∧ (16 ≤ s.queue.length → t.raised .queueFull = true
            ∧ ∀ l, s.queue.getLast? = some l →
              t.queue.map key = if s.cls u < l.cls then (placed s.queue.dropLast).map key else s.queue.map key)))

/-- RELEASE UNIT forces every commanded-on permit to STOPPING with reason FORCED, and in a wired unit on to RESTING with its
output inactive; it sends what was STOPPING to RESTING with its reason kept, frees what rests with a minimum off of 0, and
leaves every other slot. The noncompliant flag clears where no permit is then STOPPING (R18, R31, R33, R35, R39; that it is
tested after the whole operation is log entry 11). The unit does not retire in it, and no pass of a re-queued unit runs that
could grant. -/
def Obligations.ReleaseForcesEveryStageOff : Prop :=
  ∀ (s : State) (b : Byte) (u : UnitNo), names b u → s.portShut = false → s.configured u = true →
    (s.status u).state ≠ .retiring ∨ s.minOff u ≠ 0 → s.effectiveDesired u = 0 ∨ s.hold ≠ .ended →
    ∃ t, exec (.releaseUnit b) s = .next t ∧ t.level u = 0
      ∧ (t.status u).state = (s.status u).state ∧ (t.status u).link = (s.status u).link
      ∧ (isWired u = false → s.level u ≠ 0 → u ∈ t.link.urgent)
      ∧ (∀ c : ChannelNo, channelUnit c = u → t.driveOutput c = .inactive)
      ∧ ((t.status u).noncompliant = true ↔ (s.status u).noncompliant = true ∧ isWired u = false ∧ s.level u ≠ 0)
      ∧ ∀ i : SlotNo, t.slots[i] =
        match s.slots[i].permit with
        | none => s.slots[i]
        | some p =>
          let resting := fun reason : Option StopReason =>
            if s.minOff u = 0 then Slot.free
            else { s.slots[i] with
              counter := 0, aValue := s.minOff u, aArmed := true, pArmed := false
              permit := some { p with state := .resting, rotationDue := false, reason := reason } }
          if p.unit ≠ u ∨ p.state = .resting then s.slots[i]
          else if p.state = .stopping then resting p.reason
          else if isWired u = true then resting (some .forced)
          else
            { s.slots[i] with counter := 0, aValue := s.site.complianceTimeout
                              aArmed := decide (0 < s.site.complianceTimeout), pArmed := false
                              permit := some { p with state := .stopping, rotationDue := false, reason := some .forced } }

/-! ### The site commands and the Shed Controller -/

/-- SET SITE, SET LIMIT and CURTAIL: the new figures are in force at once; a change of T_s or S empties the ring and restarts
the subinterval, a change to FREE clears sync-lost; a change of the limit by SET SITE and every SET LIMIT runs a shed
evaluation, and CURTAIL a shed action where the shed gate is OPEN (R85, R86, R87, R134, R138). That a change of T_s or S
withdraws a close that the last second tick raised is the model's choice (log entry 27). -/
def Obligations.SiteCommandsPutTheirFiguresInForce : Prop :=
  ∀ s : State, s.portShut = false →
    (∀ r : SiteRecord, r.valid = true →
      let restart := r.subLength ≠ s.site.subLength ∨ r.subCount ≠ s.site.subCount
      let t : State := State.answered { s with
        site := r
        meter := { s.meter with
          ring := if restart then [] else s.meter.ring
          rolling := if restart then 0 else s.meter.rolling
          energy := if restart then 0 else s.meter.energy
          elapsed := if restart then 0 else s.meter.elapsed
          closeDue := if restart then none else s.meter.closeDue
          syncLost := if restart ∨ r.syncMode = .free then false else s.meter.syncLost } }
        (0x20#8 :: r.encode) s.panel.response
      exec (.setSite r.encode) s = .next (State.answered (if s.site.limit = r.limit then t else t.shedEvaluation)
        (0x20#8 :: r.encode) (.bare .ok)))
    ∧ (∀ limit margin : BitVec 16, limit ≠ 0#16 → margin.toNat ≤ limit.toNat →
      let bytes := 0x22#8 :: (byte2 limit.toNat ++ byte2 margin.toNat)
      exec (.setLimit limit margin) s = .next (State.answered (State.shedEvaluation (State.answered
        { s with site := { s.site with limit := limit.toNat, margin := margin.toNat } } bytes s.panel.response))
        bytes (.bare .ok)))
    ∧ ∀ c : Byte, c.toNat ≤ 7 →
      let t : State := State.answered
        { s with shed := { s.shed with threshold := if c = 0#8 then none else some c.toNat } } [0x23#8, c] s.panel.response
      exec (.curtail c) s = .next (State.answered (if s.shedGate = .opened then t.shedAction else t) [0x23#8, c] (.bare .ok))

/-- A shed evaluation moves the site demand state by the shed test: from NORMAL to OVERLOAD with the notice raised and the
exhausted mark cleared, from OVERLOAD to NORMAL without a notice, and otherwise it stays; then it takes a shed action if the
shed gate is OPEN, and changes nothing more if it is not (R125). -/
def Obligations.ShedEvaluationMovesTheDemandState : Prop :=
  ∀ s : State,
    let moved : State :=
      if s.overLimit = true then
        (if s.shed.demand = .normal then
          State.raise .overload { s with shed := { s.shed with demand := .overload, exhausted := false } } else s)
      else { s with shed := { s.shed with demand := .normal } }
    (s.shedGate = .opened → s.shedEvaluation = moved.shedAction)
      ∧ (s.shedGate ≠ .opened → s.shedEvaluation = moved)
      ∧ s.shedEvaluation.shed.demand = (if s.overLimit = true then .overload else .normal)
      ∧ (s.shedEvaluation.raised .overload = true ↔
        s.raised .overload = true ∨ s.overLimit = true ∧ s.shed.demand = .normal)
      ∧ s.shedEvaluation.shed.threshold = s.shed.threshold

/-- The opening of the shed gate takes one shed action. In OVERLOAD it stops the first victim with reason SHED, under a
curtail in NORMAL the first victim of the curtailed classes with reason CURTAILED: the victim of the highest class, then with
min-run met, rotation due, the larger counter, the lower slot. The gate closes; a victim whose minimum run is met goes to
STOPPING, and a wired one on to RESTING with its output inactive; any other stays in DRAINING, and no other RUNNING permit is
touched (R31, R62, R126, R128, R129, R130, R136). The minimum off of a wired victim is taken as not 0. -/
def Obligations.ShedActionStopsTheFirstVictim : Prop :=
  ∀ (s : State) (i : SlotNo) (p : Permit) (reason : StopReason),
    let victim := fun (j : SlotNo) (q : Permit) => s.slots[j].permit = some q ∧ q.state = .running
      ∧ q.stage + 1 = s.level q.unit ∧ s.cls q.unit ≠ 0
      ∧ (reason = .curtailed → ∀ c ∈ s.shed.threshold, c ≤ s.cls q.unit)
    s.tablesSound → s.resetHeld = false → s.shedGate = .counting 0 →
    reason = .shed ∧ s.shed.demand = .overload
      ∨ reason = .curtailed ∧ s.shed.demand = .normal ∧ s.shed.threshold.isSome = true →
    victim i p → (∀ (j : SlotNo) (q : Permit), victim j q → j ≠ i → s.goesBefore i j p q) →
    ∃ t, exec .shedGateOpening s = .next t ∧ t.shedGate = .counting (s.site.shedSpacing + 1)
      ∧ (∀ (j : SlotNo) (q : Permit), s.slots[j].permit = some q → q.state = .running → j ≠ i → t.slots[j] = s.slots[j])
      ∧ (p.minRunMet = true ∨ s.minRun p.unit ≤ s.slots[i].counter → isWired p.unit = false →
        p.unit ∈ t.link.urgent ∧ t.slots[i] = { s.slots[i] with
          counter := 0, aValue := s.site.complianceTimeout, aArmed := true, pArmed := false
          permit := some { p with state := .stopping, reason := some reason, minRunMet := true, rotationDue := false } })
      ∧ (p.minRunMet = true ∨ s.minRun p.unit ≤ s.slots[i].counter → s.minOff p.unit ≠ 0 →
        ∀ c : ChannelNo, channelUnit c = p.unit → t.driveOutput c = .inactive ∧ t.slots[i] = { s.slots[i] with
          counter := 0, aValue := s.minOff p.unit, aArmed := true, pArmed := false
          permit := some { p with state := .resting, reason := some reason, minRunMet := true, rotationDue := false } })
      ∧ (p.minRunMet = false → s.slots[i].counter < s.minRun p.unit →
        t = { s with
          shedGate := .counting (s.site.shedSpacing + 1)
          slots := s.slots.set i { s.slots[i] with
            aValue := s.minRun p.unit, aArmed := true, pArmed := false
            permit := some { p with state := .draining, reason := some reason, rotationDue := false } } })

/-- With no victim in OVERLOAD the action raises SHED EXHAUSTED once in the episode; with none under a curtail, or with no
curtail, and no entry waiting on demand or budget, it stops nothing (R126, R132, R140). -/
def Obligations.ShedActionWithoutAVictim : Prop :=
  ∀ s : State, s.resetHeld = false → s.shedGate = .counting 0 →
    (s.shed.demand = .overload →
      (∀ (j : SlotNo) (q : Permit), s.slots[j].permit = some q → q.state = .running → q.stage + 1 = s.level q.unit →
        s.cls q.unit = 0) →
      exec .shedGateOpening s = .next
        (if s.shed.exhausted = true then { s with shedGate := .opened }
         else State.raise .shedExhausted { s with shedGate := .opened, shed := { s.shed with exhausted := true } }))
    ∧ (s.shed.demand = .normal → (∀ e ∈ s.queue, e.reason ≠ .demand ∧ e.reason ≠ .budget) →
      (∀ c ∈ s.shed.threshold, ∀ (j : SlotNo) (q : Permit), s.slots[j].permit = some q → q.state = .running →
        q.stage + 1 = s.level q.unit → s.cls q.unit < c ∨ s.cls q.unit = 0) →
      exec .shedGateOpening s = .next { s with shedGate := .opened })

/-- Rotation: in NORMAL with no curtail victim, for the first entry in queue order that has reason DEMAND or BUDGET and a
candidate, the opening of the shed gate stops the first candidate in victim order with reason ROTATED: a RUNNING top stage
whose rotation is due, of another unit of the same or a higher class than the entry's and not of class 0, with a rating at
least that of the entry's next stage. Its minimum run goes before it. Where no entry has a candidate nothing is stopped, and
the gate stays OPEN (R31, R62, R126, R129, R140, R141). The minimum off of a wired candidate is taken as not 0. -/
def Obligations.RotationStopsTheFirstCandidate : Prop :=
  ∀ s : State,
    let candidate := fun (e : QueueEntry) (j : SlotNo) (q : Permit) => s.slots[j].permit = some q ∧ q.state = .running
      ∧ q.stage + 1 = s.level q.unit ∧ s.cls q.unit ≠ 0 ∧ q.rotationDue = true ∧ q.unit ≠ e.unit
      ∧ s.cls e.unit ≤ s.cls q.unit ∧ ∃ rating, s.rating e.unit (s.level e.unit) = some rating ∧ rating ≤ q.rating
    let idle := fun e : QueueEntry => e.reason = .demand ∨ e.reason = .budget → ∀ j q, ¬ candidate e j q
    s.tablesSound → s.resetHeld = false → s.shedGate = .counting 0 → s.shed.demand = .normal →
    (∀ c ∈ s.shed.threshold, ∀ (j : SlotNo) (q : Permit), s.slots[j].permit = some q → q.state = .running →
      q.stage + 1 = s.level q.unit → s.cls q.unit < c ∨ s.cls q.unit = 0) →
    ((∀ e ∈ s.queue, idle e) → exec .shedGateOpening s = .next { s with shedGate := .opened })
    ∧ ∀ (front behind : List QueueEntry) (e : QueueEntry) (i : SlotNo) (p : Permit),
      s.queue = front ++ e :: behind → (∀ f ∈ front, idle f) → e.reason = .demand ∨ e.reason = .budget →
      candidate e i p → (∀ (j : SlotNo) (q : Permit), candidate e j q → j ≠ i → s.goesBefore i j p q) →
      ∃ t, exec .shedGateOpening s = .next t ∧ t.shedGate = .counting (s.site.shedSpacing + 1)
        ∧ (∀ (j : SlotNo) (q : Permit), s.slots[j].permit = some q → q.state = .running → j ≠ i → t.slots[j] = s.slots[j])
        ∧ (p.minRunMet = true ∨ s.minRun p.unit ≤ s.slots[i].counter → isWired p.unit = false →
          p.unit ∈ t.link.urgent ∧ t.slots[i] = { s.slots[i] with
            counter := 0, aValue := s.site.complianceTimeout, aArmed := true, pArmed := false
            permit := some { p with state := .stopping, reason := some .rotated, minRunMet := true, rotationDue := false } })
        ∧ (p.minRunMet = true ∨ s.minRun p.unit ≤ s.slots[i].counter → s.minOff p.unit ≠ 0 →
          ∀ c : ChannelNo, channelUnit c = p.unit → t.driveOutput c = .inactive ∧ t.slots[i] = { s.slots[i] with
            counter := 0, aValue := s.minOff p.unit, aArmed := true, pArmed := false
            permit := some { p with state := .resting, reason := some .rotated, minRunMet := true, rotationDue := false } })
        ∧ (p.minRunMet = false → s.slots[i].counter < s.minRun p.unit →
          t = { s with
            shedGate := .counting (s.site.shedSpacing + 1)
            slots := s.slots.set i { s.slots[i] with
              aValue := s.minRun p.unit, aArmed := true, pArmed := false
              permit := some { p with state := .draining, reason := some .rotated, rotationDue := false } } })

/-- The shed test of each regime, and that no grant can pass where it holds: every candidate fails the admission test, and a
pass grants nothing (R84). -/
def Obligations.NoGrantPassesWhileTheShedTestHolds : Prop :=
  ∀ s : State,
    (s.overLimit = true ↔
      match s.regime with
      | .fallback => s.site.budget < s.committed
      | .warming => s.site.limit < s.meter.rate + s.unsettled
      | .full => s.site.limit < s.projected 0)
    ∧ (s.overLimit = true →
      (∀ extra, s.demandObstacle extra ≠ none) ∧ s.admissionPass = { s with queue := s.admissionPass.queue })

/-- The loads U and C, the regime, the projection and the admission test in their figures (R46, R81, R82, R83). -/
def Obligations.DemandFiguresAreThoseOfTheRules : Prop :=
  ∀ (s : State) (extra : Nat),
    let load := fun counts : PermitState → Bool => (((List.finRange 96).filterMap fun i : SlotNo => s.slots[i].permit).map
      fun p => if counts p.state = true then p.rating else 0).sum
    let remaining := s.site.subLength - s.meter.elapsed
    let energy := (s.meter.ring.take (s.site.subCount - 1)).sum + s.meter.energy
      + (s.meter.rate + s.unsettled + extra) * remaining / 36
    s.unsettled = load (fun st => decide (st = .starting))
      ∧ s.committed = load (fun st => decide (st ≠ .resting))
      ∧ (s.regime = if s.meter.state ≠ .ok then .fallback
          else if s.site.subCount ≤ s.meter.ring.length + 1 then .full else .warming)
      ∧ s.projected extra = min 65535 (energy * 36 / (s.site.subCount * s.site.subLength))
      ∧ (s.demandObstacle extra = none ↔
        match s.regime with
        | .fallback => s.committed + extra ≤ s.site.budget
        | .warming => s.meter.rate + s.unsettled + extra ≤ s.site.limit
        | .full => s.projected extra ≤ s.site.limit - s.site.margin ∧ s.meter.rate + s.unsettled + extra ≤ s.site.limit)

/-! ### Admission -/

/-- The checks of a pass in their order: HOLD, CURTAIL, CYCLE, RESTING with the permit's remaining time, TABLE, BUDGET or
DEMAND, GATE; the first that holds gives the reason, and an entry that meets none meets no obstacle (R91 to R98). -/
def Obligations.ChecksAreMadeInOrder : Prop :=
  ∀ (s : State) (e : QueueEntry),
    let stage := s.level e.unit
    let rating := (s.rating e.unit stage).getD 0
    let at_ := (List.finRange 96).find? fun i : SlotNo =>
      s.slots[i].permit.any fun p => decide (p.unit = e.unit) && decide (p.stage = stage)
    s.obstacle e = (([
      (decide (s.hold ≠ .ended), WaitReason.hold, 0),
      (s.shed.threshold.any (fun c => decide (c ≤ s.cls e.unit)), .curtail, 0),
      ((List.finRange 4).any (fun c : ChannelNo => decide (channelUnit c = e.unit)
        && (s.wiredFields c).any fun w =>
          (decide (w.cyclingMode = .always) || decide (s.shed.demand = .overload) || s.shed.threshold.isSome)
            && decide (0 < w.onLimit) && decide (w.onLimit < w.cyclePeriod) && s.channels[c].grantRecorded
            && decide (s.channels[c].cycleCounter < w.cyclePeriod * 60)), .cycle, 0),
      (at_.isSome, .resting, at_.elim 0 fun i => s.slots[i].aValue - s.slots[i].counter),
      (s.freeList.isEmpty, .table, 0),
      (decide (s.regime = .fallback) && decide (s.site.budget < s.committed + rating), .budget, 0),
      (decide (s.regime ≠ .fallback) && decide (s.demandObstacle rating ≠ none), .demand, 0),
      (decide (s.startGate ≠ .opened), .gate, 0)] : List (Bool × WaitReason × Nat)).find? fun c => c.1).map fun c => c.2

/-- An admission pass that grants nothing rewrites reasons and remaining seconds alone, gives the entries behind a barrier
reason BARRIER, keeps every skip count, and a second pass at once changes nothing more (R90, R91, R101, R102). -/
def Obligations.PassWithoutAGrantRewritesReasons : Prop :=
  ∀ s : State,
    let blocked := fun f : QueueEntry =>
      match s.obstacle f with
      | some o => { f with reason := o.1, remaining := o.2 }
      | none => f
    ((∀ e ∈ s.queue, s.obstacle e ≠ none ∧ e.skips < s.site.skipLimit) →
      s.admissionPass = { s with queue := s.queue.map blocked }
        ∧ s.admissionPass.admissionPass = s.admissionPass)
    ∧ ∀ (front behind : List QueueEntry) (e : QueueEntry), s.queue = front ++ e :: behind →
      (∀ f ∈ front, s.obstacle f ≠ none ∧ f.skips < s.site.skipLimit) → s.obstacle e ≠ none → s.site.skipLimit ≤ e.skips →
      s.admissionPass = { s with
          queue := front.map blocked ++ blocked e :: behind.map fun f => { f with reason := .barrier, remaining := 0 } }
        ∧ s.admissionPass.admissionPass = s.admissionPass

/-- The grant at the opening of the start gate, by its count or by the end of the hold: the first entry that meets no check
gets a STARTING permit at its unit's next stage in the head slot of the free list, the gate closes, the unit joins the urgent
list or its channel restarts its cycle; the entries in front that failed on demand rise in their skip counts, those behind
get GATE, and the granted entry leaves when it has what it wanted (R25, R61, R90, R91, R99, R101, R165). The settle time is
taken as not 0. -/
def Obligations.PassGrantsTheFirstEntryThatMeetsNoCheck : Prop :=
  ∀ (s : State) (c : Instr) (hold : RestartHold) (due : Bool) (front behind : List QueueEntry) (e : QueueEntry) (i : SlotNo)
      (rest : List SlotNo),
    let o : State := { s with startGate := .opened, hold := hold }
    s.resetHeld = false →
    c = .startGateOpening ∧ s.openingDue = true ∧ s.startGate = .opened ∧ hold = s.hold ∧ due = false
      ∨ c = .restartHoldEnd ∧ s.hold = .running 0 ∧ hold = .ended ∧ due = s.openingDue →
    s.queue = front ++ e :: behind →
    (∀ f ∈ front, o.obstacle f ≠ none ∧ f.skips < s.site.skipLimit) → o.obstacle e = none → s.freeList = i :: rest →
    s.slots[i].permit = none → s.site.settleTime ≠ 0 → s.configured e.unit = true →
    exec c s = .next { s with
      hold := hold
      startGate := .counting (s.site.startSpacing + 1)
      openingDue := due
      freeList := rest
      slots := s.slots.set i {
        permit := some { unit := e.unit, stage := s.level e.unit, rating := (s.rating e.unit (s.level e.unit)).getD 0
                         state := .starting, origin := .granted, minRunMet := false, rotationDue := false, reason := none }
        counter := 0, aValue := s.site.settleTime, aArmed := true, pValue := 0, pArmed := false }
      link := if isWired e.unit = true ∨ e.unit ∈ s.link.urgent then s.link
        else { s.link with urgent := s.link.urgent ++ [e.unit] }
      channels := match channelOf e.unit with
        | some c => s.channels.set c { s.channels[c] with grantRecorded := true, cycleCounter := 0 }
        | none => s.channels
      queue := front.map (fun f =>
          match o.obstacle f with
          | some (r, left) => { f with
              reason := r
              remaining := left
              skips := if r = .budget ∨ r = .demand then min 15 (f.skips + 1) else f.skips }
          | none => f)
        ++ (if s.level e.unit + 1 = e.wanted then [] else [{ e with skips := 0, reason := .gate, remaining := 0 }])
        ++ behind.map fun f => { f with reason := .gate, remaining := 0 } }

/-! ### The ticks -/

/-- A second tick reaches each of its parts once: the hold and the gates count down (the start gate is OPEN when its count
reaches 0), the slot counters and the cycle counters advance, elapsed rises and the clock and the loss tests are made, the
rate decays only where the loss test fails, and the shed evaluation is made: with an empty queue, no configured wired unit
and the shed gate not OPEN, where every order comes to the same (log entry 5). Where the shed gate is OPEN the evaluation
acts: over the budget it stops the first victim, within it nothing is stopped and the gate stays OPEN. The regular pass gives
every entry HOLD while the hold runs, and makes the grant at an OPEN gate. A configured wired unit without an entry takes its
desire step. An entry whose candidate stage stops or rests shows, in every order, the time that the tick leaves, 0 where the
rest ends at it; a pass after the expiry tests it on. An event named behind every part acts as its own command does on what
the parts leave (R51, R53, R60, R62, R72, R73, R75, R77, R90, R95, R105, R117, R124, R126, R165, R180). -/
def Obligations.SecondTickReachesEachPart : Prop :=
  (∀ (s : State) (order : List TickItem), plainOrder order → s.resetHeld = false →
    (s.shedGate ≠ .opened →
      ((∀ c : ChannelNo, s.configured (channelUnit c) = false) → s.queue = [] →
        ∃ t, exec (.secondTick order) s = .next t
          ∧ { t with timeBase := s.timeBase, slots := s.slots, startGate := s.startGate, openingDue := s.openingDue
                     shedGate := s.shedGate, meter := s.meter, shed := s.shed, channels := s.channels, panel := s.panel
                     hold := s.hold } = s
          ∧ { t.panel with notices := s.panel.notices } = s.panel ∧ t.shed.threshold = s.shed.threshold
          ∧ (s.meter.state ≠ .ok → t.shed.demand = if s.site.budget < s.committed then .overload else .normal)
          ∧ t.hold = (match s.hold with | .running n => .running (n - 1) | .ended => .ended)
          ∧ t.startGate = (match s.startGate with | .counting n => if n ≤ 1 then .opened else .counting (n - 1) | g => g)
          ∧ t.openingDue = (s.openingDue || match s.startGate with | .counting n => decide (n ≤ 1) | _ => false)
          ∧ t.shedGate = (match s.shedGate with | .counting n => .counting (n - 1) | g => g)
          ∧ (∀ i : SlotNo, t.slots[i] = if s.slots[i].permit.isSome = true then
              { s.slots[i] with counter := min 65535 (s.slots[i].counter + 1) } else s.slots[i])
          ∧ (∀ c : ChannelNo, t.channels[c] = { s.channels[c] with
              testDue := true
              cycleCounter := if s.channels[c].grantRecorded = true then min 65535 (s.channels[c].cycleCounter + 1)
                else s.channels[c].cycleCounter })
          ∧ t.meter = { s.meter with
              elapsed := s.meter.elapsed + 1
              closeDue :=
                if s.site.syncMode = .free ∨ s.meter.syncLost = true then
                  (if s.site.subLength ≤ s.meter.elapsed + 1 then some .free else none)
                else if s.site.subLength + s.site.grace ≤ s.meter.elapsed + 1 then some .selfClose else none
              lossDue := decide (s.meter.state = .ok) && s.meter.elapsedMs.any fun e => decide (s.site.lossTime * 1000 < e)
              rate :=
                match s.meter.state, s.meter.elapsedMs, s.meter.interval with
                | .ok, some e, some d =>
                  if d < e ∧ e ≤ s.site.lossTime * 1000 then min 65535 (s.site.pulseWeight * 36000 / e) else s.meter.rate
                | _, _, _ => s.meter.rate })
      ∧ ((∀ c : ChannelNo, s.configured (channelUnit c) = false) → s.hold ≠ .ended →
        (∀ e ∈ s.queue, e.skips < s.site.skipLimit) →
        ∃ t, exec (.secondTick order) s = .next t ∧ t.queue = s.queue.map fun e => { e with reason := .hold, remaining := 0 })
      ∧ (∀ (e : QueueEntry) (rating : Nat), (∀ c : ChannelNo, s.configured (channelUnit c) = false) → s.hold = .ended →
        s.startGate = .opened → s.queue = [e] → isWired e.unit = false → s.hasPermit e.unit = false → s.freeList ≠ [] →
        s.shed.threshold = none → s.meter.state ≠ .ok → s.rating e.unit 0 = some rating →
        s.committed + rating ≤ s.site.budget → 0 < s.site.startSpacing →
        ∃ t, exec (.secondTick order) s = .next t ∧ t.level e.unit = 1
          ∧ (t.startGate = .counting (s.site.startSpacing + 1) ∨ t.startGate = .counting s.site.startSpacing))
      ∧ ∀ c : ChannelNo, (s.status (channelUnit c)).state = .active → (s.status (channelUnit c)).condition = .normal →
        (s.status (channelUnit c)).desired = 1 → s.level (channelUnit c) = 0 → s.queued (channelUnit c) = false →
        s.hold ≠ .ended → s.queue.length ≤ 12 →
        ∃ t, exec (.secondTick order) s = .next t ∧ ∃ e ∈ t.queue, e.unit = channelUnit c ∧ e.wanted = 1)
    ∧ (s.shedGate = .opened → (∀ c : ChannelNo, s.configured (channelUnit c) = false) → s.queue = [] →
      s.meter.state ≠ .ok →
      (s.committed ≤ s.site.budget → s.shed.threshold = none →
        ∃ t, exec (.secondTick order) s = .next t ∧ t.shedGate = .opened ∧ t.shed.demand = .normal
          ∧ ∀ i : SlotNo, t.slots[i] = if s.slots[i].permit.isSome = true then
              { s.slots[i] with counter := min 65535 (s.slots[i].counter + 1) } else s.slots[i])
      ∧ (s.site.budget < s.committed → s.tablesSound → ∀ (i : SlotNo) (p : Permit),
        let victim := fun (j : SlotNo) (q : Permit) =>
          s.slots[j].permit = some q ∧ q.state = .running ∧ q.stage + 1 = s.level q.unit ∧ s.cls q.unit ≠ 0
        victim i p → (∀ (j : SlotNo) (q : Permit), victim j q → j ≠ i → s.cls q.unit < s.cls p.unit) →
        ∃ t, exec (.secondTick order) s = .next t ∧ t.shed.demand = .overload
          ∧ (t.shedGate = .counting (s.site.shedSpacing + 1) ∨ t.shedGate = .counting s.site.shedSpacing)
          ∧ (p.minRunMet = true → t.slots[i].counter ≤ 1 ∧ t.slots[i].aValue = s.site.complianceTimeout
            ∧ t.slots[i].permit = some { p with state := .stopping, reason := some .shed, rotationDue := false })
          ∧ (p.minRunMet = false → s.slots[i].counter + 1 < s.minRun p.unit →
            t.slots[i].counter = s.slots[i].counter + 1
              ∧ t.slots[i].permit = some { p with state := .draining, reason := some .shed, rotationDue := false }))))
  ∧ (∀ (s : State) (parts : List TickPart) (e : TickEvent), parts.Perm allTickParts → s.resetHeld = false →
    ∃ t, exec (.secondTick (parts.map .part)) s = .next t
      ∧ exec (.secondTick (parts.map .part ++ [.event e])) s = exec (TickEvent.command e) t)
  ∧ ∀ (s : State) (order : List TickItem) (e : QueueEntry) (i : SlotNo) (p : Permit), plainOrder order →
    s.resetHeld = false → s.tablesSound → s.shedGate ≠ .opened → s.hold = .ended → s.shed.threshold = none →
    (∀ c : ChannelNo, s.configured (channelUnit c) = false) → s.queue = [e] → s.slots[i].permit = some p →
    p.unit = e.unit → p.stage = s.level e.unit → s.slots[i].counter < 65535 →
    (∃ t, exec (.secondTick order) s = .next t
      ∧ t.queue = [{ e with reason := .resting, remaining := s.slots[i].aValue - (s.slots[i].counter + 1) }])
    ∧ (p.state = .resting → s.slots[i].aArmed = true → s.slots[i].aValue = s.slots[i].counter + 1 →
      ∃ t, exec (.secondTick (.part .slotCounters :: .event (.minOffExpiry i) :: order)) s = .next t
        ∧ (∀ q ∈ t.slots[i].permit, q.state ≠ .resting) ∧ ∀ f ∈ t.queue, f.reason ≠ .resting)

/-- A millisecond tick samples the meter inputs and times pulses and replies, and at every twentieth samples the calls;
nothing else changes. A filtered level changes at the third sample in a row of the new level, and the first level a filter
gets is no edge (R50, R65, R66, R68, R152, R161, R162). -/
def Obligations.MillisecondTickSamplesAndTimes : Prop :=
  (∀ (s : State) (x : InputLevels), s.resetHeld = false → ∃ t, exec (.millisecondTick x) s = .next t
    ∧ { t with timeBase := s.timeBase, meter := s.meter, link := s.link, channels := s.channels, store := s.store } = s
    ∧ { t.meter with
        pulseFilter := s.meter.pulseFilter, eoiFilter := s.meter.eoiFilter, elapsedMs := s.meter.elapsedMs
        elapsedBefore := s.meter.elapsedBefore, pulseDue := s.meter.pulseDue, eoiDue := s.meter.eoiDue
        lossDue := s.meter.lossDue, closeDue := s.meter.closeDue } = s.meter
    ∧ t.meter.elapsedMs = s.meter.elapsedMs.map (fun e => min 4294967295 (e + 1))
    ∧ t.link = { s.link with
        replyTimer := if s.link.line = .awaiting then s.link.replyTimer + 1 else s.link.replyTimer }
    ∧ { t.store with savingMs := s.store.savingMs } = s.store
    ∧ ∀ c : ChannelNo,
      let v := InputLevels.call x c
      { t.channels[c] with
        filter := s.channels[c].filter, callDue := s.channels[c].callDue, testDue := s.channels[c].testDue }
        = s.channels[c]
      ∧ (t.timeBase.callPhase ≠ 0 → t.channels[c].filter = s.channels[c].filter ∧ t.channels[c].callDue = false)
      ∧ (t.timeBase.callPhase = 0 → t.channels[c].filter = {
            level := if s.channels[c].filter.last1 = some v ∧ s.channels[c].filter.last2 = some v then some v
              else s.channels[c].filter.level
            last1 := some v
            last2 := s.channels[c].filter.last1 }
          ∧ t.channels[c].callDue
            = (s.configured (channelUnit c) && decide (t.callState c ≠ s.channels[c].calling))))
    ∧ ∀ (s : State) (x : InputLevels) (n : Nat), s.resetHeld = false → s.pending = List.replicate n (.millisecondTick x) →
      0 < n → n ≤ 3 →
      ∃ t, Host.Core.run core n s = .next t
        ∧ (s.meter.pulseFilter = { level := some !x.pulse, last1 := some !x.pulse, last2 := some !x.pulse } →
          t.meter.pulseFilter.level = some (if n = 3 then x.pulse else !x.pulse)
          ∧ (t.meter.pulseDue = true ↔ n = 3 ∧ match s.site.countingEdge with
            | .rising => x.pulse = true
            | .falling => x.pulse = false
            | .both => True))
        ∧ (s.meter.eoiFilter = { level := some !x.eoi, last1 := some !x.eoi, last2 := some !x.eoi } →
          t.meter.eoiFilter.level = some (if n = 3 then x.eoi else !x.eoi)
          ∧ (t.meter.eoiDue = true ↔ n = 3 ∧ x.eoi = true))
        ∧ (s.meter.pulseFilter = { level := none, last1 := none, last2 := none } →
          t.meter.pulseFilter.level = (if n = 3 then some x.pulse else none) ∧ t.meter.pulseDue = false)

/-! ### The expiries of the slot timers -/

/-- Settle expiry sends STARTING to RUNNING with the loadings of R27; min-run expiry sets min-run met; rotation expiry sets
rotation due. Each changes its slot alone (R26, R27, R28, R55, R57). -/
def Obligations.RunningPermitExpiries : Prop :=
  ∀ (s : State) (i : SlotNo) (p : Permit), s.resetHeld = false → s.slots[i].permit = some p →
    (p.state = .starting → s.slots[i].aArmed = true → s.slots[i].aValue ≤ s.slots[i].counter →
      exec (.settleExpiry i) s = .next { s with slots := s.slots.set i { s.slots[i] with
        aValue := s.minRun p.unit
        aArmed := decide (s.slots[i].counter < s.minRun p.unit)
        pValue := s.rotation p.unit
        pArmed := decide (s.rotation p.unit ≠ 0) && decide (s.slots[i].counter < s.rotation p.unit * 64)
        permit := some { p with
          state := .running
          reason := none
          minRunMet := p.minRunMet || decide (s.minRun p.unit ≤ s.slots[i].counter)
          rotationDue := decide (s.rotation p.unit ≠ 0)
            && decide (s.rotation p.unit * 64 ≤ s.slots[i].counter) } } })
    ∧ (p.state = .running → s.slots[i].aArmed = true → s.slots[i].aValue ≤ s.slots[i].counter →
      exec (.minRunExpiry i) s = .next { s with slots := s.slots.set i { s.slots[i] with
        aArmed := false, permit := some { p with minRunMet := true } } })
    ∧ (p.state = .running → s.slots[i].pArmed = true → s.slots[i].pValue * 64 ≤ s.slots[i].counter →
      exec (.rotationExpiry i) s = .next { s with slots := s.slots.set i { s.slots[i] with
        pArmed := false, permit := some { p with rotationDue := true } } })

/-- Min-run expiry in DRAINING. The top stage of a linked unit goes to STOPPING with its reason kept and the unit is handed
over; the descent takes every stage below it down to the first that is not DRAINING with its minimum run met, and leaves the
rest. The stage of a wired unit goes on to RESTING with its output inactive (the minimum off taken as not 0). A stage below
another that is still commanded on waits in DRAINING with min-run met, and nothing else changes (R29, R30, R31). -/
def Obligations.DrainingMinRunExpiryAppliesTopOrder : Prop :=
  ∀ (s : State) (i : SlotNo) (p : Permit), s.tablesSound → s.resetHeld = false → s.slots[i].permit = some p →
    p.state = .draining → s.slots[i].aArmed = true → s.slots[i].aValue ≤ s.slots[i].counter →
    (p.stage + 1 = s.level p.unit → isWired p.unit = false →
      ∃ t, exec (.drainingMinRunExpiry i) s = .next t ∧ p.unit ∈ t.link.urgent ∧ t.shedGate = s.shedGate
        ∧ t.slots[i] = { s.slots[i] with
          counter := 0, aValue := s.site.complianceTimeout, aArmed := true, pArmed := false
          permit := some { p with state := .stopping, minRunMet := true, rotationDue := false } }
        ∧ ∀ (j : SlotNo) (q : Permit), s.slots[j].permit = some q → q.unit = p.unit → q.stage < p.stage →
          ((∀ (k : SlotNo) (m : Permit), s.slots[k].permit = some m → m.unit = p.unit → q.stage ≤ m.stage →
              m.stage < p.stage → m.state = .draining ∧ m.minRunMet = true) →
            t.slots[j] = { s.slots[j] with
              counter := 0, aValue := s.site.complianceTimeout, aArmed := true, pArmed := false
              permit := some { q with state := .stopping, rotationDue := false } })
          ∧ ((∃ (k : SlotNo) (m : Permit), s.slots[k].permit = some m ∧ m.unit = p.unit ∧ q.stage ≤ m.stage
              ∧ m.stage < p.stage ∧ ¬ (m.state = .draining ∧ m.minRunMet = true)) → t.slots[j] = s.slots[j]))
    ∧ (∀ c : ChannelNo, channelUnit c = p.unit → s.minOff p.unit ≠ 0 →
      ∃ t, exec (.drainingMinRunExpiry i) s = .next t ∧ t.driveOutput c = .inactive ∧ t.slots[i] = { s.slots[i] with
        counter := 0, aValue := s.minOff p.unit, aArmed := true, pArmed := false
        permit := some { p with state := .resting, minRunMet := true, rotationDue := false } })
    ∧ ∀ (j : SlotNo) (top : Permit), s.slots[j].permit = some top → top.unit = p.unit → p.stage < top.stage →
      top.stage + 1 = s.level p.unit → top.state = .draining ∧ top.minRunMet = true ∨
      exec (.drainingMinRunExpiry i) s = .next { s with slots := s.slots.set i { s.slots[i] with
        aArmed := false, permit := some { p with minRunMet := true } } }

/-- Compliance expiry raises NONCOMPLIANT, sets the unit's flag and leaves the permit STOPPING; min-off expiry frees the slot
to the tail of the free list, and the last permit of a RETIRING unit completes its retirement with UNIT RETIRED (R17, R22,
R33, R35). -/
def Obligations.ComplianceAndMinOffExpiries : Prop :=
  ∀ (s : State) (i : SlotNo) (p : Permit), s.resetHeld = false → s.slots[i].permit = some p →
    s.slots[i].aArmed = true → s.slots[i].aValue ≤ s.slots[i].counter →
    (p.state = .stopping → exec (.complianceExpiry i) s = .next (State.raise .noncompliant { s with
      slots := s.slots.set i { s.slots[i] with aArmed := false }
      units := s.units.set p.unit { s.units[p.unit] with status := { s.status p.unit with noncompliant := true } } }))
    ∧ (p.state = .resting →
      let t : State := { s with slots := s.slots.set i Slot.free, freeList := s.freeList ++ [i] }
      ((s.status p.unit).state ≠ .retiring ∨ (∃ j : SlotNo, j ≠ i ∧ ∃ q ∈ s.slots[j].permit, q.unit = p.unit) →
        exec (.minOffExpiry i) s = .next t)
      ∧ ((s.status p.unit).state = .retiring → (∀ j : SlotNo, j ≠ i → ∀ q ∈ s.slots[j].permit, q.unit ≠ p.unit) →
        exec (.minOffExpiry i) s = .next (State.raise .unitRetired { t with
          units := s.units.set p.unit UnitEntry.blank
          link := { s.link with urgent := s.link.urgent.filter fun v => decide (v ≠ p.unit) }
          channels := match channelOf p.unit with
            | some c => s.channels.set c { s.channels[c] with
                calling := false, grantRecorded := false, cycleCounter := 0, callDue := false, testDue := false }
            | none => s.channels })))

/-! ### The meter -/

/-- Every close of a subinterval is the one operation of R78 and hands nothing on: the FREE close, the normal, early (with
SYNC SLIP) and resync close at a mark, and the self-close (with SYNC LOST); a mark in FREE mode acts on nothing (R75 to R78).
That a close withdraws one that the last second tick raised and that has not been taken is the model's choice (log entry 27).
-/
def Obligations.EveryCloseIsTheOneOperation : Prop :=
  ∀ s : State, s.resetHeld = false →
    (s.meter.closeDue = some .free → s.site.syncMode = .free ∨ s.meter.syncLost = true →
      exec .freeClose s = .next s.closed)
    ∧ (s.meter.closeDue = some .selfClose → s.site.syncMode = .meter → s.meter.syncLost = false →
      exec .selfClose s = .next (State.raise .syncLost
        (State.closed { s with meter := { s.meter with syncLost := true } })))
    ∧ (s.meter.eoiDue = true →
      let t : State := { s with meter := { s.meter with eoiDue := false } }
      (s.site.syncMode = .free → exec .eoiMark s = .next t)
      ∧ (s.site.syncMode = .meter → s.meter.syncLost = false → s.site.subLength ≤ s.meter.elapsed + s.site.grace →
        exec .eoiMark s = .next t.closed)
      ∧ (s.site.syncMode = .meter → s.meter.syncLost = false → s.meter.elapsed + s.site.grace < s.site.subLength →
        exec .eoiMark s = .next (t.closed.raise .syncSlip))
      ∧ (s.site.syncMode = .meter → s.meter.syncLost = true →
        exec .eoiMark s = .next (State.closed { t with meter := { t.meter with syncLost := false } })))

/-- An edge of PULSE below the minimum spacing is noise and counts nothing; any other adds the pulse weight, is timed, sets
the meter's state and rate, and runs a shed evaluation. The loss of the meter makes it LOST with rate 0 (R67 to R71, R73,
R74, R124). The edge is tested and timed against e with or without the tick that sampled it (R68; log entry 6). That a
counted pulse withdraws a loss that the last second tick raised is the model's choice (log entry 28). -/
def Obligations.PulsesAreCountedAndTimed : Prop :=
  ∀ (s : State) (tickFirst : Bool), s.resetHeld = false →
    (s.meter.lossDue = true → s.meter.state = .ok → exec .meterLoss s = .next (State.raise .meterLost
      { s with meter := { s.meter with state := .lost, rate := 0, lossDue := false } }))
    ∧ (s.meter.pulseDue = true →
      let e := if tickFirst = true then s.meter.elapsedMs else s.meter.elapsedBefore
      let m : Meter := { s.meter with
        pulseDue := false
        lossDue := false
        energy := min 4294967295 (s.meter.energy + s.site.pulseWeight)
        elapsedMs := some (if tickFirst = true then 0 else 1)
        elapsedBefore := some 0 }
      (∀ n, e = some n → n < s.site.minSpacing → exec (.pulseEdge tickFirst) s = .next (State.raise .meterNoise
        { s with meter := { s.meter with pulseDue := false } }))
      ∧ ((∀ n, e = some n → s.site.minSpacing ≤ n) →
        (s.meter.state = .starting → e = none →
          exec (.pulseEdge tickFirst) s = .next (State.shedEvaluation { s with meter := m }))
        ∧ (∀ n, s.meter.state ≠ .lost → e = some n →
          exec (.pulseEdge tickFirst) s = .next (State.shedEvaluation { s with meter := { m with
            state := .ok
            interval := some (min 4294967295 (max 1 n))
            rate := min 65535 (s.site.pulseWeight * 36000 / min 4294967295 (max 1 n)) } }))
        ∧ (s.meter.state = .lost →
          exec (.pulseEdge tickFirst) s = .next (State.shedEvaluation { s with meter := { m with
            state := .starting, interval := none, ring := [], rolling := 0 } }))))

/-! ### The wired channels -/

/-- A call change is a request event of the wired unit, of the state that the sample read, the other than the one last
presented, whatever SET UNIT has made of the call polarity since: a release stops the stage with reason RELEASED, at once to
RESTING where its minimum run is met; a call restores a DRAINING stage that was RELEASED, and asks for a stage where there is
none; one DRAINING with another reason is not restored, and in a LOCKED or RETIRING unit the call acts on no permit and not
on the queue (R5, R11, R16, R37, R40, R162, R163, R164). The minimum off of what is released is taken as not 0. The output
shows a commanded level of 1 at the level that the drive polarity names, and is not driven without a configured unit (R163)
or while a reset is held (log entry 7). -/
def Obligations.CallChangeReleasesRestoresOrAsks : Prop :=
  (∀ (s : State) (c : ChannelNo),
    (∀ w : WiredFields, s.resetHeld = false → s.configured (channelUnit c) = true → s.wiredFields c = some w →
      s.driveLevel c = some (match w.drivePolarity with
        | .activeHigh => decide (s.level (channelUnit c) = 1)
        | .activeLow => decide (s.level (channelUnit c) ≠ 1)))
    ∧ (s.resetHeld = true ∨ s.configured (channelUnit c) = false → s.driveLevel c = none))
  ∧ (∀ (s : State) (c : ChannelNo), s.tablesSound → s.resetHeld = false → s.channels[c].callDue = true →
    (s.status (channelUnit c)).state = .active →
    let calls := !s.channels[c].calling
    ∃ t, exec (.callChange c) s = .next t ∧ t.channels[c].calling = calls
      ∧ (t.status (channelUnit c)).desired = (if calls = true then 1 else 0)
      ∧ (calls = false → t.queued (channelUnit c) = false)
      ∧ (calls = true → s.hasPermit (channelUnit c) = false → s.hold ≠ .ended → s.queue.length < 16 →
        ∃ e ∈ t.queue, e.unit = channelUnit c ∧ e.wanted = 1)
      ∧ ∀ (i : SlotNo) (p : Permit), s.slots[i].permit = some p → p.unit = channelUnit c →
        (calls = false → p.state = .running → s.minOff p.unit ≠ 0 →
          p.minRunMet = true ∨ s.minRun p.unit ≤ s.slots[i].counter →
          t.driveOutput c = .inactive ∧ t.slots[i] = { s.slots[i] with
            counter := 0, aValue := s.minOff p.unit, aArmed := true, pArmed := false
            permit := some { p with state := .resting, reason := some .released, minRunMet := true, rotationDue := false } })
        ∧ (calls = false → p.state = .running → p.minRunMet = false → s.slots[i].counter < s.minRun p.unit →
          t.driveOutput c = .active ∧ t.slots[i] = { s.slots[i] with
            aValue := s.minRun p.unit, aArmed := true, pArmed := false
            permit := some { p with state := .draining, reason := some .released, rotationDue := false } })
        ∧ (calls = true → p.state = .draining → p.reason = some .released →
          t.driveOutput c = .active ∧ t.slots[i] = { s.slots[i] with
            pValue := s.rotation p.unit
            pArmed := decide (s.rotation p.unit ≠ 0) && decide (s.slots[i].counter < s.rotation p.unit * 64)
            permit := some { p with
              state := .running
              reason := none
              rotationDue := decide (s.rotation p.unit ≠ 0)
                && decide (s.rotation p.unit * 64 ≤ s.slots[i].counter) } })
        ∧ (calls = true → p.state = .draining → p.reason ≠ some .released →
          t.driveOutput c = .active ∧ t.slots[i] = s.slots[i]))
  ∧ ∀ (s : State) (c : ChannelNo), s.tablesSound → s.resetHeld = false → s.channels[c].callDue = true →
    (s.status (channelUnit c)).state = .locked ∨ (s.status (channelUnit c)).state = .retiring →
    let calls := !s.channels[c].calling
    ∃ t, exec (.callChange c) s = .next t ∧ t.queue = s.queue
      ∧ ((s.status (channelUnit c)).state = .locked → t.channels[c].calling = calls
        ∧ (t.status (channelUnit c)).desired = (if calls = true then 1 else 0))
      ∧ ∀ (i : SlotNo) (p : Permit), s.slots[i].permit = some p → p.unit = channelUnit c → p.state.commandedOn = true →
        t.slots[i] = s.slots[i]

/-- The on-limit test of a second tick stops a cycling channel's RUNNING stage with reason CYCLED once the cycle counter has
reached the on-limit, the minimum run going before it, and leaves the shed gate; one that then waits in DRAINING leaves the
start gate too. A channel that does not cycle, or has no RUNNING stage, stops nothing (R164, R166, R167). -/
def Obligations.CycleStopsAtTheOnLimit : Prop :=
  ∀ (s : State) (c : ChannelNo) (w : WiredFields), s.tablesSound → s.resetHeld = false → s.channels[c].testDue = true →
    s.wiredFields c = some w →
    let cycling := (w.cyclingMode = .always ∨ s.shed.demand = .overload ∨ s.shed.threshold.isSome = true)
      ∧ 0 < w.onLimit ∧ w.onLimit < w.cyclePeriod
    (¬ (cycling ∧ s.channels[c].grantRecorded = true ∧ w.onLimit * 60 ≤ s.channels[c].cycleCounter)
        ∨ (∀ (i : SlotNo), ∀ p ∈ s.slots[i].permit, p.unit = channelUnit c → p.state ≠ .running) →
      exec (.cycleOnLimitStop c) s = .next
        { s with channels := s.channels.set c { s.channels[c] with testDue := false } })
    ∧ ∀ (i : SlotNo) (p : Permit), cycling → s.channels[c].grantRecorded = true →
      w.onLimit * 60 ≤ s.channels[c].cycleCounter → s.slots[i].permit = some p → p.unit = channelUnit c →
      p.state = .running → s.minOff p.unit ≠ 0 →
      ∃ t, exec (.cycleOnLimitStop c) s = .next t ∧ t.shedGate = s.shedGate
        ∧ (p.minRunMet = true ∨ s.minRun p.unit ≤ s.slots[i].counter →
          t.driveOutput c = .inactive ∧ t.slots[i] = { s.slots[i] with
            counter := 0, aValue := s.minOff p.unit, aArmed := true, pArmed := false
            permit := some { p with state := .resting, reason := some .cycled, minRunMet := true, rotationDue := false } })
        ∧ (p.minRunMet = false → s.slots[i].counter < s.minRun p.unit →
          t.startGate = s.startGate ∧ t.driveOutput c = .active ∧ t.slots[i] = { s.slots[i] with
            aValue := s.minRun p.unit, aArmed := true, pArmed := false
            permit := some { p with state := .draining, reason := some .cycled, rotationDue := false } })

/-! ### The roof link -/

/-- The end of the gap, or of idling, changes the link alone: it goes IDLE, or a transaction begins with the speed and
timeout of the site record and a poll frame of ten characters built from live state, summing to 0 modulo 256, the line driven
low for its start bit from the beginning of a bit time (R146, R148 to R152; that the bit divider restarts there is DEDUCED,
log entry 24). That an IDLE line is left by this command is the model's reading (log entry 18), so is the code of a reason
CYCLE, which no linked unit's entry carries (log entry 16). -/
def Obligations.GapEndBeginsATransaction : Prop :=
  ∀ s : State, s.resetHeld = false → s.link.line = .gap ∨ s.link.line = .idle →
    let desired := fun u : UnitNo => if (s.status u).condition = .normal then (s.status u).desired else 0
    let answer : UnitNo → List Nat := fun u =>
      if (s.status u).state = .locked ∨ (s.status u).state = .retiring then [3, 0, 0, 0]
      else if desired u ≤ s.level u then [0, 0, 0, 0]
      else match s.queue.find? fun e => decide (e.unit = u) with
        | some e => [1, (match e.reason with
            | .hold => 1 | .gate => 2 | .demand => 3 | .budget => 4 | .table => 5 | .resting => 6 | .curtail => 7
            | .barrier => 8 | .cycle => 0), e.remaining / 256, e.remaining]
        | none => [2, 0, 0, 0]
    let chars : UnitNo → List Nat := fun u => [u.val + 1, 7, 0xA1, s.level u] ++ answer u
      ++ [(if s.shed.demand = .overload then 1 else 0) + (if s.shed.threshold.isSome = true then 2 else 0)
        + (if s.hold ≠ .ended then 4 else 0)]
    ∃ t, exec .linkGapEnd s = .next t ∧ { t with link := s.link } = s
      ∧ (t.link.line = .idle ∧ t.link.transaction = none
        ∨ ∃ (u : UnitNo) (frame : List Byte), t.link.line = .sending ∧ t.link.lineBits = 0 ∧ t.link.bitDivider = 0
          ∧ t.lineDriven = some false
          ∧ t.link.transaction
            = some { unit := u, speed := s.site.linkSpeed, timeout := s.site.replyTimeout, frame := frame }
          ∧ frame.length = 10 ∧ frameSum frame = 0#8
          ∧ frame.take 9 = (chars u).map (BitVec.ofNat 8))

/-- The arbiter's choice: the head of the urgent list; else the next unit of a running silent round; else the next unit of
the poll ring; at a wrap a silent round where the silent list holds a unit, and the ring's lowest unit where it does not; and
at the end of a round the ring's lowest, or with an empty ring a new silent round (R155, R156, R157). That an IDLE line is
left by this command is the model's reading (log entry 18). -/
def Obligations.ArbiterTakesTheFirstClaim : Prop :=
  ∀ s : State, s.resetHeld = false → s.link.line = .gap ∨ s.link.line = .idle →
    let waits := fun (l : LinkCondition) (u : UnitNo) =>
      isWired u = false ∧ s.configured u = true ∧ (s.status u).link = l
    let lowest := fun (l : LinkCondition) (least : Nat) (u : UnitNo) =>
      waits l u ∧ least ≤ u.val ∧ ∀ v : UnitNo, waits l v → least ≤ v.val → u.val ≤ v.val
    let polls := fun (u : UnitNo) (urgent : List UnitNo) (position : Nat) (round : Option UnitNo) =>
      ∃ t, exec .linkGapEnd s = .next t ∧ t.link.transaction.map Transaction.unit = some u ∧ t.link.urgent = urgent
        ∧ t.link.ringPosition = position ∧ t.link.silentRound = round
    (∀ (u : UnitNo) (rest : List UnitNo), s.link.urgent = u :: rest →
      polls u rest s.link.ringPosition s.link.silentRound)
    ∧ (s.link.urgent = [] →
      (∀ last u : UnitNo, s.link.silentRound = some last → lowest .silent (last.val + 1) u →
        polls u [] s.link.ringPosition (some u))
      ∧ (∀ last u : UnitNo, s.link.silentRound = some last → (∀ v : UnitNo, waits .silent v → v.val ≤ last.val) →
        lowest .heard 0 u → polls u [] (u.val + 1) none)
      ∧ (∀ last : UnitNo, s.link.silentRound = some last → (∀ v : UnitNo, waits .silent v → v.val ≤ last.val) →
        (∀ v : UnitNo, ¬ waits .heard v) →
        (∀ u : UnitNo, lowest .silent 0 u → polls u [] 0 (some u))
        ∧ ((∀ v : UnitNo, ¬ waits .silent v) → ∃ t, exec .linkGapEnd s = .next t ∧ t.link.line = .idle))
      ∧ (s.link.silentRound = none →
        (∀ u : UnitNo, lowest .heard s.link.ringPosition u → polls u [] (u.val + 1) none)
        ∧ ((∀ v : UnitNo, waits .heard v → v.val < s.link.ringPosition) →
          (∀ u : UnitNo, lowest .silent 0 u → polls u [] s.link.ringPosition (some u))
          ∧ ((∀ v : UnitNo, ¬ waits .silent v) →
            (∀ u : UnitNo, lowest .heard 0 u → polls u [] (u.val + 1) none)
            ∧ ((∀ v : UnitNo, ¬ waits .heard v) →
              ∃ t, exec .linkGapEnd s = .next t ∧ t.link.line = .idle)))))

/-- What the receiver's events do to the link, and to nothing else: the end of sending, a character of a reply, a framing
error, the line high again (R146, R147, R152, R153; log entry 17 for the eighth character's mark bit). The last three keep
what their last sample of the line found, and the first low sample after a high one begins a start bit. The samples of a
character that is driven whole come to that character, a low pulse too short for the majority of samples 7, 8 and 9 to
nothing, and a low stop bit to a framing error; nothing is heard while SENDING (R146, R147). That a sample is no command, and
a framing error carries its character's mark bit, is the model's choice (log entry 17), and so is that the end of sending
finds the receiver as SENDING found it (log entry 26). -/
def Obligations.CharactersAreTakenIntoTheReply : Prop :=
  let samples := fun (data : Byte) (mark stop : Bool) =>
    (false :: (List.range 8).map (fun i => data.getLsbD i) ++ [mark, stop]).flatMap (List.replicate 16)
  ∀ s : State, s.resetHeld = false →
    (s.link.line = .sending → exec .pollSent s = .next { s with link := { s.link with
      line := .awaiting, reply := [], replyTimer := 0, replyBroken := false } })
    ∧ (∀ (data : Byte) (mark : Bool),
      (s.link.line = .sending ∨ s.link.receiver = .waitingHigh → exec (.characterReceived data mark) s = .next s)
      ∧ (s.link.line ≠ .sending → s.link.receiver ≠ .waitingHigh →
        let l : RoofLink := { s.link with receiver := .waitingStart, lineWasHigh := true }
        exec (.characterReceived data mark) s = .next { s with link :=
          if s.link.line ≠ .awaiting ∨ s.link.replyBroken = true ∨ 8 ≤ s.link.reply.length then l
          else if s.link.reply = [] then (if mark = true then { l with reply := [data] } else l)
          else if mark = true ∧ s.link.reply.length < 7 then { l with replyBroken := true }
          else { l with reply := s.link.reply ++ [data] } }))
    ∧ (s.link.line ≠ .sending → s.link.receiver ≠ .waitingHigh → ∀ mark : Bool,
      exec (.receiverFramingError mark) s = .next { s with link := { s.link with
        receiver := .waitingHigh
        lineWasHigh := false
        replyBroken := s.link.replyBroken
          || decide (s.link.line = .awaiting ∧ (mark = true ∨ s.link.reply ≠ []) ∧ s.link.reply.length < 8) } })
    ∧ (s.link.line ≠ .sending → s.link.receiver = .waitingHigh →
      exec .receiverLineHigh s = .next { s with link := { s.link with receiver := .waitingStart, lineWasHigh := true } }
        ∧ exec .receiverLineHigh s = .next (s.sampleLine true) ∧ s.sampleLine false = { s with link := { s.link with
          lineWasHigh := false } })
    ∧ (s.link.line ≠ .sending → s.link.receiver = .waitingStart → s.sampleLine false = { s with link := { s.link with
      receiver := if s.link.lineWasHigh = true then .inCharacter [false] else .waitingStart
      lineWasHigh := false } })
    ∧ (s.link.line = .sending → ∀ high : Bool, s.sampleLine high = s)
    ∧ (s.link.line ≠ .sending → s.link.receiver = .waitingStart → s.link.lineWasHigh = true →
      (∀ (data : Byte) (mark : Bool),
        exec (.characterReceived data mark) s = .next ((samples data mark true).foldl State.sampleLine s))
      ∧ (∀ n : Nat, n ≤ 7 → (List.replicate n false ++ List.replicate (16 - n) true).foldl State.sampleLine s = s)
      ∧ ∀ (data : Byte) (mark : Bool),
        exec (.receiverFramingError mark) s = .next ((samples data mark false).foldl State.sampleLine s))

/-- A miss: the reply timeout, a reply ended early, or eight characters that fail a test. The gap begins, the miss count
rises to at most 15, and a HEARD unit at the silence count becomes SILENT with UNIT SILENT and loses its queue entry; an
UNCONFIGURED unit's miss is counted for no unit (R13, R152, R153, R154). That the transaction and the phase of the bit
divider end where the gap begins is the model's choice (log entries 24 and 25). That a unit configured again within the
transaction takes its miss is the model's choice (log entry 29). -/
def Obligations.MissesAreCounted : Prop :=
  ∀ (s : State) (c : Instr) (u : UnitNo) (trans : Transaction), s.resetHeld = false → s.link.line = .awaiting →
    s.link.transaction = some trans → trans.unit = u → isWired u = false →
    c = .replyTimeout ∧ trans.timeout ≤ s.link.replyTimer ∧ s.link.reply.length < 8
      ∨ c = .replyEndedEarly ∧ s.link.replyBroken = true
      ∨ c = .reportReceived ∧ s.link.reply.length = 8 ∧ s.link.replyBroken = false
        ∧ ¬ (frameSum s.link.reply = 0#8 ∧ s.link.reply[1]? = some 5#8 ∧ s.link.reply[2]? = some 0xB2#8
          ∧ s.link.reply[0]? = some 0#8 ∧ s.link.reply[3]? = some (BitVec.ofNat 8 (u.val + 1))) →
    let n := min 15 ((s.status u).misses + 1)
    let gap : State := { s with link := { s.link with
      line := .gap, transaction := none, gapSpeed := s.site.linkSpeed, bitDivider := 0, lineBits := 0, reply := [], replyTimer := 0
      replyBroken := false } }
    exec c s = .next (
      if (s.status u).state = .unconfigured then gap
      else if (s.status u).link = .heard ∧ s.site.silenceCount ≤ n then
        State.raise .unitSilent { gap with
          units := s.units.set u { s.units[u] with status := { s.status u with misses := n, link := .silent } }
          queue := s.queue.filter fun e => decide (e.unit ≠ u) }
      else { gap with units := s.units.set u { s.units[u] with status := { s.status u with misses := n } } })

/-- A good report of a configured unit: the gap begins, the miss count is 0, a SILENT unit is HEARD with UNIT BACK, the
levels are recorded as clamped and the condition as reported, and the adoption window is closed. A report of an UNCONFIGURED
unit is discarded (R7, R8, R9, R14, R149, R153, R154). The unit is taken as one that does not retire within its own report.
That the transaction and the phase of the bit divider end where the gap begins is the model's choice (log entries 24 and 25).
That a unit configured again within the transaction takes its report is the model's choice (log entry 29). -/
def Obligations.GoodReportIsRecorded : Prop :=
  ∀ (s : State) (u : UnitNo) (d r x : Byte), s.awaitsWith u (reportFrame u d r x) → isWired u = false →
    ((s.status u).state = .active ∨ (s.status u).state = .locked →
      ∃ t, exec .reportReceived s = .next t ∧ t.link.line = .gap ∧ t.link.transaction = none
        ∧ t.link.gapSpeed = s.site.linkSpeed ∧ t.record u = s.record u
        ∧ (t.status u).state = (s.status u).state ∧ (t.status u).link = .heard ∧ (t.status u).misses = 0
        ∧ (t.status u).desired = min d.toNat (s.stageCount u) ∧ (t.status u).running = min r.toNat (s.stageCount u)
        ∧ (t.status u).condition = (if x = 0#8 then .normal else .tripped) ∧ (t.status u).window = .closed
        ∧ t.raised .unitBack = (s.raised .unitBack || decide ((s.status u).link = .silent)))
    ∧ ((s.status u).state = .unconfigured →
      exec .reportReceived s = .next { s with link := { s.link with
        line := .gap, transaction := none, gapSpeed := s.site.linkSpeed, bitDivider := 0, lineBits := 0, reply := [], replyTimer := 0
        replyBroken := false } })

/-- What a good report does to the permits at or above its running level: with the condition TRIPPED every one that is not
RESTING goes to RESTING with reason TRIPPED and its min-run met kept, and the unit leaves the queue; otherwise the STOPPING
ones complete to RESTING with their reason kept (R10, R32, R34, R38). The minimum off is not 0. -/
def Obligations.ReportTripsOrCompletes : Prop :=
  ∀ (s : State) (u : UnitNo) (d r x : Byte), s.tablesSound → s.awaitsWith u (reportFrame u d r x) → isWired u = false →
    (s.status u).state = .active ∨ (s.status u).state = .locked → s.minOff u ≠ 0 →
    ∃ t, exec .reportReceived s = .next t ∧ (x ≠ 0#8 → t.queued u = false)
      ∧ ∀ (i : SlotNo) (p : Permit), s.slots[i].permit = some p → p.unit = u → min r.toNat (s.stageCount u) ≤ p.stage →
        (x ≠ 0#8 → p.state ≠ .resting →
          t.slots[i] = { s.slots[i] with
            counter := 0, aValue := s.minOff u, aArmed := true, pArmed := false
            permit := some { p with state := .resting, reason := some .tripped, rotationDue := false } })
        ∧ (x = 0#8 → p.state = .stopping →
          t.slots[i] = { s.slots[i] with
            counter := 0, aValue := s.minOff u, aArmed := true, pArmed := false
            permit := some { p with state := .resting, rotationDue := false } })

/-- The stages from the commanded level up that a report shows running. With the window open, or after silence, each becomes
RUNNING and ADOPTED in its own slot or a new one, and is stopped at once with reason LOCKED or RETIRED in a LOCKED or
RETIRING unit; with it closed, a stage without a permit or with a RESTING one is STOPPING with reason UNPERMITTED, and
NONCOMPLIANT is raised. With no FREE slot, a stage without a permit is left over and TABLE FULL is raised: adoption then
leaves every stage above it too, while unpermitted running records the others (R7, R14, R42, R43, R44, R45). The report is
NORMAL and asks for at least what runs, and the unit does not retire in it. -/
def Obligations.ReportAdoptsOrRecordsRunningStages : Prop :=
  ∀ (s : State) (u : UnitNo) (d r : Byte) (k : Nat), s.tablesSound → s.awaitsWith u (reportFrame u d r 0#8) →
    isWired u = false → r.toNat ≤ d.toNat → r.toNat ≤ s.stageCount u → s.level u ≤ k → k < r.toNat →
    (s.status u).state ≠ .retiring ∨ s.minOff u ≠ 0 →
    let adopts := (s.status u).window = .opened ∨ (s.status u).link = .silent
    (4 ≤ s.freeList.length →
      ∃ (t : State) (i : SlotNo) (q : Permit), exec .reportReceived s = .next t ∧ t.slots[i].permit = some q ∧ q.unit = u
        ∧ q.stage = k ∧ some q.rating = s.rating u k
        ∧ (∀ (j : SlotNo), ∀ p ∈ s.slots[j].permit, p.unit = u → p.stage = k → j = i)
        ∧ (adopts →
          ((s.status u).state = .active → q.state = .running ∧ q.origin = .adopted ∧ q.minRunMet = true ∧ q.reason = none
            ∧ q.rotationDue = false ∧ t.slots[i].counter = 0 ∧ t.slots[i].aArmed = false ∧ u ∈ t.link.urgent)
          ∧ (∀ reason, (s.status u).state = .locked ∧ reason = .locked ∨ (s.status u).state = .retiring ∧ reason = .retired →
            q.state = .stopping ∧ q.origin = .adopted ∧ q.reason = some reason
              ∧ t.slots[i].counter = 0 ∧ t.slots[i].aValue = s.site.complianceTimeout ∧ t.slots[i].aArmed = true))
        ∧ (¬ adopts →
          t.raised .noncompliant = true ∧ q.state = .stopping
            ∧ ((∀ (j : SlotNo), ∀ p ∈ s.slots[j].permit, p.unit = u → p.stage = k → p.state = .resting) →
              q.reason = some .unpermitted ∧ q.minRunMet = true ∧ t.slots[i].counter = 0
                ∧ t.slots[i].aValue = s.site.complianceTimeout ∧ t.slots[i].aArmed = true)))
    ∧ (s.freeList = [] → s.minOff u ≠ 0 → (∀ (j : SlotNo), ∀ p ∈ s.slots[j].permit, p.unit = u → p.stage ≠ k) →
      ∃ t, exec .reportReceived s = .next t ∧ t.raised .tableFull = true
        ∧ (∀ (j : SlotNo), ∀ q ∈ t.slots[j].permit, q.unit = u → q.stage ≠ k)
        ∧ (adopts → ∀ (j : SlotNo) (p : Permit), s.slots[j].permit = some p → p.unit = u → k < p.stage →
          p.stage < r.toNat → t.slots[j] = s.slots[j])
        ∧ (¬ adopts → t.raised .noncompliant = true
          ∧ ∀ (j : SlotNo) (p : Permit), s.slots[j].permit = some p → p.unit = u → s.level u ≤ p.stage →
            p.stage < r.toNat → p.state = .resting → t.slots[j] = { s.slots[j] with
              counter := 0, aValue := s.site.complianceTimeout, aArmed := true, pArmed := false
              permit := some { p with
                state := .stopping, reason := some .unpermitted, minRunMet := true, rotationDue := false } }))

/-- A NORMAL report of an ACTIVE unit releases the stages from its desired level up, and restores every DRAINING one with
reason RELEASED below it to RUNNING, with the counter kept and compare P loaded again (R9, R27, R37, R40). One with any other
reason is not restored: it keeps its reason, and it goes on to STOPPING only where its minimum run is met. In a LOCKED or
RETIRING unit the desired level acts on no permit and not on the queue (R16). In an ACTIVE unit the desire step follows: a
unit that wants no more than it is commanded leaves the queue and no pass runs; an entry that holds another wanted level
takes the new one in its place, and a unit without an entry comes in behind its class, each with an admission pass; an entry
that holds the level already changes nothing. With 16 entries standing the last gives way to a class strictly below its own
alone (R12, R112, R113, R114, R116). What runs is no more than what is commanded on. That the restore is taken before the
release's descent is DEDUCED from R40 (log entry 14). -/
def Obligations.ReportReleasesAndRestores : Prop :=
  ∀ (s : State) (u : UnitNo) (d r : Byte), s.tablesSound → s.awaitsWith u (reportFrame u d r 0#8) → isWired u = false →
    r.toNat ≤ s.level u →
    ((s.status u).state = .active → ∀ (i : SlotNo) (p : Permit), s.slots[i].permit = some p → p.unit = u →
      ∃ t, exec .reportReceived s = .next t
        ∧ (d.toNat ≤ p.stage → p.state = .starting ∨ p.state = .running →
          ∃ q, t.slots[i].permit = some q ∧ q.reason = some .released
            ∧ (q.state = .draining ∧ t.slots[i].counter = s.slots[i].counter
              ∨ q.state = .stopping ∧ t.slots[i].counter = 0 ∧ t.slots[i].aValue = s.site.complianceTimeout)
            ∧ (p.minRunMet = false → s.slots[i].counter < s.minRun u →
              q.state = .draining ∧ t.slots[i].aValue = s.minRun u ∧ t.slots[i].aArmed = true))
        ∧ (d.toNat ≤ p.stage → p.state = .draining → ∃ q, t.slots[i].permit = some q ∧ q.reason = p.reason)
        ∧ (p.stage < d.toNat → p.state = .starting ∨ p.state = .running → t.slots[i] = s.slots[i])
        ∧ (p.stage < d.toNat → p.state = .draining → p.reason = some .released →
          t.slots[i] = { s.slots[i] with
            pValue := s.rotation u
            pArmed := decide (s.rotation u ≠ 0) && decide (s.slots[i].counter < s.rotation u * 64)
            permit := some { p with
              state := .running
              reason := none
              rotationDue := decide (s.rotation u ≠ 0) && decide (s.rotation u * 64 ≤ s.slots[i].counter) } })
        ∧ (p.stage < d.toNat → p.state = .draining → p.reason ≠ some .released →
          ∃ q, t.slots[i].permit = some q ∧ q.unit = u ∧ q.stage = p.stage ∧ q.reason = p.reason
            ∧ (q.state = .draining ∧ t.slots[i] = s.slots[i] ∨ q.state = .stopping ∧ p.minRunMet = true)))
    ∧ ((s.status u).state = .locked ∨ (s.status u).state = .retiring →
      ∃ t, exec .reportReceived s = .next t ∧ t.queue = s.queue
        ∧ ∀ (i : SlotNo) (p : Permit), s.slots[i].permit = some p → p.unit = u → p.state.commandedOn = true →
          t.slots[i] = s.slots[i])
    ∧ ((s.status u).state = .active →
      let wanted := min d.toNat (s.stageCount u)
      let entry : QueueEntry :=
        { unit := u, wanted := wanted, cls := s.cls u, skips := 0, reason := .gate, remaining := 0 }
      let placed := fun line : List QueueEntry => (line.filter fun e => decide (e.cls ≤ s.cls u))
        ++ entry :: line.filter fun e => decide (s.cls u < e.cls)
      ∃ before : State, before.level u ≤ s.level u ∧ (s.level u ≤ wanted → before.level u = s.level u)
        ∧ ((∀ (i : SlotNo) (p : Permit), s.slots[i].permit = some p → p.unit = u → p.stage < wanted →
            p.state = .draining → p.reason = some .released) → wanted ≤ s.level u → wanted ≤ before.level u)
        ∧ (wanted ≤ before.level u → exec .reportReceived s = .next before
          ∧ before.queue = s.queue.filter fun e => decide (e.unit ≠ u))
        ∧ (before.level u < wanted →
          (∀ e ∈ s.queue, e.unit = u → e.wanted = wanted → exec .reportReceived s = .next before ∧ before.queue = s.queue)
          ∧ (∀ e ∈ s.queue, e.unit = u → e.wanted ≠ wanted → exec .reportReceived s = .next before.admissionPass
            ∧ before.queue = s.queue.map fun f => if f.unit = u then { f with wanted := wanted } else f)
          ∧ (s.queued u = false → s.queue.length < 16 → exec .reportReceived s = .next before.admissionPass
            ∧ before.queue = placed s.queue)
          ∧ ∀ l, s.queued u = false → 16 ≤ s.queue.length → s.queue.getLast? = some l → before.raised .queueFull = true
            ∧ (s.cls u < l.cls → exec .reportReceived s = .next before.admissionPass
              ∧ before.queue = placed s.queue.dropLast)
            ∧ (l.cls ≤ s.cls u → exec .reportReceived s = .next before ∧ before.queue = s.queue)))

/-! ### Conditions that every step keeps -/

/-- The tables stay sound: the free list holds exactly the FREE slots, a unit's commanded-on permits are those of the stages
below its commanded level, one permit for a stage with the record's rating, every record passes its tests, the queue has at
most 16 entries, one for a unit, by class, of units that are eligible and want more (R2, R4, R21, R23, R24, R85, R110, R111).
-/
def Obligations.TablesStaySound : Prop :=
  ∀ s t : State, s.tablesSound → step s = .next t → t.tablesSound

/-- The rules of stop reasons stay kept: STOPPING and RESTING have min-run met unless FORCED or TRIPPED, a reason stands
exactly in DRAINING, STOPPING and RESTING, and class 0 never carries SHED, CURTAILED or ROTATED (R28, R36, R128). -/
def Obligations.StopRulesStayKept : Prop :=
  (∀ s t : State, s.minimumRunsKept ∧ s.permitFieldsSound → step s = .next t → t.minimumRunsKept ∧ t.permitFieldsSound)
    ∧ ∀ s t : State, s.classZeroSpared ∧ s.tablesSound → step s = .next t → t.classZeroSpared

/-- What is told of one thing by another stays so: the noncompliant flag, the start gate and the hold, the published demand
and the ring, the urgent list, the FREE slots' timers (R33, R53, R56, R61, R64, R79, R98, R156). -/
def Obligations.SmallerConditionsStayKept : Prop :=
  ∀ s t : State, step s = .next t →
    (s.freeListSound ∧ s.complianceSound → t.freeListSound ∧ t.complianceSound)
      ∧ (s.holdAgrees → t.holdAgrees) ∧ (s.ringSound → t.ringSound) ∧ (s.urgentSound → t.urgentSound)
      ∧ (s.slotsSound → t.slotsSound)

/-- The reset state meets every condition that a step keeps. -/
def Obligations.ResetMeetsEveryCondition : Prop :=
  State.reset.tablesSound ∧ State.reset.minimumRunsKept ∧ State.reset.permitFieldsSound ∧ State.reset.classZeroSpared
    ∧ State.reset.complianceSound ∧ State.reset.holdAgrees ∧ State.reset.ringSound ∧ State.reset.urgentSound
    ∧ State.reset.slotsSound
end

