-- ==== Sys2Proof/Laws/State.lean ====
section
/-! SUPPORT. What each update of the state does to each field of it: one lemma per field per update, true by `rfl`. -/

namespace Sys2Proof.Machine

variable (s : State)

/-! ### `State.raise` -/

@[simp] theorem State.raise_timeBase (n : Notice) : (s.raise n).timeBase = s.timeBase := rfl
@[simp] theorem State.raise_units (n : Notice) : (s.raise n).units = s.units := rfl
@[simp] theorem State.raise_slots (n : Notice) : (s.raise n).slots = s.slots := rfl
@[simp] theorem State.raise_freeList (n : Notice) : (s.raise n).freeList = s.freeList := rfl
@[simp] theorem State.raise_startGate (n : Notice) : (s.raise n).startGate = s.startGate := rfl
@[simp] theorem State.raise_openingDue (n : Notice) : (s.raise n).openingDue = s.openingDue := rfl
@[simp] theorem State.raise_shedGate (n : Notice) : (s.raise n).shedGate = s.shedGate := rfl
@[simp] theorem State.raise_meter (n : Notice) : (s.raise n).meter = s.meter := rfl
@[simp] theorem State.raise_queue (n : Notice) : (s.raise n).queue = s.queue := rfl
@[simp] theorem State.raise_shed (n : Notice) : (s.raise n).shed = s.shed := rfl
@[simp] theorem State.raise_link (n : Notice) : (s.raise n).link = s.link := rfl
@[simp] theorem State.raise_channels (n : Notice) : (s.raise n).channels = s.channels := rfl
@[simp] theorem State.raise_panel (n : Notice) :
    (s.raise n).panel = { s.panel with notices := s.panel.notices ||| n.word } := rfl
@[simp] theorem State.raise_site (n : Notice) : (s.raise n).site = s.site := rfl
@[simp] theorem State.raise_store (n : Notice) : (s.raise n).store = s.store := rfl
@[simp] theorem State.raise_hold (n : Notice) : (s.raise n).hold = s.hold := rfl
@[simp] theorem State.raise_resetHeld (n : Notice) : (s.raise n).resetHeld = s.resetHeld := rfl
@[simp] theorem State.raise_pending (n : Notice) : (s.raise n).pending = s.pending := rfl

/-! ### `State.modifyStatus` -/

@[simp] theorem State.modifyStatus_timeBase (u : UnitNo) (f : UnitStatus → UnitStatus) :
    (s.modifyStatus u f).timeBase = s.timeBase := rfl
@[simp] theorem State.modifyStatus_units (u : UnitNo) (f : UnitStatus → UnitStatus) :
    (s.modifyStatus u f).units = s.units.set u { s.units[u] with status := f s.units[u].status } := rfl
@[simp] theorem State.modifyStatus_slots (u : UnitNo) (f : UnitStatus → UnitStatus) :
    (s.modifyStatus u f).slots = s.slots := rfl
@[simp] theorem State.modifyStatus_freeList (u : UnitNo) (f : UnitStatus → UnitStatus) :
    (s.modifyStatus u f).freeList = s.freeList := rfl
@[simp] theorem State.modifyStatus_startGate (u : UnitNo) (f : UnitStatus → UnitStatus) :
    (s.modifyStatus u f).startGate = s.startGate := rfl
@[simp] theorem State.modifyStatus_openingDue (u : UnitNo) (f : UnitStatus → UnitStatus) :
    (s.modifyStatus u f).openingDue = s.openingDue := rfl
@[simp] theorem State.modifyStatus_shedGate (u : UnitNo) (f : UnitStatus → UnitStatus) :
    (s.modifyStatus u f).shedGate = s.shedGate := rfl
@[simp] theorem State.modifyStatus_meter (u : UnitNo) (f : UnitStatus → UnitStatus) :
    (s.modifyStatus u f).meter = s.meter := rfl
@[simp] theorem State.modifyStatus_queue (u : UnitNo) (f : UnitStatus → UnitStatus) :
    (s.modifyStatus u f).queue = s.queue := rfl
@[simp] theorem State.modifyStatus_shed (u : UnitNo) (f : UnitStatus → UnitStatus) :
    (s.modifyStatus u f).shed = s.shed := rfl
@[simp] theorem State.modifyStatus_link (u : UnitNo) (f : UnitStatus → UnitStatus) :
    (s.modifyStatus u f).link = s.link := rfl
@[simp] theorem State.modifyStatus_channels (u : UnitNo) (f : UnitStatus → UnitStatus) :
    (s.modifyStatus u f).channels = s.channels := rfl
@[simp] theorem State.modifyStatus_panel (u : UnitNo) (f : UnitStatus → UnitStatus) :
    (s.modifyStatus u f).panel = s.panel := rfl
@[simp] theorem State.modifyStatus_site (u : UnitNo) (f : UnitStatus → UnitStatus) :
    (s.modifyStatus u f).site = s.site := rfl
@[simp] theorem State.modifyStatus_store (u : UnitNo) (f : UnitStatus → UnitStatus) :
    (s.modifyStatus u f).store = s.store := rfl
@[simp] theorem State.modifyStatus_hold (u : UnitNo) (f : UnitStatus → UnitStatus) :
    (s.modifyStatus u f).hold = s.hold := rfl
@[simp] theorem State.modifyStatus_resetHeld (u : UnitNo) (f : UnitStatus → UnitStatus) :
    (s.modifyStatus u f).resetHeld = s.resetHeld := rfl
@[simp] theorem State.modifyStatus_pending (u : UnitNo) (f : UnitStatus → UnitStatus) :
    (s.modifyStatus u f).pending = s.pending := rfl

/-! ### `State.modifySlot` -/

@[simp] theorem State.modifySlot_timeBase (i : SlotNo) (f : Slot → Slot) :
    (s.modifySlot i f).timeBase = s.timeBase := rfl
@[simp] theorem State.modifySlot_units (i : SlotNo) (f : Slot → Slot) : (s.modifySlot i f).units = s.units := rfl
@[simp] theorem State.modifySlot_slots (i : SlotNo) (f : Slot → Slot) :
    (s.modifySlot i f).slots = s.slots.set i (f s.slots[i]) := rfl
@[simp] theorem State.modifySlot_freeList (i : SlotNo) (f : Slot → Slot) :
    (s.modifySlot i f).freeList = s.freeList := rfl
@[simp] theorem State.modifySlot_startGate (i : SlotNo) (f : Slot → Slot) :
    (s.modifySlot i f).startGate = s.startGate := rfl
@[simp] theorem State.modifySlot_openingDue (i : SlotNo) (f : Slot → Slot) :
    (s.modifySlot i f).openingDue = s.openingDue := rfl
@[simp] theorem State.modifySlot_shedGate (i : SlotNo) (f : Slot → Slot) :
    (s.modifySlot i f).shedGate = s.shedGate := rfl
@[simp] theorem State.modifySlot_meter (i : SlotNo) (f : Slot → Slot) : (s.modifySlot i f).meter = s.meter := rfl
@[simp] theorem State.modifySlot_queue (i : SlotNo) (f : Slot → Slot) : (s.modifySlot i f).queue = s.queue := rfl
@[simp] theorem State.modifySlot_shed (i : SlotNo) (f : Slot → Slot) : (s.modifySlot i f).shed = s.shed := rfl
@[simp] theorem State.modifySlot_link (i : SlotNo) (f : Slot → Slot) : (s.modifySlot i f).link = s.link := rfl
@[simp] theorem State.modifySlot_channels (i : SlotNo) (f : Slot → Slot) :
    (s.modifySlot i f).channels = s.channels := rfl
@[simp] theorem State.modifySlot_panel (i : SlotNo) (f : Slot → Slot) : (s.modifySlot i f).panel = s.panel := rfl
@[simp] theorem State.modifySlot_site (i : SlotNo) (f : Slot → Slot) : (s.modifySlot i f).site = s.site := rfl
@[simp] theorem State.modifySlot_store (i : SlotNo) (f : Slot → Slot) : (s.modifySlot i f).store = s.store := rfl
@[simp] theorem State.modifySlot_hold (i : SlotNo) (f : Slot → Slot) : (s.modifySlot i f).hold = s.hold := rfl
@[simp] theorem State.modifySlot_resetHeld (i : SlotNo) (f : Slot → Slot) :
    (s.modifySlot i f).resetHeld = s.resetHeld := rfl
@[simp] theorem State.modifySlot_pending (i : SlotNo) (f : Slot → Slot) :
    (s.modifySlot i f).pending = s.pending := rfl

/-! ### `State.modifyMeter` -/

@[simp] theorem State.modifyMeter_timeBase (f : Meter → Meter) : (s.modifyMeter f).timeBase = s.timeBase := rfl
@[simp] theorem State.modifyMeter_units (f : Meter → Meter) : (s.modifyMeter f).units = s.units := rfl
@[simp] theorem State.modifyMeter_slots (f : Meter → Meter) : (s.modifyMeter f).slots = s.slots := rfl
@[simp] theorem State.modifyMeter_freeList (f : Meter → Meter) : (s.modifyMeter f).freeList = s.freeList := rfl
@[simp] theorem State.modifyMeter_startGate (f : Meter → Meter) : (s.modifyMeter f).startGate = s.startGate := rfl
@[simp] theorem State.modifyMeter_openingDue (f : Meter → Meter) : (s.modifyMeter f).openingDue = s.openingDue := rfl
@[simp] theorem State.modifyMeter_shedGate (f : Meter → Meter) : (s.modifyMeter f).shedGate = s.shedGate := rfl
@[simp] theorem State.modifyMeter_meter (f : Meter → Meter) : (s.modifyMeter f).meter = f s.meter := rfl
@[simp] theorem State.modifyMeter_queue (f : Meter → Meter) : (s.modifyMeter f).queue = s.queue := rfl
@[simp] theorem State.modifyMeter_shed (f : Meter → Meter) : (s.modifyMeter f).shed = s.shed := rfl
@[simp] theorem State.modifyMeter_link (f : Meter → Meter) : (s.modifyMeter f).link = s.link := rfl
@[simp] theorem State.modifyMeter_channels (f : Meter → Meter) : (s.modifyMeter f).channels = s.channels := rfl
@[simp] theorem State.modifyMeter_panel (f : Meter → Meter) : (s.modifyMeter f).panel = s.panel := rfl
@[simp] theorem State.modifyMeter_site (f : Meter → Meter) : (s.modifyMeter f).site = s.site := rfl
@[simp] theorem State.modifyMeter_store (f : Meter → Meter) : (s.modifyMeter f).store = s.store := rfl
@[simp] theorem State.modifyMeter_hold (f : Meter → Meter) : (s.modifyMeter f).hold = s.hold := rfl
@[simp] theorem State.modifyMeter_resetHeld (f : Meter → Meter) : (s.modifyMeter f).resetHeld = s.resetHeld := rfl
@[simp] theorem State.modifyMeter_pending (f : Meter → Meter) : (s.modifyMeter f).pending = s.pending := rfl

/-! ### `State.modifyLink` -/

@[simp] theorem State.modifyLink_timeBase (f : RoofLink → RoofLink) : (s.modifyLink f).timeBase = s.timeBase := rfl
@[simp] theorem State.modifyLink_units (f : RoofLink → RoofLink) : (s.modifyLink f).units = s.units := rfl
@[simp] theorem State.modifyLink_slots (f : RoofLink → RoofLink) : (s.modifyLink f).slots = s.slots := rfl
@[simp] theorem State.modifyLink_freeList (f : RoofLink → RoofLink) : (s.modifyLink f).freeList = s.freeList := rfl
@[simp] theorem State.modifyLink_startGate (f : RoofLink → RoofLink) : (s.modifyLink f).startGate = s.startGate := rfl
@[simp] theorem State.modifyLink_openingDue (f : RoofLink → RoofLink) :
    (s.modifyLink f).openingDue = s.openingDue := rfl
@[simp] theorem State.modifyLink_shedGate (f : RoofLink → RoofLink) : (s.modifyLink f).shedGate = s.shedGate := rfl
@[simp] theorem State.modifyLink_meter (f : RoofLink → RoofLink) : (s.modifyLink f).meter = s.meter := rfl
@[simp] theorem State.modifyLink_queue (f : RoofLink → RoofLink) : (s.modifyLink f).queue = s.queue := rfl
@[simp] theorem State.modifyLink_shed (f : RoofLink → RoofLink) : (s.modifyLink f).shed = s.shed := rfl
@[simp] theorem State.modifyLink_link (f : RoofLink → RoofLink) : (s.modifyLink f).link = f s.link := rfl
@[simp] theorem State.modifyLink_channels (f : RoofLink → RoofLink) : (s.modifyLink f).channels = s.channels := rfl
@[simp] theorem State.modifyLink_panel (f : RoofLink → RoofLink) : (s.modifyLink f).panel = s.panel := rfl
@[simp] theorem State.modifyLink_site (f : RoofLink → RoofLink) : (s.modifyLink f).site = s.site := rfl
@[simp] theorem State.modifyLink_store (f : RoofLink → RoofLink) : (s.modifyLink f).store = s.store := rfl
@[simp] theorem State.modifyLink_hold (f : RoofLink → RoofLink) : (s.modifyLink f).hold = s.hold := rfl
@[simp] theorem State.modifyLink_resetHeld (f : RoofLink → RoofLink) : (s.modifyLink f).resetHeld = s.resetHeld := rfl
@[simp] theorem State.modifyLink_pending (f : RoofLink → RoofLink) : (s.modifyLink f).pending = s.pending := rfl

/-! ### `State.modifyChannel` -/

@[simp] theorem State.modifyChannel_timeBase (c : ChannelNo) (f : Channel → Channel) :
    (s.modifyChannel c f).timeBase = s.timeBase := rfl
@[simp] theorem State.modifyChannel_units (c : ChannelNo) (f : Channel → Channel) :
    (s.modifyChannel c f).units = s.units := rfl
@[simp] theorem State.modifyChannel_slots (c : ChannelNo) (f : Channel → Channel) :
    (s.modifyChannel c f).slots = s.slots := rfl
@[simp] theorem State.modifyChannel_freeList (c : ChannelNo) (f : Channel → Channel) :
    (s.modifyChannel c f).freeList = s.freeList := rfl
@[simp] theorem State.modifyChannel_startGate (c : ChannelNo) (f : Channel → Channel) :
    (s.modifyChannel c f).startGate = s.startGate := rfl
@[simp] theorem State.modifyChannel_openingDue (c : ChannelNo) (f : Channel → Channel) :
    (s.modifyChannel c f).openingDue = s.openingDue := rfl
@[simp] theorem State.modifyChannel_shedGate (c : ChannelNo) (f : Channel → Channel) :
    (s.modifyChannel c f).shedGate = s.shedGate := rfl
@[simp] theorem State.modifyChannel_meter (c : ChannelNo) (f : Channel → Channel) :
    (s.modifyChannel c f).meter = s.meter := rfl
@[simp] theorem State.modifyChannel_queue (c : ChannelNo) (f : Channel → Channel) :
    (s.modifyChannel c f).queue = s.queue := rfl
@[simp] theorem State.modifyChannel_shed (c : ChannelNo) (f : Channel → Channel) :
    (s.modifyChannel c f).shed = s.shed := rfl
@[simp] theorem State.modifyChannel_link (c : ChannelNo) (f : Channel → Channel) :
    (s.modifyChannel c f).link = s.link := rfl
@[simp] theorem State.modifyChannel_channels (c : ChannelNo) (f : Channel → Channel) :
    (s.modifyChannel c f).channels = s.channels.set c (f s.channels[c]) := rfl
@[simp] theorem State.modifyChannel_panel (c : ChannelNo) (f : Channel → Channel) :
    (s.modifyChannel c f).panel = s.panel := rfl
@[simp] theorem State.modifyChannel_site (c : ChannelNo) (f : Channel → Channel) :
    (s.modifyChannel c f).site = s.site := rfl
@[simp] theorem State.modifyChannel_store (c : ChannelNo) (f : Channel → Channel) :
    (s.modifyChannel c f).store = s.store := rfl
@[simp] theorem State.modifyChannel_hold (c : ChannelNo) (f : Channel → Channel) :
    (s.modifyChannel c f).hold = s.hold := rfl
@[simp] theorem State.modifyChannel_resetHeld (c : ChannelNo) (f : Channel → Channel) :
    (s.modifyChannel c f).resetHeld = s.resetHeld := rfl
@[simp] theorem State.modifyChannel_pending (c : ChannelNo) (f : Channel → Channel) :
    (s.modifyChannel c f).pending = s.pending := rfl

/-! ### `State.dequeue` -/

@[simp] theorem State.dequeue_timeBase (u : UnitNo) : (s.dequeue u).timeBase = s.timeBase := rfl
@[simp] theorem State.dequeue_units (u : UnitNo) : (s.dequeue u).units = s.units := rfl
@[simp] theorem State.dequeue_slots (u : UnitNo) : (s.dequeue u).slots = s.slots := rfl
@[simp] theorem State.dequeue_freeList (u : UnitNo) : (s.dequeue u).freeList = s.freeList := rfl
@[simp] theorem State.dequeue_startGate (u : UnitNo) : (s.dequeue u).startGate = s.startGate := rfl
@[simp] theorem State.dequeue_openingDue (u : UnitNo) : (s.dequeue u).openingDue = s.openingDue := rfl
@[simp] theorem State.dequeue_shedGate (u : UnitNo) : (s.dequeue u).shedGate = s.shedGate := rfl
@[simp] theorem State.dequeue_meter (u : UnitNo) : (s.dequeue u).meter = s.meter := rfl
@[simp] theorem State.dequeue_queue (u : UnitNo) :
    (s.dequeue u).queue = s.queue.filter fun e => decide (e.unit ≠ u) := rfl
@[simp] theorem State.dequeue_shed (u : UnitNo) : (s.dequeue u).shed = s.shed := rfl
@[simp] theorem State.dequeue_link (u : UnitNo) : (s.dequeue u).link = s.link := rfl
@[simp] theorem State.dequeue_channels (u : UnitNo) : (s.dequeue u).channels = s.channels := rfl
@[simp] theorem State.dequeue_panel (u : UnitNo) : (s.dequeue u).panel = s.panel := rfl
@[simp] theorem State.dequeue_site (u : UnitNo) : (s.dequeue u).site = s.site := rfl
@[simp] theorem State.dequeue_store (u : UnitNo) : (s.dequeue u).store = s.store := rfl
@[simp] theorem State.dequeue_hold (u : UnitNo) : (s.dequeue u).hold = s.hold := rfl
@[simp] theorem State.dequeue_resetHeld (u : UnitNo) : (s.dequeue u).resetHeld = s.resetHeld := rfl
@[simp] theorem State.dequeue_pending (u : UnitNo) : (s.dequeue u).pending = s.pending := rfl

/-! ### `State.latch` -/

@[simp] theorem State.latch_timeBase (r : Response) : (s.latch r).timeBase = s.timeBase := rfl
@[simp] theorem State.latch_units (r : Response) : (s.latch r).units = s.units := rfl
@[simp] theorem State.latch_slots (r : Response) : (s.latch r).slots = s.slots := rfl
@[simp] theorem State.latch_freeList (r : Response) : (s.latch r).freeList = s.freeList := rfl
@[simp] theorem State.latch_startGate (r : Response) : (s.latch r).startGate = s.startGate := rfl
@[simp] theorem State.latch_openingDue (r : Response) : (s.latch r).openingDue = s.openingDue := rfl
@[simp] theorem State.latch_shedGate (r : Response) : (s.latch r).shedGate = s.shedGate := rfl
@[simp] theorem State.latch_meter (r : Response) : (s.latch r).meter = s.meter := rfl
@[simp] theorem State.latch_queue (r : Response) : (s.latch r).queue = s.queue := rfl
@[simp] theorem State.latch_shed (r : Response) : (s.latch r).shed = s.shed := rfl
@[simp] theorem State.latch_link (r : Response) : (s.latch r).link = s.link := rfl
@[simp] theorem State.latch_channels (r : Response) : (s.latch r).channels = s.channels := rfl
@[simp] theorem State.latch_panel (r : Response) : (s.latch r).panel = { s.panel with response := r } := rfl
@[simp] theorem State.latch_site (r : Response) : (s.latch r).site = s.site := rfl
@[simp] theorem State.latch_store (r : Response) : (s.latch r).store = s.store := rfl
@[simp] theorem State.latch_hold (r : Response) : (s.latch r).hold = s.hold := rfl
@[simp] theorem State.latch_resetHeld (r : Response) : (s.latch r).resetHeld = s.resetHeld := rfl
@[simp] theorem State.latch_pending (r : Response) : (s.latch r).pending = s.pending := rfl

/-! ### `State.beginGap` -/

@[simp] theorem State.beginGap_timeBase : (s.beginGap).timeBase = s.timeBase := rfl
@[simp] theorem State.beginGap_units : (s.beginGap).units = s.units := rfl
@[simp] theorem State.beginGap_slots : (s.beginGap).slots = s.slots := rfl
@[simp] theorem State.beginGap_freeList : (s.beginGap).freeList = s.freeList := rfl
@[simp] theorem State.beginGap_startGate : (s.beginGap).startGate = s.startGate := rfl
@[simp] theorem State.beginGap_openingDue : (s.beginGap).openingDue = s.openingDue := rfl
@[simp] theorem State.beginGap_shedGate : (s.beginGap).shedGate = s.shedGate := rfl
@[simp] theorem State.beginGap_meter : (s.beginGap).meter = s.meter := rfl
@[simp] theorem State.beginGap_queue : (s.beginGap).queue = s.queue := rfl
@[simp] theorem State.beginGap_shed : (s.beginGap).shed = s.shed := rfl
@[simp] theorem State.beginGap_link :
    (s.beginGap).link =
      { s.link with line := .gap, transaction := none, gapSpeed := s.site.linkSpeed, bitDivider := 0, lineBits := 0, reply := [], replyTimer := 0, replyBroken := false } := rfl
@[simp] theorem State.beginGap_channels : (s.beginGap).channels = s.channels := rfl
@[simp] theorem State.beginGap_panel : (s.beginGap).panel = s.panel := rfl
@[simp] theorem State.beginGap_site : (s.beginGap).site = s.site := rfl
@[simp] theorem State.beginGap_store : (s.beginGap).store = s.store := rfl
@[simp] theorem State.beginGap_hold : (s.beginGap).hold = s.hold := rfl
@[simp] theorem State.beginGap_resetHeld : (s.beginGap).resetHeld = s.resetHeld := rfl
@[simp] theorem State.beginGap_pending : (s.beginGap).pending = s.pending := rfl

/-! ### Reading after an update -/

@[simp] theorem State.status_modifyStatus_same (u : UnitNo) (f : UnitStatus → UnitStatus) :
    (s.modifyStatus u f).status u = f (s.status u) := by simp [State.status]

@[simp] theorem State.status_modifyStatus_other {u v : UnitNo} (f : UnitStatus → UnitStatus) (h : u ≠ v) :
    (s.modifyStatus u f).status v = s.status v := by
  have : (u : Nat) ≠ v := fun e => h (Fin.ext e)
  simp [State.status, this]

@[simp] theorem State.record_modifyStatus (u v : UnitNo) (f : UnitStatus → UnitStatus) :
    (s.modifyStatus u f).record v = s.record v := by
  by_cases h : (u : Nat) = v
  · have : u = v := Fin.ext h
    subst this; simp [State.record]
  · simp [State.record, h]

@[simp] theorem State.slots_modifySlot_same (i : SlotNo) (f : Slot → Slot) :
    (s.modifySlot i f).slots[i] = f s.slots[i] := by simp

@[simp] theorem State.slots_modifySlot_other {i j : SlotNo} (f : Slot → Slot) (h : i ≠ j) :
    (s.modifySlot i f).slots[j] = s.slots[j] := by
  have : (i : Nat) ≠ j := fun e => h (Fin.ext e)
  simp [this]

/-! ### Slots: what each loading and each entry leaves -/

section Slots

variable (sl : Slot) (v : Nat)

@[simp] theorem Slot.loadA_counter : (sl.loadA v).counter = sl.counter := rfl
@[simp] theorem Slot.loadA_aValue : (sl.loadA v).aValue = v := rfl
@[simp] theorem Slot.loadA_aArmed : (sl.loadA v).aArmed = decide (sl.counter < v) := rfl
@[simp] theorem Slot.loadA_permit : (sl.loadA v).permit = sl.permit := rfl
@[simp] theorem Slot.loadP_counter : (sl.loadP v).counter = sl.counter := rfl
@[simp] theorem Slot.loadP_aValue : (sl.loadP v).aValue = sl.aValue := rfl
@[simp] theorem Slot.loadP_aArmed : (sl.loadP v).aArmed = sl.aArmed := rfl
@[simp] theorem Slot.disarmP_counter : sl.disarmP.counter = sl.counter := rfl
@[simp] theorem Slot.disarmP_aValue : sl.disarmP.aValue = sl.aValue := rfl
@[simp] theorem Slot.disarmP_aArmed : sl.disarmP.aArmed = sl.aArmed := rfl
@[simp] theorem Slot.disarmP_pArmed : sl.disarmP.pArmed = false := rfl
@[simp] theorem Slot.enterStopping_counter : (sl.enterStopping v).counter = 0 := rfl
@[simp] theorem Slot.enterStopping_aValue : (sl.enterStopping v).aValue = v := rfl
@[simp] theorem Slot.enterStopping_aArmed : (sl.enterStopping v).aArmed = decide (0 < v) := rfl
@[simp] theorem Slot.enterStopping_pArmed : (sl.enterStopping v).pArmed = false := rfl
@[simp] theorem Slot.enterResting_counter : (sl.enterResting v).counter = 0 := rfl
@[simp] theorem Slot.enterResting_aValue : (sl.enterResting v).aValue = v := rfl
@[simp] theorem Slot.enterResting_aArmed : (sl.enterResting v).aArmed = decide (0 < v) := rfl
@[simp] theorem Slot.enterResting_pArmed : (sl.enterResting v).pArmed = false := rfl
@[simp] theorem Slot.enterRunningAdopted_counter : (sl.enterRunningAdopted v).counter = 0 := rfl
@[simp] theorem Slot.enterRunningAdopted_aArmed : (sl.enterRunningAdopted v).aArmed = false := rfl
@[simp] theorem Slot.enterRunningRestored_counter : (sl.enterRunningRestored v).counter = sl.counter := rfl
@[simp] theorem Slot.enterRunningRestored_aArmed : (sl.enterRunningRestored v).aArmed = sl.aArmed := rfl

/-- The permit that STOPPING leaves: only the state moves, and rotation due is cleared (R31). -/
theorem Slot.enterStopping_permit :
    (sl.enterStopping v).permit = sl.permit.map fun p => { p with state := .stopping, rotationDue := false } := by
  simp [Slot.enterStopping, Slot.disarmP, Slot.loadA, Function.comp_def]

/-- The permit that RESTING leaves: only the state moves, and rotation due is cleared (R34). -/
theorem Slot.enterResting_permit :
    (sl.enterResting v).permit = sl.permit.map fun p => { p with state := .resting, rotationDue := false } := by
  simp [Slot.enterResting, Slot.disarmP, Slot.loadA, Function.comp_def]

/-- The permit that DRAINING leaves: the reason recorded, rotation due cleared, min-run met where the counter has reached
the minimum run (R29). -/
theorem Slot.enterDraining_permit (r : StopReason) :
    (sl.enterDraining r v).permit = sl.permit.map fun p =>
      { p with state := .draining, reason := some r, minRunMet := p.minRunMet || decide (v ≤ sl.counter),
               rotationDue := false } := by
  simp only [Slot.enterDraining, Slot.disarmP]
  split <;> simp [Slot.loadA, Function.comp_def]

/-- DRAINING continues the counter (R54). -/
@[simp] theorem Slot.enterDraining_counter (r : StopReason) : (sl.enterDraining r v).counter = sl.counter := by
  simp only [Slot.enterDraining, Slot.disarmP_counter]; split <;> rfl

/-- Whether a slot is FREE is left by every entry of a permit into a state. -/
theorem Slot.isSome_entries (r : StopReason) (w : Nat) :
    (sl.enterStopping v).permit.isSome = sl.permit.isSome ∧ (sl.enterResting v).permit.isSome = sl.permit.isSome
      ∧ (sl.enterDraining r v).permit.isSome = sl.permit.isSome
      ∧ (sl.enterRunningSettled v w).permit.isSome = sl.permit.isSome
      ∧ (sl.enterRunningRestored v).permit.isSome = sl.permit.isSome
      ∧ (sl.enterRunningAdopted v).permit.isSome = sl.permit.isSome
      ∧ (sl.setReason r).permit.isSome = sl.permit.isSome := by
  refine ⟨?_, ?_, ?_, ?_, ?_, ?_, ?_⟩
  · rw [Slot.enterStopping_permit]; simp
  · rw [Slot.enterResting_permit]; simp
  · rw [Slot.enterDraining_permit]; simp
  all_goals simp [Slot.enterRunningSettled, Slot.enterRunningRestored, Slot.enterRunningAdopted, Slot.setReason,
    Slot.loadP, Slot.loadA]

end Slots

end Sys2Proof.Machine
end

