-- ==== Sys2Proof/Laws/Frames.lean ====
section
/-! SUPPORT. The frames of the shared operations: what the operations over units, permits and the queue leave as it was. -/

namespace Sys2Proof.Machine

/-- Two states with the same time base, Meter Interface, records of the site and the store, hold, reset line, straps,
buffer, response and waiting commands: what no operation over units, permits and the queue changes. -/
structure State.SameBase (s t : State) : Prop where
  timeBase : t.timeBase = s.timeBase
  meter : t.meter = s.meter
  site : t.site = s.site
  store : t.store = s.store
  hold : t.hold = s.hold
  resetHeld : t.resetHeld = s.resetHeld
  straps : t.panel.straps = s.panel.straps
  buffer : t.panel.buffer = s.panel.buffer
  response : t.panel.response = s.panel.response
  pending : t.pending = s.pending

theorem State.SameBase.refl (s : State) : s.SameBase s := ⟨rfl, rfl, rfl, rfl, rfl, rfl, rfl, rfl, rfl, rfl⟩

theorem State.SameBase.trans {s t r : State} (h : s.SameBase t) (k : t.SameBase r) : s.SameBase r :=
  ⟨k.timeBase.trans h.timeBase, k.meter.trans h.meter, k.site.trans h.site, k.store.trans h.store,
   k.hold.trans h.hold, k.resetHeld.trans h.resetHeld, k.straps.trans h.straps, k.buffer.trans h.buffer,
   k.response.trans h.response, k.pending.trans h.pending⟩

/-- A fold over operations that keep the base keeps it. -/
theorem State.SameBase.foldl {α : Type} (f : State → α → State) (hf : ∀ (t : State) (a : α), t.SameBase (f t a)) (l : List α) :
    ∀ s : State, s.SameBase (l.foldl f s) := by
  induction l with
  | nil => exact fun s => .refl s
  | cons a l ih => exact fun s => (hf s a).trans (ih (f s a))

variable (s : State) (u : UnitNo)

/-! ### Plain updates -/

theorem State.raise_base (n : Notice) : s.SameBase (s.raise n) := ⟨rfl, rfl, rfl, rfl, rfl, rfl, rfl, rfl, rfl, rfl⟩

theorem State.raiseIf_base (c : Bool) (n : Notice) : s.SameBase (s.raiseIf c n) := by
  unfold State.raiseIf; split
  · exact s.raise_base n
  · exact .refl s

theorem State.modifyStatus_base (f : UnitStatus → UnitStatus) : s.SameBase (s.modifyStatus u f) :=
  ⟨rfl, rfl, rfl, rfl, rfl, rfl, rfl, rfl, rfl, rfl⟩

theorem State.modifySlot_base (i : SlotNo) (f : Slot → Slot) : s.SameBase (s.modifySlot i f) :=
  ⟨rfl, rfl, rfl, rfl, rfl, rfl, rfl, rfl, rfl, rfl⟩

theorem State.modifyChannel_base (c : ChannelNo) (f : Channel → Channel) : s.SameBase (s.modifyChannel c f) :=
  ⟨rfl, rfl, rfl, rfl, rfl, rfl, rfl, rfl, rfl, rfl⟩

theorem State.modifyLink_base (f : RoofLink → RoofLink) : s.SameBase (s.modifyLink f) :=
  ⟨rfl, rfl, rfl, rfl, rfl, rfl, rfl, rfl, rfl, rfl⟩

theorem State.onChannelOf_base (f : Channel → Channel) : s.SameBase (s.onChannelOf u f) := by
  unfold State.onChannelOf; split
  · exact s.modifyChannel_base _ f
  · exact .refl s

theorem State.joinUrgent_base : s.SameBase (s.joinUrgent u) := by
  unfold State.joinUrgent; split
  · exact .refl s
  · exact ⟨rfl, rfl, rfl, rfl, rfl, rfl, rfl, rfl, rfl, rfl⟩

theorem State.handOver_base (n : Nat) : s.SameBase (s.handOver u n) := by
  unfold State.handOver; split
  · exact .refl s
  · exact s.joinUrgent_base u

/-! ### Freeing, resting, stopping -/

theorem State.completeRetirement_base : s.SameBase (s.completeRetirement u) := by
  unfold State.completeRetirement
  refine State.SameBase.trans ?_ (State.raise_base _ _)
  refine State.SameBase.trans ?_ (State.onChannelOf_base _ _ _)
  exact ⟨rfl, rfl, rfl, rfl, rfl, rfl, rfl, rfl, rfl, rfl⟩

theorem State.retireIfEmpty_base : s.SameBase (s.retireIfEmpty u) := by
  unfold State.retireIfEmpty; split
  · exact s.completeRetirement_base u
  · exact .refl s

theorem State.freeSlot_base (i : SlotNo) : s.SameBase (s.freeSlot u i) := by
  unfold State.freeSlot
  refine State.SameBase.trans ?_ (State.retireIfEmpty_base _ u)
  exact ⟨rfl, rfl, rfl, rfl, rfl, rfl, rfl, rfl, rfl, rfl⟩

theorem State.restSlot_base (i : SlotNo) : s.SameBase (s.restSlot u i) := by
  unfold State.restSlot; split
  · exact s.freeSlot_base u i
  · exact s.modifySlot_base i _

theorem State.stopSlot_base (i : SlotNo) : s.SameBase (s.stopSlot u i) := by
  unfold State.stopSlot; split
  · exact s.restSlot_base u i
  · exact s.modifySlot_base i _

theorem State.restAll_base (l : List SlotNo) : s.SameBase (s.restAll u l) :=
  State.SameBase.foldl _ (fun t i => t.restSlot_base u i) l s

theorem State.settleCompliance_base : s.SameBase (s.settleCompliance u) := by
  unfold State.settleCompliance; split
  · exact .refl s
  · exact s.modifyStatus_base u _

/-- The descent of top order keeps the base (R30). -/
theorem State.descend_base (n : Nat) : ∀ s : State, s.SameBase (s.descend n u) := by
  induction n with
  | zero => exact fun s => .refl s
  | succ n ih =>
    intro s
    unfold State.descend
    split
    · split
      · split
        · exact (s.stopSlot_base u _).trans (ih _)
        · exact .refl s
      · exact .refl s
    · exact .refl s

theorem State.topOrder_base : s.SameBase (s.topOrder u) := State.descend_base u 4 s

/-- The entry into a stop keeps the base (R36). -/
theorem State.enterStop_base (r : StopReason) (stages : Nat → Bool) : s.SameBase (s.enterStop u r stages) :=
  State.SameBase.trans (State.SameBase.foldl _ (fun t i => t.modifySlot_base i _) _ s) (State.topOrder_base _ u)

/-! ### Admission and the queue -/

theorem State.takeFree_base {sl : Slot} {t : State} (h : s.takeFree sl = some t) : s.SameBase t := by
  unfold State.takeFree at h
  split at h
  · cases h
  · cases h; exact ⟨rfl, rfl, rfl, rfl, rfl, rfl, rfl, rfl, rfl, rfl⟩

/-- A grant keeps the base (R99). -/
theorem State.createGrant_base : s.SameBase (s.createGrant u) := by
  unfold State.createGrant
  dsimp only
  split
  · exact .refl s
  · next t h =>
    refine (s.takeFree_base h).trans ?_
    refine State.SameBase.trans ?_ (State.onChannelOf_base _ _ _)
    refine State.SameBase.trans ?_ (State.joinUrgent_base _ _)
    exact ⟨rfl, rfl, rfl, rfl, rfl, rfl, rfl, rfl, rfl, rfl⟩

/-- A state with another queue has the same base. -/
theorem State.withQueue_base (q : List QueueEntry) : s.SameBase { s with queue := q } :=
  ⟨rfl, rfl, rfl, rfl, rfl, rfl, rfl, rfl, rfl, rfl⟩

/-- An admission pass keeps the base (R91). -/
theorem State.admissionPass_base : s.SameBase s.admissionPass := by
  unfold State.admissionPass
  dsimp only
  split
  · exact s.withQueue_base _
  · exact (s.createGrant_base _).trans (State.withQueue_base _ _)

theorem State.dequeue_base : s.SameBase (s.dequeue u) := s.withQueue_base _

theorem State.enqueue_base (d : Nat) : s.SameBase (s.enqueue u d) :=
  (s.withQueue_base _).trans (State.admissionPass_base _)

theorem State.rewant_base (d : Nat) : s.SameBase (s.rewant u d) :=
  (s.withQueue_base _).trans (State.admissionPass_base _)

theorem State.enqueueFull_base (d : Nat) : s.SameBase (s.enqueueFull u d) := by
  unfold State.enqueueFull
  dsimp only
  refine (s.raise_base .queueFull).trans ?_
  split
  · split
    · exact (State.withQueue_base _ _).trans (State.enqueue_base _ _ _)
    · exact .refl _
  · exact .refl _

/-- The desire step keeps the base (R12). -/
theorem State.desireStep_base : s.SameBase (s.desireStep u) := by
  unfold State.desireStep
  dsimp only
  split
  · split
    · split
      · exact .refl s
      · exact s.rewant_base u _
    · split
      · exact s.enqueue_base u _
      · exact s.enqueueFull_base u _
  · exact s.dequeue_base u

theorem State.settleLevel_base (n : Nat) : s.SameBase (s.settleLevel u n) := by
  unfold State.settleLevel
  dsimp only
  split
  · exact (s.handOver_base u n).trans (State.desireStep_base _ _)
  · exact s.handOver_base u n

theorem State.moveByClass_base (c : Nat) : s.SameBase (s.moveByClass u c) := by
  unfold State.moveByClass; split
  · exact s.withQueue_base _
  · exact .refl s

/-! ### The Shed Controller -/

theorem State.stopVictim_base (r : StopReason) (i : SlotNo) : s.SameBase (s.stopVictim r i) := by
  unfold State.stopVictim
  split
  · dsimp only
    refine State.SameBase.trans ?_ (State.settleLevel_base _ _ _)
    refine State.SameBase.trans ?_ (State.enterStop_base _ _ _ _)
    exact ⟨rfl, rfl, rfl, rfl, rfl, rfl, rfl, rfl, rfl, rfl⟩
  · exact .refl s

/-- A shed action keeps the base (R126). -/
theorem State.shedAction_base : s.SameBase s.shedAction := by
  unfold State.shedAction
  split
  · split
    · exact s.stopVictim_base _ _
    · split
      · exact .refl s
      · refine State.SameBase.trans ?_ (State.raise_base _ _)
        exact ⟨rfl, rfl, rfl, rfl, rfl, rfl, rfl, rfl, rfl, rfl⟩
  · split
    · exact s.stopVictim_base _ _
    · split
      · exact s.stopVictim_base _ _
      · exact .refl s

theorem State.moveDemand_base : s.SameBase s.moveDemand := by
  unfold State.moveDemand
  split
  · split
    · exact .refl s
    · refine State.SameBase.trans ?_ (State.raise_base _ _)
      exact ⟨rfl, rfl, rfl, rfl, rfl, rfl, rfl, rfl, rfl, rfl⟩
  · exact ⟨rfl, rfl, rfl, rfl, rfl, rfl, rfl, rfl, rfl, rfl⟩

theorem State.actIfOpen_base : s.SameBase s.actIfOpen := by
  unfold State.actIfOpen; split
  · exact s.shedAction_base
  · exact .refl s

/-- A shed evaluation keeps the base (R124). -/
theorem State.shedEvaluation_base : s.SameBase s.shedEvaluation :=
  s.moveDemand_base.trans (State.actIfOpen_base _)

/-! ### Request events -/

theorem State.trip_base : s.SameBase (s.trip u) := by
  unfold State.trip
  dsimp only
  refine State.SameBase.trans ?_ (State.handOver_base _ _ _)
  refine State.SameBase.trans ?_ (State.topOrder_base _ _)
  refine State.SameBase.trans ?_ (State.settleCompliance_base _ _)
  refine State.SameBase.trans ?_ (State.restAll_base _ _ _)
  exact State.SameBase.foldl _ (fun t i => t.modifySlot_base i _) _ s

theorem State.complete_base (r : Nat) : s.SameBase (s.complete u r) :=
  (s.restAll_base u _).trans (State.settleCompliance_base _ _)

theorem State.adopt_base (l : List Nat) : ∀ s : State, s.SameBase (s.adopt u l) := by
  induction l with
  | nil => exact fun s => .refl s
  | cons k l ih =>
    intro s
    unfold State.adopt
    split
    · exact (s.modifySlot_base _ _).trans (ih _)
    · dsimp only
      split
      · next t h => exact (s.takeFree_base h).trans (ih t)
      · exact s.raise_base _

theorem State.recordUnpermitted_base (k : Nat) : s.SameBase (s.recordUnpermitted u k).1 := by
  unfold State.recordUnpermitted
  extract_lets stop
  split
  · split
    · exact State.modifySlot_base s _ stop
    · exact .refl s
  · split
    · next t h => exact s.takeFree_base h
    · exact .refl s

theorem State.recordAllUnpermitted_base (l : List Nat) :
    ∀ s : State, s.SameBase (s.recordAllUnpermitted u l).1 := by
  induction l with
  | nil => exact fun s => .refl s
  | cons k l ih => exact fun s => (s.recordUnpermitted_base u k).trans (ih _)

theorem State.unpermitted_base (l : List Nat) : s.SameBase (s.unpermitted u l) :=
  ((s.recordAllUnpermitted_base u l).trans (State.raiseIf_base _ _ _)).trans (State.raise_base _ _)

theorem State.adoptStages_base (l r : Nat) : s.SameBase (s.adoptStages u l r) := by
  unfold State.adoptStages
  dsimp only
  have h := ((s.adopt_base u ((List.range r).drop l)).trans (State.settleCompliance_base _ u))
  have k : s.SameBase
      (match (((s.adopt u ((List.range r).drop l)).settleCompliance u).status u).state.stopReason with
        | some reason =>
          ((s.adopt u ((List.range r).drop l)).settleCompliance u).enterStop u reason fun k => decide (l ≤ k)
        | none => (s.adopt u ((List.range r).drop l)).settleCompliance u) := by
    split
    · exact h.trans (State.enterStop_base _ _ _ _)
    · exact h
  split
  · exact k
  · exact k.trans (State.joinUrgent_base _ _)

theorem State.applyRunning_base : s.SameBase (s.applyRunning u) := by
  unfold State.applyRunning
  dsimp only
  have h := s.complete_base u (s.runningLevel u)
  split
  · refine h.trans (State.SameBase.trans ?_ (State.modifyStatus_base _ _ _))
    split
    · split
      · exact State.adoptStages_base _ _ _ _
      · exact State.unpermitted_base _ _ _
    · exact .refl _
  · exact h

theorem State.releaseFrom_base (d : Nat) : s.SameBase (s.releaseFrom u d) := by
  unfold State.releaseFrom
  dsimp only
  split
  · exact (s.enterStop_base u _ _).trans (State.handOver_base _ _ _)
  · exact .refl s

theorem State.restoreBelow_base (d : Nat) : s.SameBase (s.restoreBelow u d) :=
  State.SameBase.foldl _ (fun t i => t.modifySlot_base i _) _ s

theorem State.applyDesired_base : s.SameBase (s.applyDesired u) := by
  unfold State.applyDesired
  split
  · exact (s.restoreBelow_base u _).trans (State.releaseFrom_base _ _ _)
  · exact .refl s

/-- A request event keeps the base (R9). -/
theorem State.requestEvent_base (d r : Nat) (c : Condition) : s.SameBase (s.requestEvent u d r c) := by
  unfold State.requestEvent
  extract_lets s1 s2 s3
  have h1 : s.SameBase s1 := s.modifyStatus_base u _
  have h2 : s.SameBase s2 := by
    dsimp only [s2]; split
    · exact h1.trans (s1.trip_base u)
    · exact h1
  have h3 : s.SameBase s3 := by
    dsimp only [s3]; split
    · exact h2.trans (s2.applyRunning_base u)
    · exact h2
  exact (h3.trans (s3.applyDesired_base u)).trans (State.desireStep_base _ u)

theorem State.callEvent_base (c : ChannelNo) (b : Bool) : s.SameBase (s.callEvent c b) :=
  (s.modifyChannel_base c _).trans (State.requestEvent_base _ _ _ _ _)

/-! ### The roof link's outcomes -/

theorem State.nextTransaction_base : s.SameBase s.nextTransaction := by
  unfold State.nextTransaction
  dsimp only
  split
  · exact (s.modifyLink_base _).trans (State.modifyLink_base _ _)
  · exact (s.modifyLink_base _).trans (State.modifyLink_base _ _)

theorem State.beginGap_base : s.SameBase s.beginGap := s.modifyLink_base _

theorem State.miss_base : s.SameBase (s.miss u) := by
  unfold State.miss
  dsimp only
  split
  · refine State.SameBase.trans ?_ (State.desireStep_base _ _)
    refine State.SameBase.trans ?_ (State.raise_base _ _)
    exact (s.modifyStatus_base u _).trans (State.modifyStatus_base _ _ _)
  · exact s.modifyStatus_base u _

theorem State.missOf_base : s.SameBase (s.missOf u) := by
  unfold State.missOf; split
  · exact s.miss_base u
  · exact .refl s

theorem State.hear_base : s.SameBase (s.hear u) := by
  unfold State.hear
  dsimp only
  split
  · exact ((s.modifyStatus_base u _).trans (State.modifyStatus_base _ _ _)).trans (State.raise_base _ _)
  · exact s.modifyStatus_base u _

theorem State.report_base (l : List Byte) : s.SameBase (s.report u l) := by
  unfold State.report; split
  · exact (s.hear_base u).trans (State.requestEvent_base _ _ _ _ _)
  · exact .refl s

/-! ### The receiver -/

/-- What a character read from its samples does: the receiver waits for a start bit, takes one sample more, or does what one
of the receiver's commands does (R147). -/
theorem RoofLink.takeSamples_cases (l : RoofLink) (samples : List Bool) :
    let waiting : RoofLink := { l with receiver := .waitingStart }
    l.takeSamples samples = waiting ∨ l.takeSamples samples = { l with receiver := .inCharacter samples }
      ∨ (∃ mark, l.takeSamples samples = waiting.framingError mark)
      ∨ ∃ data mark, l.takeSamples samples = waiting.receive data mark := by
  dsimp only [RoofLink.takeSamples]
  split
  · exact .inl rfl
  · split
    · exact .inr (.inl rfl)
    · split
      · exact .inl rfl
      · exact .inr (.inr (.inl ⟨_, rfl⟩))
      · exact .inr (.inr (.inr ⟨_, _, rfl⟩))

/-- The receiver does not listen while the part is SENDING (R146). -/
theorem RoofLink.sampleLine_sending (l : RoofLink) (high : Bool) (h : l.line = .sending) : l.sampleLine high = l := by
  simp [RoofLink.sampleLine, h]

/-- A sample that the receiver hears is the one that the next sample comes after (R147). -/
@[simp] theorem RoofLink.sampleLine_lineWasHigh (l : RoofLink) (high : Bool) (h : l.line ≠ .sending) :
    (l.sampleLine high).lineWasHigh = high := by
  simp [RoofLink.sampleLine, h]

/-- A sample of the line changes the roof link alone. -/
theorem State.sampleLine_base (high : Bool) : s.SameBase (s.sampleLine high) := by
  unfold State.sampleLine State.live; split
  · exact .refl s
  · exact s.modifyLink_base _

/-! ### The store controller's commands to units -/

theorem State.replaceDraining_base (r : StopReason) : s.SameBase (s.replaceDraining u r) :=
  State.SameBase.foldl _ (fun t i => t.modifySlot_base i _) _ s

theorem State.windDown_base (st : UnitState) (r : StopReason) : s.SameBase (s.windDown u st r) := by
  unfold State.windDown
  dsimp only
  refine State.SameBase.trans ?_ (State.desireStep_base _ _)
  refine State.SameBase.trans ?_ (State.handOver_base _ _ _)
  refine State.SameBase.trans ?_ (State.enterStop_base _ _ _ _)
  exact (s.modifyStatus_base u _).trans (State.replaceDraining_base _ _ _)

theorem State.forceRelease_base : s.SameBase (s.forceRelease u) := by
  unfold State.forceRelease
  dsimp only
  refine State.SameBase.trans ?_ (State.settleCompliance_base _ _)
  refine (s.restAll_base u _).trans (State.SameBase.foldl _ (fun t i => ?_) _ _)
  exact (t.modifySlot_base i _).trans (State.stopSlot_base _ _ _)

end Sys2Proof.Machine
end

