-- ==== Sys2Proof/Laws/Operands.lean ====
section
/-! SUPPORT. Numbers and named values on the port: what is written is read again; lengths of the layouts; checks of the
roof link's frames. -/

namespace Sys2Proof.Machine

/-- Two bytes carry a number below 65536 (R173). -/
theorem number2_byte2 {n : Nat} (h : n < 65536) :
    number2 (BitVec.ofNat 8 (n / 256)) (BitVec.ofNat 8 n) = n := by
  simp only [number2, BitVec.toNat_ofNat]
  omega

/-- One byte carries a number below 256 (R173). -/
theorem byte_toNat {n : Nat} (h : n < 256) : (BitVec.ofNat 8 n).toNat = n := by
  simp only [BitVec.toNat_ofNat]
  omega

theorem number2_lt (hi lo : Byte) : number2 hi lo < 65536 := by
  have := hi.isLt
  have := lo.isLt
  unfold number2
  omega

@[simp] theorem Polarity.ofCode_code (x : Polarity) : Polarity.ofCode x.code = some x := by cases x <;> rfl
@[simp] theorem CyclingMode.ofCode_code (x : CyclingMode) : CyclingMode.ofCode x.code = some x := by cases x <;> rfl
@[simp] theorem CountingEdge.ofCode_code (x : CountingEdge) : CountingEdge.ofCode x.code = some x := by cases x <;> rfl
@[simp] theorem SyncMode.ofCode_code (x : SyncMode) : SyncMode.ofCode x.code = some x := by cases x <;> rfl
@[simp] theorem LinkSpeed.ofCode_code (x : LinkSpeed) : LinkSpeed.ofCode x.code = some x := by cases x <;> rfl

theorem Polarity.code_lt (x : Polarity) : x.code < 256 := by cases x <;> decide
theorem CyclingMode.code_lt (x : CyclingMode) : x.code < 256 := by cases x <;> decide
theorem CountingEdge.code_lt (x : CountingEdge) : x.code < 256 := by cases x <;> decide
theorem SyncMode.code_lt (x : SyncMode) : x.code < 256 := by cases x <;> decide
theorem LinkSpeed.code_lt (x : LinkSpeed) : x.code < 256 := by cases x <;> decide

@[simp] theorem byte1_length (n : Nat) : (byte1 n).length = 1 := rfl
@[simp] theorem byte2_length (n : Nat) : (byte2 n).length = 2 := rfl
@[simp] theorem byte3_length (n : Nat) : (byte3 n).length = 3 := rfl
@[simp] theorem byte4_length (n : Nat) : (byte4 n).length = 4 := rfl
@[simp] theorem flagByte_length (b : Bool) : (flagByte b).length = 1 := rfl

/-- The site record is 32 bytes (R173). -/
@[simp] theorem SiteRecord.encode_length (r : SiteRecord) : r.encode.length = 32 := by
  unfold SiteRecord.encode
  simp only [List.length_append, byte1_length, byte2_length]

/-- READ DEMAND's data are 31 bytes (R175). -/
@[simp] theorem State.demandData_length (s : State) : s.demandData.length = 31 := by
  unfold State.demandData
  simp only [List.length_append, byte1_length, byte2_length, byte3_length, byte4_length]

/-- The ratings that were written are read again, with what follows them (R174). -/
theorem takeRatings_flatMap (l : List Nat) (h : ∀ n ∈ l, n < 65536) (tail : List Byte) :
    takeRatings l.length (l.flatMap byte2 ++ tail) = some (l, tail) := by
  induction l with
  | nil => rfl
  | cons n l ih =>
    have hn : n < 65536 := h n List.mem_cons_self
    have hl := ih fun m hm => h m (List.mem_cons_of_mem _ hm)
    simp only [List.length_cons, List.flatMap_cons, byte2, List.cons_append, List.nil_append, takeRatings, hl,
      Option.map_some, number2_byte2 hn]

/-- A frame closed with its check sums to 0 modulo 256 (R148). -/
theorem frameSum_withCheck (body : List Byte) : frameSum (withCheck body) = 0#8 := by
  have sum_append : ∀ a b : List Byte, frameSum (a ++ b) = frameSum a + frameSum b := by
    intro a b
    induction a with
    | nil => simp [frameSum]
    | cons x a ih =>
      simp only [frameSum, List.cons_append, List.foldr_cons] at ih ⊢
      rw [ih, BitVec.add_assoc]
  rw [withCheck, sum_append]
  simp [frameSum]

/-- Every sample list of a driven character is sixteen samples to the bit (R146). -/
theorem drivenSamples_length (data : Byte) (mark : Bool) : (drivenSamples data mark).length = 176 := by
  have sixteen : ∀ l : List Bool, (l.flatMap (List.replicate 16)).length = 16 * l.length := by
    intro l
    induction l with
    | nil => rfl
    | cons a l ih =>
      simp only [List.flatMap_cons, List.length_append, List.length_replicate, ih, List.length_cons]
      omega
  rw [drivenSamples, sixteen]
  simp [characterBits]

end Sys2Proof.Machine
end

