-- ==== Sys2Proof/Laws/PerInstr.lean ====
section
/-! SUPPORT. The per-command family `FitsCommandBuffer`: a well-formed command that the store controller writes fits the
port's command buffer. One lemma per constructor. -/

namespace Sys2Proof.Laws.FitsCommandBuffer

/-- A well-formed command that the store controller writes carries at most 40 bytes (R171). -/
def Statement (i : Instr) : Prop :=
  i.wellFormed = true → ∀ bytes ∈ encodeWrite i, bytes.length ≤ Config.bufferCapacity

theorem setUnit (params : List Byte) : Statement (.setUnit params) := by
  intro h bytes hb
  simp only [Instr.wellFormed, Bool.and_eq_true, decide_eq_true_eq] at h
  cases hb
  simp only [List.length_cons]
  omega

theorem getUnit (unit : Byte) : Statement (.getUnit unit) := by
  intro _ bytes hb
  cases hb
  exact Nat.le_of_ble_eq_true rfl

theorem readUnitStatus (unit : Byte) : Statement (.readUnitStatus unit) := by
  intro _ bytes hb
  cases hb
  exact Nat.le_of_ble_eq_true rfl

theorem lockUnit (unit : Byte) : Statement (.lockUnit unit) := by
  intro _ bytes hb
  cases hb
  exact Nat.le_of_ble_eq_true rfl

theorem unlockUnit (unit : Byte) : Statement (.unlockUnit unit) := by
  intro _ bytes hb
  cases hb
  exact Nat.le_of_ble_eq_true rfl

theorem retireUnit (unit : Byte) : Statement (.retireUnit unit) := by
  intro _ bytes hb
  cases hb
  exact Nat.le_of_ble_eq_true rfl

theorem releaseUnit (unit : Byte) : Statement (.releaseUnit unit) := by
  intro _ bytes hb
  cases hb
  exact Nat.le_of_ble_eq_true rfl

theorem setSite (params : List Byte) : Statement (.setSite params) := by
  intro h bytes hb
  simp only [Instr.wellFormed, decide_eq_true_eq] at h
  cases hb
  simp only [List.length_cons, h, Config.bufferCapacity]
  omega

theorem getSite : Statement .getSite := by
  intro _ bytes hb
  cases hb
  exact Nat.le_of_ble_eq_true rfl

theorem setLimit (limit margin : BitVec 16) : Statement (.setLimit limit margin) := by
  intro _ bytes hb
  cases hb
  exact Nat.le_of_ble_eq_true rfl

theorem curtail (threshold : Byte) : Statement (.curtail threshold) := by
  intro _ bytes hb
  cases hb
  exact Nat.le_of_ble_eq_true rfl

theorem readDemand : Statement .readDemand := by
  intro _ bytes hb
  cases hb
  exact Nat.le_of_ble_eq_true rfl

theorem resetPeak : Statement .resetPeak := by
  intro _ bytes hb
  cases hb
  exact Nat.le_of_ble_eq_true rfl

theorem readPermit (slot : Byte) : Statement (.readPermit slot) := by
  intro _ bytes hb
  cases hb
  exact Nat.le_of_ble_eq_true rfl

theorem readQueue : Statement .readQueue := by
  intro _ bytes hb
  cases hb
  exact Nat.le_of_ble_eq_true rfl

theorem readNotices : Statement .readNotices := by
  intro _ bytes hb
  cases hb
  exact Nat.le_of_ble_eq_true rfl

theorem save : Statement .save := by
  intro _ bytes hb
  cases hb
  exact Nat.le_of_ble_eq_true rfl

theorem saveEnd : Statement .saveEnd := by
  intro _ bytes hb
  cases hb

theorem restart : Statement .restart := by
  intro _ bytes hb
  cases hb
  exact Nat.le_of_ble_eq_true rfl

theorem panelWrite (address : BitVec 7) (bytes : List Byte) (broken : Bool) : Statement (.panelWrite address bytes broken) := by
  intro _ bytes hb
  cases hb

theorem powerOnReset (straps : BitVec 2) : Statement (.powerOnReset straps) := by
  intro _ bytes hb
  cases hb

theorem secondTick (order : List TickItem) : Statement (.secondTick order) := by
  intro _ bytes hb
  cases hb

theorem settleExpiry (slot : SlotNo) : Statement (.settleExpiry slot) := by
  intro _ bytes hb
  cases hb

theorem minRunExpiry (slot : SlotNo) : Statement (.minRunExpiry slot) := by
  intro _ bytes hb
  cases hb

theorem drainingMinRunExpiry (slot : SlotNo) : Statement (.drainingMinRunExpiry slot) := by
  intro _ bytes hb
  cases hb

theorem rotationExpiry (slot : SlotNo) : Statement (.rotationExpiry slot) := by
  intro _ bytes hb
  cases hb

theorem complianceExpiry (slot : SlotNo) : Statement (.complianceExpiry slot) := by
  intro _ bytes hb
  cases hb

theorem minOffExpiry (slot : SlotNo) : Statement (.minOffExpiry slot) := by
  intro _ bytes hb
  cases hb

theorem startGateOpening : Statement .startGateOpening := by
  intro _ bytes hb
  cases hb

theorem shedGateOpening : Statement .shedGateOpening := by
  intro _ bytes hb
  cases hb

theorem restartHoldEnd : Statement .restartHoldEnd := by
  intro _ bytes hb
  cases hb

theorem meterLoss : Statement .meterLoss := by
  intro _ bytes hb
  cases hb

theorem freeClose : Statement .freeClose := by
  intro _ bytes hb
  cases hb

theorem selfClose : Statement .selfClose := by
  intro _ bytes hb
  cases hb

theorem eoiMark : Statement .eoiMark := by
  intro _ bytes hb
  cases hb

theorem pulseEdge (tickFirst : Bool) : Statement (.pulseEdge tickFirst) := by
  intro _ bytes hb
  cases hb

theorem callChange (channel : ChannelNo) : Statement (.callChange channel) := by
  intro _ bytes hb
  cases hb

theorem cycleOnLimitStop (channel : ChannelNo) : Statement (.cycleOnLimitStop channel) := by
  intro _ bytes hb
  cases hb

theorem linkGapEnd : Statement .linkGapEnd := by
  intro _ bytes hb
  cases hb

theorem pollSent : Statement .pollSent := by
  intro _ bytes hb
  cases hb

theorem reportReceived : Statement .reportReceived := by
  intro _ bytes hb
  cases hb

theorem replyEndedEarly : Statement .replyEndedEarly := by
  intro _ bytes hb
  cases hb

theorem replyTimeout : Statement .replyTimeout := by
  intro _ bytes hb
  cases hb

theorem millisecondTick (inputs : InputLevels) : Statement (.millisecondTick inputs) := by
  intro _ bytes hb
  cases hb

theorem characterReceived (data : Byte) (mark : Bool) : Statement (.characterReceived data mark) := by
  intro _ bytes hb
  cases hb

theorem receiverFramingError (mark : Bool) : Statement (.receiverFramingError mark) := by
  intro _ bytes hb
  cases hb

theorem receiverLineHigh : Statement .receiverLineHigh := by
  intro _ bytes hb
  cases hb

theorem resetAsserted : Statement .resetAsserted := by
  intro _ bytes hb
  cases hb

end Sys2Proof.Laws.FitsCommandBuffer
end

