-- ==== Sys2Proof/Laws/Permits.lean ====
section
/-! SUPPORT. The Permit Table's shared operations: which slots they find, what freeing leaves, and that the stops of a unit
reach the slots of that unit alone. -/

namespace Sys2Proof.Machine

variable (s : State) (u : UnitNo)

/-- A slot holds a permit of a unit with a property. -/
theorem State.holds_iff (f : Permit → Bool) (i : SlotNo) :
    s.holds u f i = true ↔ ∃ p, s.slots[i].permit = some p ∧ p.unit = u ∧ f p = true := by
  unfold State.holds
  split
  · next p h => rw [Fin.getElem_fin] at h; simp [h]
  · next h => rw [Fin.getElem_fin] at h; simp [h]

/-- The slots found of a unit are those that hold a permit of it with the property. -/
theorem State.mem_slotsOf (f : Permit → Bool) (i : SlotNo) :
    i ∈ s.slotsOf u f ↔ ∃ p, s.slots[i].permit = some p ∧ p.unit = u ∧ f p = true := by
  simp [State.slotsOf, allSlots, s.holds_iff]

/-- A slot is found once. -/
theorem State.slotsOf_nodup (f : Permit → Bool) : (s.slotsOf u f).Nodup :=
  (List.nodup_finRange 96).filter _

/-- The slot found at a stage of a unit holds a permit of that unit and stage. -/
theorem State.slotAt_some {k : Nat} {i : SlotNo} (h : s.slotAt u k = some i) :
    ∃ p, s.slots[i].permit = some p ∧ p.unit = u ∧ p.stage = k := by
  have := List.find?_some h
  rw [s.holds_iff] at this
  simpa using this

/-- The slot of a unit's top stage holds a commanded-on permit at stage L − 1 (R30). -/
theorem State.topSlot_some {i : SlotNo} (h : s.topSlot u = some i) :
    ∃ p, s.slots[i].permit = some p ∧ p.unit = u ∧ p.stage + 1 = s.level u ∧ p.state.commandedOn = true := by
  unfold State.topSlot at h
  split at h
  · cases h
  · next l hl =>
    have := List.find?_some h
    rw [s.holds_iff] at this
    obtain ⟨p, hp, hu, hs⟩ := this
    simp only [Bool.and_eq_true, decide_eq_true_eq] at hs
    exact ⟨p, hp, hu, by omega, hs.2⟩

/-! ### What freeing and retirement leave -/

theorem State.onChannelOf_slots (f : Channel → Channel) : (s.onChannelOf u f).slots = s.slots := by
  unfold State.onChannelOf; split <;> rfl

theorem State.onChannelOf_freeList (f : Channel → Channel) : (s.onChannelOf u f).freeList = s.freeList := by
  unfold State.onChannelOf; split <;> rfl

theorem State.joinUrgent_slots : (s.joinUrgent u).slots = s.slots := by
  unfold State.joinUrgent; split <;> rfl

theorem State.joinUrgent_freeList : (s.joinUrgent u).freeList = s.freeList := by
  unfold State.joinUrgent; split <;> rfl

theorem State.completeRetirement_slots : (s.completeRetirement u).slots = s.slots := by
  unfold State.completeRetirement
  rw [State.raise_slots, State.onChannelOf_slots]

theorem State.completeRetirement_freeList : (s.completeRetirement u).freeList = s.freeList := by
  unfold State.completeRetirement
  rw [State.raise_freeList, State.onChannelOf_freeList]

theorem State.retireIfEmpty_slots : (s.retireIfEmpty u).slots = s.slots := by
  unfold State.retireIfEmpty; split
  · exact s.completeRetirement_slots u
  · rfl

theorem State.retireIfEmpty_freeList : (s.retireIfEmpty u).freeList = s.freeList := by
  unfold State.retireIfEmpty; split
  · exact s.completeRetirement_freeList u
  · rfl

/-- A slot freed is FREE, and at the tail of the free list (R35). -/
theorem State.freeSlot_slots (i : SlotNo) : (s.freeSlot u i).slots = s.slots.set i .free := by
  unfold State.freeSlot; rw [State.retireIfEmpty_slots]

theorem State.freeSlot_freeList (i : SlotNo) : (s.freeSlot u i).freeList = s.freeList ++ [i] := by
  unfold State.freeSlot; rw [State.retireIfEmpty_freeList]

/-! ### Stops reach one unit alone -/

/-- Two states whose slots differ only where a permit of the unit stood; what stands there now is FREE or of the unit. -/
def State.OnlyUnit (u : UnitNo) (s t : State) : Prop :=
  ∀ j : SlotNo, t.slots[j] = s.slots[j]
    ∨ (∃ p, s.slots[j].permit = some p ∧ p.unit = u) ∧ ∀ p, t.slots[j].permit = some p → p.unit = u

theorem State.OnlyUnit.refl : s.OnlyUnit u s := fun _ => .inl rfl

theorem State.OnlyUnit.trans {u : UnitNo} {s t r : State} (h : State.OnlyUnit u s t) (k : State.OnlyUnit u t r) :
    State.OnlyUnit u s r := by
  intro j
  rcases h j with h1 | ⟨h1, h2⟩
  · rcases k j with k1 | ⟨k1, k2⟩
    · exact .inl (k1.trans h1)
    · exact .inr ⟨h1 ▸ k1, k2⟩
  · rcases k j with k1 | ⟨_, k2⟩
    · exact .inr ⟨h1, k1 ▸ h2⟩
    · exact .inr ⟨h1, k2⟩

/-- A change of one slot that holds a permit of the unit, and leaves it FREE or of the unit, reaches the unit alone. -/
theorem State.OnlyUnit.of_set {s t : State} {i : SlotNo} {sl : Slot} (ht : t.slots = s.slots.set i sl)
    (hi : ∃ p, s.slots[i].permit = some p ∧ p.unit = u) (hs : ∀ p, sl.permit = some p → p.unit = u) :
    State.OnlyUnit u s t := by
  intro j
  by_cases h : (i : Nat) = j
  · have : i = j := Fin.ext h
    subst this
    exact .inr ⟨hi, by simpa [ht] using hs⟩
  · exact .inl (by simp [ht, h])

/-- RESTING reaches the slot's unit alone (R34). -/
theorem State.restSlot_only (i : SlotNo) (hi : ∃ p, s.slots[i].permit = some p ∧ p.unit = u) :
    State.OnlyUnit u s (s.restSlot u i) := by
  unfold State.restSlot
  split
  · exact .of_set u (s.freeSlot_slots u i) hi (fun _ h => by simp [Slot.free] at h)
  · refine .of_set u rfl hi fun p hp => ?_
    rw [Slot.enterResting_permit] at hp
    obtain ⟨q, hq, rfl⟩ := Option.map_eq_some_iff.mp hp
    obtain ⟨q', hq', hu⟩ := hi
    rw [hq'] at hq
    cases hq
    exact hu

/-- STOPPING reaches the slot's unit alone (R31). -/
theorem State.stopSlot_only (i : SlotNo) (hi : ∃ p, s.slots[i].permit = some p ∧ p.unit = u) :
    State.OnlyUnit u s (s.stopSlot u i) := by
  unfold State.stopSlot
  split
  · exact s.restSlot_only u i hi
  · refine .of_set u rfl hi fun p hp => ?_
    rw [Slot.enterStopping_permit] at hp
    obtain ⟨q, hq, rfl⟩ := Option.map_eq_some_iff.mp hp
    obtain ⟨q', hq', hu⟩ := hi
    rw [hq'] at hq
    cases hq
    exact hu

/-- One turn of the descent: either it ends, or the unit's top permit is DRAINING with min-run met and goes on (R30). -/
theorem State.descend_cases (n : Nat) :
    s.descend (n + 1) u = s ∨
      ∃ i p, s.topSlot u = some i ∧ s.slots[i].permit = some p ∧ p.unit = u ∧ p.state = .draining
        ∧ p.minRunMet = true ∧ s.descend (n + 1) u = (s.stopSlot u i).descend n u := by
  rw [State.descend]
  split
  · next i hi =>
    split
    · next p hp =>
      split
      · next h =>
        simp only [Bool.and_eq_true, decide_eq_true_eq] at h
        obtain ⟨q, hq, hu, -, -⟩ := s.topSlot_some u hi
        rw [hp] at hq
        cases hq
        exact .inr ⟨i, p, hi, hp, hu, h.1, h.2, rfl⟩
      · exact .inl rfl
    · exact .inl rfl
  · exact .inl rfl

/-- Top order reaches the unit alone (R30). -/
theorem State.descend_only (n : Nat) : ∀ s : State, State.OnlyUnit u s (s.descend n u) := by
  induction n with
  | zero => exact fun s => .refl s u
  | succ n ih =>
    intro s
    rcases s.descend_cases u n with h | ⟨i, p, -, hp, hu, -, -, h⟩
    · rw [h]; exact .refl s u
    · rw [h]; exact (s.stopSlot_only u i ⟨p, hp, hu⟩).trans (ih _)

theorem State.topOrder_only : State.OnlyUnit u s (s.topOrder u) := s.descend_only u 4

end Sys2Proof.Machine
end

