-- ==== Sys2Proof/Laws/Queue.lean ====
section
/-! SUPPORT. The walk of an admission pass, the grant and the insertion by class, each said once. -/

namespace Sys2Proof.Machine

/-- The entries that a walk gives back, in queue order. -/
def Walk.entries (w : Walk) : List QueueEntry := w.front ++ w.granted.toList ++ w.behind

/-- What a pass writes into an entry it does not grant: its reason and remaining seconds alone (R90, R101). -/
def QueueEntry.sameBut (e f : QueueEntry) : Prop :=
  f.unit = e.unit ∧ f.wanted = e.wanted ∧ f.cls = e.cls ∧ f.skips = e.skips

theorem QueueEntry.untested_sameBut (r : WaitReason) (e : QueueEntry) : e.sameBut (e.untested r) :=
  ⟨rfl, rfl, rfl, rfl⟩

/-- A walk keeps the queue's entries in their order, each with its unit, wanted level, class copy and skip count. -/
theorem State.walk_entries (s : State) (q : List QueueEntry) :
    List.Forall₂ QueueEntry.sameBut q (s.walk q).entries := by
  have untested : ∀ (r : WaitReason) (l : List QueueEntry), List.Forall₂ QueueEntry.sameBut l (l.map (.untested r)) := by
    intro r l
    induction l with
    | nil => exact .nil
    | cons e l ih => exact .cons (e.untested_sameBut r) ih
  induction q with
  | nil => exact .nil
  | cons e q ih =>
    unfold State.walk
    split
    · exact .cons ⟨rfl, rfl, rfl, rfl⟩ (untested .gate q)
    · dsimp only
      split
      · exact .cons ⟨rfl, rfl, rfl, rfl⟩ (untested .barrier q)
      · exact .cons ⟨rfl, rfl, rfl, rfl⟩ ih

/-- The entry that a walk grants is one of the queue's, and no check holds for it (R91, R99). -/
theorem State.walk_granted (s : State) {q : List QueueEntry} {e : QueueEntry} (h : (s.walk q).granted = some e) :
    e ∈ q ∧ s.obstacle e = none := by
  induction q with
  | nil => simp [State.walk] at h
  | cons f q ih =>
    unfold State.walk at h
    split at h
    · next ho =>
      cases h
      exact ⟨List.mem_cons_self, ho⟩
    · dsimp only at h
      split at h
      · cases h
      · exact ⟨List.mem_cons_of_mem _ (ih h).1, (ih h).2⟩

/-- No check of a pass holds only with the hold ended, a free slot, the start gate OPEN and no permit at the candidate
stage (R91 to R98). -/
theorem State.obstacle_none (s : State) {e : QueueEntry} (h : s.obstacle e = none) :
    s.holdRunning = false ∧ s.startGate = .opened ∧ s.freeList ≠ [] ∧ s.slotAt e.unit (s.level e.unit) = none := by
  unfold State.obstacle at h
  split at h
  · cases h
  · next h1 =>
    split at h
    · cases h
    · split at h
      · cases h
      · split at h
        · cases h
        · next h2 =>
          split at h
          · cases h
          · next h3 =>
            split at h
            · cases h
            · split at h
              · next h4 =>
                refine ⟨by simpa using h1, h4, ?_, ?_⟩
                · simpa [List.isEmpty_iff] using h3
                · simpa [State.restingAt] using h2
              · cases h

/-- A pass with the restart hold running or the start gate not OPEN grants nothing: it writes reasons and remaining
seconds alone (R90, R92, R98). -/
theorem State.admissionPass_closed (s : State) (h : s.holdRunning = true ∨ s.startGate ≠ .opened) :
    s.admissionPass = { s with queue := (s.walk s.queue).front ++ (s.walk s.queue).behind } := by
  unfold State.admissionPass
  dsimp only
  split
  · rfl
  · next e he =>
    have := s.obstacle_none (s.walk_granted he).2
    rcases h with h | h
    · simp [this.1] at h
    · exact absurd this.2.1 h

/-- What a grant leaves: the head of the free list holds the new permit, and the start gate is closed with the start
spacing plus one (R60, R99). -/
theorem State.createGrant_slots (s : State) (u : UnitNo) {i : SlotNo} {rest : List SlotNo}
    (h : s.freeList = i :: rest) :
    (s.createGrant u).slots = s.slots.set i (Slot.granted u (s.level u) ((s.rating u (s.level u)).getD 0)
        s.site.settleTime (s.minRun u) (s.rotation u))
      ∧ (s.createGrant u).freeList = rest
      ∧ (s.createGrant u).startGate = .counting (s.site.startSpacing + 1)
      ∧ (s.createGrant u).queue = s.queue := by
  have channel : ∀ (f : Channel → Channel) (t : State), (t.onChannelOf u f).slots = t.slots
      ∧ (t.onChannelOf u f).freeList = t.freeList ∧ (t.onChannelOf u f).startGate = t.startGate
      ∧ (t.onChannelOf u f).queue = t.queue := by
    intro f t
    unfold State.onChannelOf
    split <;> exact ⟨rfl, rfl, rfl, rfl⟩
  have urgent : ∀ t : State, (t.joinUrgent u).slots = t.slots ∧ (t.joinUrgent u).freeList = t.freeList
      ∧ (t.joinUrgent u).startGate = t.startGate ∧ (t.joinUrgent u).queue = t.queue := by
    intro t
    unfold State.joinUrgent
    split <;> exact ⟨rfl, rfl, rfl, rfl⟩
  unfold State.createGrant
  simp only [State.takeFree, h]
  refine ⟨?_, ?_, ?_, ?_⟩
  · rw [(channel _ _).1, (urgent _).1]
  · rw [(channel _ _).2.1, (urgent _).2.1]
  · rw [(channel _ _).2.2.1, (urgent _).2.2.1]
  · rw [(channel _ _).2.2.2, (urgent _).2.2.2]

/-- An insertion adds the entry and keeps every other (R111). -/
theorem insertByClass_perm (e : QueueEntry) (q : List QueueEntry) : (insertByClass e q).Perm (e :: q) := by
  induction q with
  | nil => exact .refl _
  | cons f q ih =>
    unfold insertByClass
    split
    · exact .refl _
    · exact (List.Perm.cons f ih).trans (.swap e f q)

/-- An insertion puts the entry behind every entry whose class copy is at or below its own and in front of the others, in a
queue that stands by class (R111). -/
theorem insertByClass_eq (e : QueueEntry) {q : List QueueEntry} (h : (q.map QueueEntry.cls).Pairwise (· ≤ ·)) :
    insertByClass e q = q.filter (fun f => decide (f.cls ≤ e.cls)) ++ e :: q.filter fun f => decide (e.cls < f.cls) := by
  induction q with
  | nil => rfl
  | cons f q ih =>
    simp only [List.map_cons, List.pairwise_cons] at h
    unfold insertByClass
    split
    · next hlt =>
      have above : ∀ g ∈ f :: q, e.cls < g.cls := by
        intro g hg
        rcases List.mem_cons.mp hg with rfl | hg
        · exact hlt
        · exact Nat.lt_of_lt_of_le hlt (h.1 g.cls (List.mem_map_of_mem hg))
      rw [List.filter_eq_nil_iff.mpr (fun g hg => by have := above g hg; simp; omega),
        List.filter_eq_self.mpr (fun g hg => by simpa using above g hg)]
      rfl
    · next hge =>
      rw [ih h.2]
      simp [hge, Nat.not_lt.mp hge]

end Sys2Proof.Machine
end

