-- ==== Sys2Proof/Laws/Ticks.lean ====
section
/-! SUPPORT. What the slot counters do at a second tick, and a crystal cycle at the link. -/

namespace Sys2Proof.Machine

/-- The slot counters taking the tick write the counters and the remaining seconds of the entries that wait on a rest, and
nothing else (R53, R95). -/
theorem State.takePart_slotCounters (s : State) :
    s.takePart .slotCounters
      = { s with slots := Vector.ofFn fun i => s.slots[i].tick, queue := s.queue.map QueueEntry.restTick } := rfl

@[simp] theorem QueueEntry.restTick_unit (e : QueueEntry) : e.restTick.unit = e.unit := by unfold restTick; split <;> rfl
@[simp] theorem QueueEntry.restTick_wanted (e : QueueEntry) : e.restTick.wanted = e.wanted := by unfold restTick; split <;> rfl
@[simp] theorem QueueEntry.restTick_cls (e : QueueEntry) : e.restTick.cls = e.cls := by unfold restTick; split <;> rfl
@[simp] theorem QueueEntry.restTick_skips (e : QueueEntry) : e.restTick.skips = e.skips := by unfold restTick; split <;> rfl
@[simp] theorem QueueEntry.restTick_reason (e : QueueEntry) : e.restTick.reason = e.reason := by unfold restTick; split <;> rfl

/-- A rest that a pass reads before the counters take the tick, and that the entry then counts down, is the rest that a pass
reads behind them (R47, R53, R95). -/
theorem Slot.tick_remaining (sl : Slot) (h : sl.permit.isSome = true) (hc : sl.counter < Config.counterMax) :
    sl.tick.remaining = sl.remaining - 1 := by
  have : min Config.counterMax (sl.counter + 1) = sl.counter + 1 := Nat.min_eq_right hc
  simp only [Slot.tick, h, Slot.remaining, this, if_true]
  omega

/-- One crystal cycle at the link: the bit divider counts, and a bit time ends when it wraps (R52). -/
theorem State.crystalCycle_link (s : State) (h : s.link.bitDivider < s.lineSpeed.bitCycles) :
    s.crystalCycle.link = { s.link with
      bitDivider := (s.link.bitDivider + 1) % s.lineSpeed.bitCycles
      lineBits := s.link.lineBits + (s.link.bitDivider + 1) / s.lineSpeed.bitCycles } := by
  unfold State.crystalCycle
  by_cases hb : s.lineSpeed.bitCycles ≤ s.link.bitDivider + 1
  · have he : s.link.bitDivider + 1 = s.lineSpeed.bitCycles := by omega
    simp [he, Nat.div_self (show 0 < s.lineSpeed.bitCycles by omega)]
  · have hl : s.link.bitDivider + 1 < s.lineSpeed.bitCycles := by omega
    simp [hb, Nat.mod_eq_of_lt hl, Nat.div_eq_of_lt hl]

/-- A crystal cycle leaves the speed at which the line's bit times are counted. -/
@[simp] theorem State.crystalCycle_lineSpeed (s : State) : s.crystalCycle.lineSpeed = s.lineSpeed := rfl

end Sys2Proof.Machine
end

