-- ==== Sys2Proof/Tests/Slice0.lean ====
section
/-! SUPPORT. Tests of the model on small states, each with its source in the manual, and for every statement with hypotheses a
named witness that meets them together. -/

namespace Sys2Proof.Tests

open Sys2Proof Sys2Proof.Machine

set_option maxRecDepth 100000
set_option Elab.async false

/-! ### Helpers -/

/-- What a command leaves, and the state itself where it does not answer next. -/
def after (s : State) (c : Instr) : State :=
  match exec c s with
  | .next t => t
  | .fault _ => s
  | .refused _ => s

/-- What a list of commands leaves. -/
def afterAll (s : State) (cs : List Instr) : State := cs.foldl after s

/-- A linked unit's record: two stages, class 3, minimum run 10 s, minimum off 20 s, rotation after 64 s. -/
def recA : UnitRecord := { ratings := [50, 60], cls := 3, minRun := 10, minOff := 20, rotation := 1, wired := none }

/-- The same in class 0. -/
def recZero : UnitRecord := { recA with cls := 0 }

/-- A wired unit's record: class 5, minimum run 60 s, minimum off 30 s, a cycle of 20 min with 15 min on. -/
def recW : UnitRecord where
  ratings := [40]
  cls := 5
  minRun := 60
  minOff := 30
  rotation := 0
  wired := some { cyclePeriod := 20, onLimit := 15, cyclingMode := .always, drivePolarity := .activeHigh,
                  callPolarity := .activeHigh }

/-- A unit configured with a record and a desired level. -/
def withRec (u : UnitNo) (r : UnitRecord) (desired : Nat) (s : State) : State :=
  { s with units := s.units.set u { record := some r, status := { UnitStatus.fresh with desired := desired } } }

/-- A change of a unit's status. -/
def withStatus (u : UnitNo) (f : UnitStatus → UnitStatus) (s : State) : State := s.modifyStatus u f

/-- A granted permit of a unit in a slot, taken off the free list, with its counter and an armed compare A. -/
def withPermit (i : SlotNo) (u : UnitNo) (stage : Nat) (st : PermitState) (counter aValue : Nat) (met : Bool)
    (reason : Option StopReason) (s : State) : State :=
  { s with
    slots := s.slots.set i {
      permit := some { unit := u, stage := stage, rating := (s.rating u stage).getD 0, state := st, origin := .granted,
                       minRunMet := met, rotationDue := false, reason := reason }
      counter := counter, aValue := aValue, aArmed := true, pValue := 1, pArmed := true }
    freeList := s.freeList.filter fun j => decide (j ≠ i) }

/-- The line awaits the reply of a unit, with characters of it in. -/
def awaiting (u : UnitNo) (reply : List Byte) (s : State) : State :=
  { s with link := { s.link with
      line := .awaiting, reply := reply, replyTimer := 50
      transaction := some { unit := u, speed := .b19200, timeout := 50, frame := [] } } }

/-- Reset with the restart hold ended and the start gate open. -/
def quiet : State := { State.reset with hold := .ended, startGate := .opened }

/-- Unit 0 configured, asking for two stages, with stage 0 RUNNING short of its minimum run. -/
def roof : State := State.reset |> withRec 0 recA 2 |> withPermit 0 0 0 .running 5 10 false none

/-- The same with the minimum run met. -/
def roofMet : State := State.reset |> withRec 0 recA 2 |> withPermit 0 0 0 .running 70 10 true none

/-- Unit 0 at commanded level 2: stage 0 DRAINING with its minimum run met, stage 1 DRAINING with it unmet. -/
def roofDraining : State :=
  State.reset |> withRec 0 recA 0 |> withPermit 0 0 0 .draining 70 10 true (some .released)
    |> withPermit 1 0 1 .draining 5 10 false (some .released)

/-- Unit 0 with stage 0 STOPPING. -/
def roofStopping : State := State.reset |> withRec 0 recA 0 |> withPermit 0 0 0 .stopping 60 60 true (some .shed)

/-- Unit 0 with stage 0 RESTING. -/
def roofResting : State := State.reset |> withRec 0 recA 0 |> withPermit 0 0 0 .resting 20 20 true (some .shed)

/-- W3 configured with its call state held RELEASED and its filter showing a call. -/
def wired : State :=
  let s := State.reset |> withRec 35 recW 0
  { s with channels := s.channels.set 3 { s.channels[3] with
      filter := { level := some true, last1 := some true, last2 := some true }, callDue := true } }

/-- W3 calling with its stage RUNNING for 15 min since its grant, its filter showing the call released. -/
def wiredRunning (met : Bool) (counter : Nat) : State :=
  let s := State.reset |> withRec 35 recW 1 |> withPermit 0 35 0 .running counter 60 met none
  { s with channels := s.channels.set 3 {
      filter := { level := some false, last1 := some false, last2 := some false }
      calling := true, grantRecorded := true, cycleCounter := 900, callDue := true, testDue := true } }

/-- W3 called again with its stage DRAINING and RELEASED. -/
def wiredDraining : State :=
  let s := State.reset |> withRec 35 recW 0 |> withPermit 0 35 0 .draining 30 60 false (some .released)
  { s with channels := s.channels.set 3 { s.channels[3] with
      filter := { level := some true, last1 := some true, last2 := some true }, callDue := true } }

/-- Unit 0 with its one stage DRAINING by a shed stop. -/
def shedDraining : State := State.reset |> withRec 0 recA 0 |> withPermit 0 0 0 .draining 5 10 false (some .shed)

/-- W3 called again with its stage DRAINING by a shed stop. -/
def wiredShed : State :=
  let s := State.reset |> withRec 35 recW 0 |> withPermit 0 35 0 .draining 30 60 false (some .shed)
  { s with channels := s.channels.set 3 { s.channels[3] with
      filter := { level := some true, last1 := some true, last2 := some true }, callDue := true } }

/-- W3's stage DRAINING at the end of its minimum run. -/
def wiredEnding : State :=
  State.reset |> withRec 35 recW 0 |> withPermit 0 35 0 .draining 60 60 false (some .released)

/-- An entry of the queue. -/
def entry (u : UnitNo) (wanted cls skips : Nat) (reason : WaitReason) : QueueEntry where
  unit := u
  wanted := wanted
  cls := cls
  skips := skips
  reason := reason
  remaining := 0

/-! ### Commands as rows of the table -/

/-- SET_UNIT with fewer than two bytes is no row of the table (R174). -/
theorem test_refuses_short_set_unit : (Instr.setUnit [0#8]).wellFormed = false := by decide

/-- SET_UNIT that does not fit the command buffer is no row of the table (R171). -/
theorem test_refuses_long_set_unit : (Instr.setUnit (List.replicate 40 0#8)).wellFormed = false := by decide

/-- SET_SITE of 31 bytes is no row of the table (R173). -/
theorem test_refuses_short_set_site : (Instr.setSite (List.replicate 31 0#8)).wellFormed = false := by decide

/-- PANEL_WRITE of bytes that name SAVE is no row of the table. -/
theorem test_refuses_panel_write_of_save : (Instr.panelWrite 0x4C#7 [0x40#8] false).wellFormed = false := by decide

/-- A second tick that takes one part twice is no row of the table (R51). -/
theorem test_refuses_part_taken_twice :
    (Instr.secondTick [.part .regularPass, .part .regularPass]).wellFormed = false := by decide

/-- No row of the table gives bits, so no word spells a command. -/
theorem test_no_word_spells_a_command (nbits w : Nat) : decodeTableWord nbits w = none := rfl

/-! ### Panel words written out from R173 and R174 -/

/-- 0x10: SET UNIT, the record of recA for unit 0 in the layout of R174. -/
theorem test_set_unit_bytes :
    recA.encode 0 = [0, 2, 0, 50, 0, 60, 3, 0, 10, 0, 20, 1].map (BitVec.ofNat 8)
      ∧ parseUnitRecord ([0, 2, 0, 50, 0, 60, 3, 0, 10, 0, 20, 1].map (BitVec.ofNat 8)) = some (0, recA) := by
  decide

/-- The wired fields follow the rotation byte (R174). -/
theorem test_wired_bytes :
    parseUnitRecord ([35, 1, 0, 40, 5, 0, 60, 0, 30, 0, 20, 15, 0, 0, 0].map (BitVec.ofNat 8)) = some (35, recW) := by
  decide

/-- 0x14 5: UNLOCK UNIT of unit 5. -/
theorem test_unlock_bytes : decodeWrite [0x14#8, 5#8] = .ok (.unlockUnit 5#8) := by decide

/-- 0x22: SET LIMIT 614.2 kW (6142 = 0x17FE), margin 10.0 kW (100), most significant byte first. -/
theorem test_limit_bytes :
    decodeWrite [0x22#8, 0x17#8, 0xFE#8, 0#8, 100#8] = .ok (.setLimit 6142#16 100#16) := by decide

/-- 0x32 95: READ PERMIT of slot 95; 0x40: SAVE; 0x41: RESTART; 0x23 0: CURTAIL OFF. -/
theorem test_other_bytes :
    decodeWrite [0x32#8, 95#8] = .ok (.readPermit 95#8) ∧ decodeWrite [0x40#8] = .ok .save
      ∧ decodeWrite [0x41#8] = .ok .restart ∧ decodeWrite [0x23#8, 0#8] = .ok (.curtail 0#8) := by decide

/-- An unknown code, a wrong count and 41 bytes are errors (R171). -/
theorem test_write_errors :
    decodeWrite [0x35#8] = .error .unknownCode ∧ decodeWrite [0x40#8, 0#8] = .error .wrongCount
      ∧ decodeWrite (List.replicate 41 0x10#8) = .error .overlong := by decide

/-! ### Small steps against the manual's figures -/

/-- A poll frame sums to 0 modulo 256 and a good report passes the four tests (R148, R149, R153). -/
theorem test_frames :
    frameSum (roof.pollFrame 0) = 0#8 ∧ goodReply 31 (reportFrame 31 2#8 1#8 0#8) = true
      ∧ goodReply 30 (reportFrame 31 2#8 1#8 0#8) = false := by decide +kernel

/-- Ten data bits of 0xA5 with the mark bit as the line carries them: start, least significant first, mark, stop (R146). -/
theorem test_character_bits :
    characterBits 0xA5#8 true
      = [false, true, false, true, false, false, true, false, true, true, true] := by decide

/-- A character is read back from its samples with one of samples 7, 8 and 9 of each bit wrong (R147). -/
theorem test_samples_with_noise :
    readSamples (((drivenSamples 0xA5#8 true).zipIdx).map fun x => if x.2 % 16 = 7 then !x.1 else x.1)
      = .character 0xA5#8 true := by decide +kernel

/-- A low line of seven samples after a high one is noise, and the receiver finds the start bit that follows it (R147). -/
theorem test_start_bit_found_after_noise :
    let s := awaiting 0 [] { State.reset with link := { State.reset.link with lineWasHigh := true } }
    let t := (List.replicate 7 false ++ List.replicate 16 true ++ drivenSamples 0#8 true).foldl State.sampleLine s
    t.link.reply = [0#8] ∧ t.link.receiver = .waitingStart := by decide +kernel

/-- RECEIVER_LINE_HIGH is a high sample: the next low one is sample 1 of a start bit (R147). So is the stop bit of
CHARACTER_RECEIVED. -/
theorem test_low_sample_after_a_high_line :
    let waiting (r : Receiver) : State :=
      { State.reset with link := { State.reset.link with line := .awaiting, receiver := r } }
    ((after (waiting .waitingHigh) .receiverLineHigh).sampleLine false).link.receiver = .inCharacter [false]
      ∧ ((after (waiting .waitingStart) (.characterReceived 0#8 true)).sampleLine false).link.receiver
        = .inCharacter [false] := by decide +kernel

/-- A framing error in the address character itself ends the reply (R153), one before it does not. -/
theorem test_framing_error_in_the_address_character :
    (after (awaiting 0 [] roof) (.receiverFramingError true)).link.replyBroken = true
      ∧ (after (awaiting 0 [] roof) (.receiverFramingError false)).link.replyBroken = false := by decide +kernel

/-- 100 Wh in 600 ms is 600.0 kW (6000): floor(100 × 36000 / 600) (R71). -/
theorem test_rate : siteDefaults.rateOver 600 = 6000 := by decide

/-- A victim with its minimum run unmet stays in DRAINING, commanded on, and the gate closes for 5 + 1 s (R62, R130). -/
theorem test_shed_keeps_the_minimum_run :
    let t := after { roof with shedGate := .counting 0, shed := { roof.shed with demand := .overload } } .shedGateOpening
    t.slots[(0 : SlotNo)].permit.map (fun p => (p.state, p.reason)) = some (.draining, some .shed)
      ∧ t.level 0 = 1 ∧ t.shedGate = .counting 6 := by decide +kernel

/-- The end of the hold grants the first entry and closes the gate for 15 + 1 s; its unit keeps its entry for its second stage
(R60, R61, R99). -/
theorem test_hold_end_grants :
    let s : State := State.reset |> withRec 0 recA 2
    let t := after { s with hold := .running 0, queue := [entry 0 2 3 1 .hold] } .restartHoldEnd
    t.level 0 = 1 ∧ t.startGate = .counting 16 ∧ t.unsettled = 50 ∧ t.queue = [entry 0 2 3 0 .gate]
      ∧ t.link.urgent = [0] := by decide +kernel

/-- The regular pass of the tick that opens the start gate makes the grant, and the opening's own pass after it makes none
(R60, R90). -/
theorem test_regular_pass_grants_at_the_opened_gate :
    let s : State := State.reset |> withRec 0 recA 1 |> withRec 1 recA 1
    let t := after { s with hold := .ended, startGate := .counting 1, queue := [entry 0 1 3 0 .gate, entry 1 1 3 0 .gate] }
      (.secondTick [.part .regularPass])
    t.level 0 = 1 ∧ t.queue = [entry 1 1 3 0 .gate] ∧ after t .startGateOpening = { t with openingDue := false } := by
  decide +kernel

/-- A RELEASED stage below D that has met its minimum run and waits in DRAINING under a stage released now is restored, and is
not carried on to STOPPING by the release (R40). -/
theorem test_restore_comes_before_release :
    let s := State.reset |> withRec 0 recA 2 |> withPermit 0 0 0 .draining 70 10 true (some .released)
      |> withPermit 1 0 1 .running 70 10 true none
    let t := after (awaiting 0 (reportFrame 0 1#8 2#8 0#8) s) .reportReceived
    t.slots[(0 : SlotNo)].permit.map (fun p => (p.state, p.reason)) = some (.running, none)
      ∧ t.slots[(1 : SlotNo)].permit.map (fun p => (p.state, p.reason)) = some (.stopping, some .released)
      ∧ t.level 0 = 1 := by decide +kernel

/-- A raise of the desired level restores no stage that a shed stop drains, of a linked unit or a wired one (R40). -/
theorem test_shed_stage_is_not_restored :
    let linked := awaiting 0 (reportFrame 0 1#8 1#8 0#8) shedDraining
    (after linked .reportReceived).slots[(0 : SlotNo)] = linked.slots[0]
      ∧ (after wiredShed (.callChange 3)).slots[(0 : SlotNo)] = wiredShed.slots[0] := by decide +kernel

/-- The call that a sample read is presented as it was read, though SET UNIT turns the call polarity before (R5, R162). -/
theorem test_sampled_call_is_presented :
    let r : UnitRecord := { recW with wired := recW.wired.map fun w => { w with callPolarity := .activeLow } }
    let s := afterAll wired [.setUnit (r.encode 35), .callChange 3]
    s.record 35 = some r ∧ s.channels[(3 : ChannelNo)].calling = true ∧ (s.status 35).desired = 1 := by decide +kernel

/-- Unit 0's stage 0 RESTING with a counter, its minimum off 20 s, with an entry for it. -/
def restAt (counter : Nat) : State :=
  let s := quiet |> withRec 0 recA 1 |> withPermit 0 0 0 .resting counter 20 true (some .shed)
  { s with shedGate := .counting 3, queue := [entry 0 1 3 0 .gate] }

/-- The same a second before the end of its rest. -/
def restEnding : State := restAt 19

/-- The remaining seconds fall by one each second, with the pass before the counters or behind them (R95). -/
theorem test_remaining_seconds_fall :
    (∀ order ∈ [[.part .regularPass, .part .slotCounters], [TickItem.part .slotCounters, .part .regularPass]],
      (afterAll (restAt 17) [.secondTick order]).queue.map QueueEntry.remaining = [2]
        ∧ (afterAll (restAt 17) [.secondTick [.part .regularPass], .secondTick order]).queue.map QueueEntry.remaining = [1])
      := by decide +kernel

/-- A pass at the tick that ends a rest, taken before the expiry, gives RESTING with 0 s remaining (R105). -/
theorem test_pass_before_the_end_of_a_rest :
    (after restEnding (.secondTick [.part .regularPass])).queue = [entry 0 1 3 0 .resting] := by decide +kernel

/-- RELEASE UNIT sends a RUNNING stage to STOPPING with reason FORCED, its minimum run unmet (R39). -/
theorem test_release_forces :
    let t := after (roof |> withStatus 0 fun st => { st with desired := 0 }) (.releaseUnit 0#8)
    t.slots[(0 : SlotNo)].permit.map (fun p => (p.state, p.reason, p.minRunMet)) = some (.stopping, some .forced, false)
      ∧ t.level 0 = 0 ∧ t.committed = 50 := by decide +kernel

/-- A LOCKED unit found running one stage adopts it and stops it at once (R44). -/
theorem test_locked_unit_stops_what_it_adopts :
    let s := State.reset |> withRec 0 recA 0 |> withStatus 0 (fun st => { st with state := .locked })
    let t := after (awaiting 0 (reportFrame 0 1#8 1#8 0#8) s) .reportReceived
    t.slots[(0 : SlotNo)].permit.map (fun p => (p.state, p.origin, p.reason)) = some (.stopping, .adopted, some .locked)
      ∧ t.level 0 = 0 := by decide +kernel

/-- A wired stage stopped by its cycle goes inactive and RESTING at once (R164, R167). -/
theorem test_cycle_stop_rests :
    let t := after (wiredRunning true 900) (.cycleOnLimitStop 3)
    t.slots[(0 : SlotNo)].permit.map (fun p => (p.state, p.reason)) = some (.resting, some .cycled)
      ∧ t.driveOutput 3 = .inactive := by decide +kernel

/-- A write broken within its first byte is answered BAD COMMAND (R171; log entry 9), and an empty one is nothing. -/
theorem test_broken_empty_write :
    (after State.reset (.panelWrite 0x4C#7 [] true)).panel.response = { status := .badCommand, data := [] }
      ∧ after State.reset (.panelWrite 0x4C#7 [] false) = State.reset := by decide +kernel

/-! ### Witnesses of the statements' hypotheses -/

theorem witness_StepRunsTheFrontCommand : ({ State.reset with pending := [.save, .getSite] } : State).pending = .save :: [.getSite] :=
  rfl

theorem witness_DividersRaiseTheirTicks :
    (State.reset.pending = [] ∧ State.reset.resetHeld = false ∧ State.reset.timeBase.millisecondDivider = 0
      ∧ State.reset.timeBase.millisecondDue = false ∧ 6144 ≤ 6144)
    ∧ ∃ s : State, s.pending = List.replicate 1000 (.millisecondTick ⟨true, false, true, false, false, false⟩)
      ∧ s.resetHeld = false ∧ s.timeBase.secondDivider = 0 ∧ s.timeBase.secondDue = false ∧ 1000 ≤ 1000 :=
  ⟨⟨rfl, rfl, rfl, rfl, le_refl _⟩,
    { State.reset with pending := List.replicate 1000 (.millisecondTick ⟨true, false, true, false, false, false⟩) },
    rfl, rfl, rfl, rfl, le_refl _⟩

/-- The bit divider at the last crystal cycle of a bit time, at each link speed. -/
theorem witness_LinkBitClock :
    let s (v : LinkSpeed) (b : Nat) : State :=
      { State.reset with link := { State.reset.link with gapSpeed := v, bitDivider := b } }
    ∀ x ∈ [(LinkSpeed.b9600, 639, 40), (.b19200, 319, 20), (.b38400, 159, 10)],
      (s x.1 x.2.1).pending = [] ∧ (s x.1 x.2.1).resetHeld = false ∧ (s x.1 x.2.1).link.line = .gap
        ∧ (s x.1 x.2.1).link.gapSpeed = x.1 ∧ (s x.1 x.2.1).link.bitDivider < 16 * x.2.2 := by decide +kernel

/-- A power-on reset is held. -/
def held : State := after State.reset .resetAsserted

/-- A SAVE runs. -/
def saving : State := after State.reset .save

theorem witness_HeldResetStopsEveryOtherCommand :
    held.resetHeld = true ∧ (∀ straps, Instr.saveEnd ≠ .powerOnReset straps) ∧ Instr.saveEnd ≠ .resetAsserted :=
  ⟨by decide +kernel, fun _ => nofun, nofun⟩

theorem witness_EventsNotRaisedChangeNothing :
    State.reset.raisedEvent (.settleExpiry 95) = false ∧ State.reset.raisedEvent .saveEnd = false
      ∧ State.reset.raisedEvent .eoiMark = false ∧ State.reset.raisedEvent (.callChange 3) = false := by decide +kernel

theorem witness_SaveShutsThePanelPort :
    saving.store.saving.isSome = true ∧ (encodeWrite .save).isSome = true
      ∧ (∃ address bytes broken, Instr.panelWrite 0x4C#7 [0x40#8] true = .panelWrite address bytes broken)
      ∧ (0x4C#7 = 0x4C#7 + roof.panel.straps.setWidth 7 ∧ roof.store.saving = none ∧ roof.resetHeld = false)
      ∧ 0x4D#7 ≠ 0x4C#7 + roof.panel.straps.setWidth 7 ∧ held.resetHeld = true :=
  ⟨by decide +kernel, by decide, ⟨_, _, _, rfl⟩, by decide +kernel⟩

theorem witness_SettingsChangeOnlyByTheirCommands :
    (Instr.setSite siteDefaults.encode).wellFormed = true
      ∧ ∃ t, exec (.setSite siteDefaults.encode) State.reset = .next t :=
  ⟨by decide +kernel, _, rfl⟩

theorem witness_UnitCommandsKeepOtherUnits :
    (1 : UnitNo) ≠ 0 ∧ names 0#8 0 ∧ recA.valid 0 = true ∧ (awaiting 0 [] roof).polled = some 0
      ∧ (∃ t, exec (.lockUnit 0#8) roof = .next t) ∧ ∃ t, exec .replyTimeout (awaiting 0 [] roof) = .next t :=
  ⟨by decide, rfl, by decide, by decide +kernel, ⟨_, rfl⟩, _, rfl⟩

theorem witness_PowerOnWithInvalidStoreGivesTheDefaults :
    State.reset.store.valid = false ∧ saving.store.saving.isSome = true := by decide +kernel

/-- A completed SAVE whose site record, or one of whose places, has since been spoilt. -/
def spoilt (site : List Byte) (place : Option (List Byte)) : State :=
  let s := afterAll roof [.save, .saveEnd]
  { s with store := { s.store with site := site, places := s.store.places.set 1 place } }

theorem witness_PowerOnWithAFailingRecord :
    (∀ s ∈ [spoilt [] none, spoilt siteDefaults.encode (some (recA.encode 0))],
      s.store.valid = true ∧ s.store.saving = none)
    ∧ parseSiteRecord (spoilt [] none).store.site = none
    ∧ ∃ (u : UnitNo) (bytes : List Byte),
      (spoilt siteDefaults.encode (some (recA.encode 0))).store.places[u] = some bytes
        ∧ ∀ r : UnitRecord, parseUnitRecord bytes ≠ some (u, r) := by
  refine ⟨by decide +kernel, by decide +kernel, 1, recA.encode 0, by decide +kernel, fun r h => ?_⟩
  rw [show parseUnitRecord (recA.encode 0) = some (0, recA) by decide +kernel] at h
  exact absurd (congrArg Prod.fst (Option.some.inj h)) (show (0 : UnitNo) ≠ 1 by decide)

/-- The slots that hold a permit. -/
def occupied (s : State) : List SlotNo := allSlots.filter fun i => s.slots[i].permit.isSome

/-- The tables of a small state are sound where a few tests of its occupied slots hold. -/
theorem tablesSound_of_few (s : State) (hf : s.freeList = allSlots.filter fun i => s.slots[i].permit.isNone)
    (hd : ∀ i ∈ occupied s, ∀ j ∈ occupied s, ∀ p ∈ s.slots[i].permit, ∀ q ∈ s.slots[j].permit,
      p.unit = q.unit → p.stage = q.stage → i = j)
    (hp : ∀ i ∈ occupied s, ∀ p ∈ s.slots[i].permit,
      p.state.commandedOn = decide (p.stage < s.level p.unit) ∧ s.rating p.unit p.stage = some p.rating)
    (g : s.levelsBounded ∧ s.recordsSound ∧ s.queueOrdered ∧ s.entriesSound
      ∧ ∀ u : UnitNo, (s.status u).desired ≤ s.stageCount u ∧ (s.status u).running ≤ s.stageCount u) :
    s.tablesSound := by
  obtain ⟨hb, hr, hq, he, hu⟩ := g
  have occ : ∀ (i : SlotNo) (p : Permit), p ∈ s.slots[i].permit → i ∈ occupied s := fun i p hi => by
    simp only [occupied, List.mem_filter]
    exact ⟨List.mem_finRange i, by rw [Option.mem_def.mp hi]; rfl⟩
  refine ⟨⟨?_, fun i => ?_⟩, fun i j p hi q hj => hd i (occ i p hi) j (occ j q hj) p hi q hj,
    fun i p hi => (hp i (occ i p hi) p hi).1, fun i p hi => (hp i (occ i p hi) p hi).2, hb, hr, hq, he, hu⟩
  · rw [hf]
    exact (List.nodup_finRange 96).filter _
  · rw [hf, List.mem_filter, Option.isNone_iff_eq_none]
    exact ⟨fun h => h.2, fun h => ⟨List.mem_finRange i, h⟩⟩

/-- Unit 0 configured, asking for nothing and holding nothing. -/
def bare : State := State.reset |> withRec 0 recA 0

theorem bare_tablesSound : bare.tablesSound :=
  tablesSound_of_few _ (by decide +kernel) (by decide +kernel) (by decide +kernel) (by decide +kernel)
theorem roof_tablesSound : roof.tablesSound :=
  tablesSound_of_few _ (by decide +kernel) (by decide +kernel) (by decide +kernel) (by decide +kernel)
theorem roofStopping_tablesSound : roofStopping.tablesSound :=
  tablesSound_of_few _ (by decide +kernel) (by decide +kernel) (by decide +kernel) (by decide +kernel)
theorem roofDraining_tablesSound : roofDraining.tablesSound :=
  tablesSound_of_few _ (by decide +kernel) (by decide +kernel) (by decide +kernel) (by decide +kernel)
theorem wired_tablesSound : wired.tablesSound :=
  tablesSound_of_few _ (by decide +kernel) (by decide +kernel) (by decide +kernel) (by decide +kernel)
theorem wiredRunning_tablesSound : (wiredRunning true 900).tablesSound :=
  tablesSound_of_few _ (by decide +kernel) (by decide +kernel) (by decide +kernel) (by decide +kernel)
theorem wiredRunning_short_tablesSound : (wiredRunning false 59).tablesSound :=
  tablesSound_of_few _ (by decide +kernel) (by decide +kernel) (by decide +kernel) (by decide +kernel)
theorem wiredDraining_tablesSound : wiredDraining.tablesSound :=
  tablesSound_of_few _ (by decide +kernel) (by decide +kernel) (by decide +kernel) (by decide +kernel)

theorem witness_SavedSettingsSurviveAPowerCut : roof.portShut = false ∧ roof.recordsSound :=
  ⟨by decide +kernel, roof_tablesSound.2.2.2.2.2.1⟩

theorem witness_SaveWritesItsCopyUnlessCutOff :
    State.reset.portShut = false ∧ saving.store.saving = some State.reset.saveCopy ∧ saving.resetHeld = false :=
  ⟨by decide +kernel, rfl, by decide +kernel⟩

/-- The port answers in the reset state: the one hypothesis of RestartKeepsTheWorkingRecords, ReadDemandLatchesTheSnapshot and
QueueNoticesSiteAndPeakCommands. -/
theorem witness_portOpen : State.reset.portShut = false ∧ roof.portShut = false := by decide +kernel

theorem witness_WriteBytesNameTheirCommand :
    (Instr.setLimit 6142#16 100#16).wellFormed = true
      ∧ encodeWrite (.setLimit 6142#16 100#16) = some [0x22#8, 0x17#8, 0xFE#8, 0#8, 100#8]
      ∧ decodeWrite [0x22#8, 0x17#8, 0xFE#8, 0#8, 100#8] = .ok (.setLimit 6142#16 100#16) := by decide

theorem witness_RecordLayouts :
    recA.valid 0 = true ∧ recW.valid 35 = true ∧ siteDefaults.valid = true
      ∧ parseUnitRecord (recW.encode 35) = some (35, recW) ∧ parseSiteRecord siteDefaults.encode = some siteDefaults := by
  decide

theorem witness_WriteTransactionRunsOrRefuses :
    State.reset.acknowledges 0x4D#7 = false ∧ State.reset.acknowledges 0x4C#7 = true
      ∧ decodeWrite [0x35#8] = .error .unknownCode ∧ WriteError.unknownCode ≠ .empty
      ∧ decodeWrite [0x21#8] = .ok .getSite := by decide +kernel

theorem witness_UnitReadsLatchTheRecords :
    roof.portShut = false ∧ names 35#8 35 ∧ names 0#8 0 ∧ 36 ≤ (36#8 : Byte).toNat :=
  ⟨by decide +kernel, rfl, rfl, by decide⟩

theorem witness_ReadPermitLatchesTheSlot :
    roof.portShut = false ∧ (95#8 : Byte).toNat = (95 : SlotNo).val ∧ 96 ≤ (96#8 : Byte).toNat := by decide +kernel

/-- The reset state with an IDLE line. -/
def idle : State := { State.reset with link := { State.reset.link with line := .idle } }

theorem witness_SetUnitConfiguresALinkedUnit :
    (State.reset.portShut = false ∧ isWired 31 = false ∧ State.reset.record 31 = none ∧ recA.valid 31 = true
      ∧ State.reset.link.line ≠ .idle)
    ∧ idle.portShut = false ∧ idle.record 31 = none ∧ idle.link.line = .idle ∧ idle.link.urgent = []
      ∧ idle.link.silentRound = none ∧ ∀ v : UnitNo, isWired v = false → idle.configured v = false := by
  decide +kernel

/-- W3 not configured, its filter showing a call. -/
def callingUnconfigured : State :=
  { State.reset with channels := State.reset.channels.set 3 { State.reset.channels[3] with
      filter := { level := some true, last1 := some true, last2 := some true } } }

theorem witness_SetUnitConfiguresAWiredUnit :
    (State.reset.portShut = false ∧ State.reset.record (channelUnit 3) = none
      ∧ State.reset.hasPermit (channelUnit 3) = false ∧ recW.valid (channelUnit 3) = true
      ∧ State.reset.channels[(3 : ChannelNo)].filter.level ≠ some true)
    ∧ callingUnconfigured.portShut = false ∧ callingUnconfigured.record (channelUnit 3) = none
      ∧ callingUnconfigured.hasPermit (channelUnit 3) = false
      ∧ callingUnconfigured.channels[(3 : ChannelNo)].filter.level = some true
      ∧ callingUnconfigured.queue.length < 16 := by decide +kernel

/-- Unit 0 LOCKED or ACTIVE in class 3 with a shed stage and an entry between two others. -/
def lined : State :=
  let s := State.reset |> withRec 0 recA 2 |> withPermit 0 0 0 .draining 5 10 false (some .shed)
    |> withRec 1 recZero 1 |> withRec 2 { recA with cls := 7 } 1
  { s with queue := [entry 1 1 0 0 .hold, entry 0 2 3 2 .hold, entry 2 1 7 0 .hold] }

/-- Unit 0 asks for two stages and holds none, with an entry for both. -/
def wantingTwo : State := { (State.reset |> withRec 0 recA 2) with queue := [entry 0 2 3 2 .hold] }

theorem witness_SetUnitLowersAnEntry :
    let r : UnitRecord := { recA with ratings := [50] }
    wantingTwo.portShut = false ∧ wantingTwo.record 0 = some recA ∧ (wantingTwo.status 0).state = .active
      ∧ r.valid 0 = true ∧ wantingTwo.hasPermit 0 = false ∧ (wantingTwo.queue.map QueueEntry.unit).Nodup
      ∧ (wantingTwo.queue.map QueueEntry.cls).Pairwise (· ≤ ·)
      ∧ ∃ e ∈ wantingTwo.queue, e.unit = 0 ∧ r.ratings.length < e.wanted := by
  decide +kernel

theorem witness_SetUnitChangesARecord :
    lined.portShut = false ∧ lined.record 0 = some recA ∧ (lined.status 0).state = .active ∧ recZero.valid 0 = true
      ∧ recZero.ratings = recA.ratings ∧ (∀ e ∈ lined.queue, e.unit = 0 → e.wanted ≤ recZero.ratings.length)
      ∧ (lined.queue.map QueueEntry.unit).Nodup ∧ (lined.queue.map QueueEntry.cls).Pairwise (· ≤ ·) := by
  decide +kernel

/-- Unit 0 RETIRING, and unit 0 LOCKED. -/
def retiring : State := roof |> withStatus 0 fun st => { st with state := .retiring }
def locked : State := roof |> withStatus 0 fun st => { st with state := .locked }

theorem witness_RefusedCommandsOnlyAnswer :
    State.reset.portShut = false ∧ [0#8].length < 2 ∧ 40 ≤ (List.replicate 40 0#8).length
      ∧ parseUnitRecord [36#8, 1#8] = none ∧ (List.replicate 31 0#8).length ≠ 32
      ∧ parseSiteRecord (List.replicate 32 0#8) = none
      ∧ (retiring.portShut = false ∧ retiring.record 0 = some recA ∧ (retiring.status 0).state = .retiring)
      ∧ (roof.record 0 = some recA ∧ (roof.status 0).state ≠ .retiring ∧ ({ recA with ratings := [50] } : UnitRecord).valid 0
        ∧ [50] ≠ recA.ratings ∧ roof.hasPermit 0 = true)
      ∧ 36 ≤ (36#8 : Byte).toNat ∧ (State.reset.status 35).state = .unconfigured
      ∧ (locked.status 0).state = .locked ∧ (roof.status 0).state = .active
      ∧ (99#16 : BitVec 16).toNat < (100#16 : BitVec 16).toNat ∧ 7 < (8#8 : Byte).toNat := by decide +kernel

/-- W3 with its stage RUNNING, its minimum run met and a minimum off of 0. -/
def wiredNoOff : State :=
  State.reset |> withRec 35 { recW with minOff := 0 } 1 |> withPermit 0 35 0 .running 900 60 true none

/-- Each case of a stopped stage: RUNNING with the minimum run unmet and met, DRAINING below one that is unmet, wired, and wired
with a minimum off of 0. -/
theorem witness_LockAndRetireStopEveryStage :
    (∀ s ∈ [roof, roofMet, roofDraining], names 0#8 0 ∧ s.portShut = false ∧ (s.status 0).state = .active)
    ∧ (locked.status 0).state = .locked ∧ roof.tablesSound ∧ roofDraining.tablesSound
    ∧ (∀ s ∈ [wiredRunning true 900, wiredNoOff], names 35#8 35 ∧ s.portShut = false ∧ (s.status 35).state = .active)
    ∧ wiredNoOff.minOff 35 = 0
    ∧ roof.slots[(0 : SlotNo)].permit.any (fun p => decide (p.state = .running) && !p.minRunMet) = true
    ∧ roof.slots[(0 : SlotNo)].counter < roof.minRun 0
    ∧ roofMet.slots[(0 : SlotNo)].permit.any (fun p => decide (p.state = .running) && p.minRunMet) = true
    ∧ roofDraining.slots[(0 : SlotNo)].permit.any (fun p => decide (p.state = .draining) && p.minRunMet) = true
    ∧ roofDraining.slots[(1 : SlotNo)].permit.any (fun p => decide (p.state = .draining) && !p.minRunMet) = true :=
  ⟨fun s hs => ⟨rfl, by revert s hs; decide +kernel⟩, by decide +kernel, roof_tablesSound, roofDraining_tablesSound,
    fun s hs => ⟨rfl, by revert s hs; decide +kernel⟩, by decide +kernel⟩

theorem witness_RetirementWithoutPermitsCompletesAtOnce :
    names 35#8 35 ∧ wired.portShut = false ∧ (wired.status 35).state = .active ∧ wired.hasPermit 35 = false :=
  ⟨rfl, by decide +kernel, by decide +kernel, by decide +kernel⟩

/-- Unit 0 LOCKED while the hold runs, asking for its second stage, with n entries of class 7 standing. -/
def lockedBehind (n : Nat) : State :=
  { locked with queue := (List.range n).map fun k => entry (Fin.ofNat 36 (k + 1)) 1 7 0 .hold }

theorem witness_UnlockQueuesAUnitThatWantsMore :
    (names 0#8 0 ∧ locked.portShut = false ∧ (locked.status 0).state = .locked)
    ∧ (0 ≤ (locked |> withStatus 0 fun st => { st with desired := 1 }).level 0)
    ∧ (∀ n ∈ [15, 16], (lockedBehind n).level 0 < ((lockedBehind n).status 0).desired
      ∧ ((lockedBehind n).status 0).condition = .normal ∧ ((lockedBehind n).status 0).link = .heard
      ∧ (lockedBehind n).hold ≠ .ended ∧ (lockedBehind n).queued 0 = false
      ∧ ((lockedBehind n).queue.map QueueEntry.cls).Pairwise (· ≤ ·))
    ∧ (lockedBehind 15).queue.length < 16 ∧ 16 ≤ (lockedBehind 16).queue.length :=
  ⟨⟨rfl, by decide +kernel, by decide +kernel⟩, Nat.zero_le _, by decide +kernel, by decide +kernel, by decide +kernel⟩

/-- The same outside the hold, with the last entry of a full queue of a class that gives way and of one that does not. -/
theorem witness_UnlockOutsideTheHold :
    let s (n cls : Nat) : State :=
      { lockedBehind n with
        hold := .ended, startGate := .opened, queue := (lockedBehind n).queue.map fun e => { e with cls := cls } }
    (∀ x ∈ [(15, 7), (16, 7), (16, 3)], names 0#8 0 ∧ (s x.1 x.2).portShut = false
      ∧ ((s x.1 x.2).status 0).state = .locked ∧ (s x.1 x.2).level 0 < ((s x.1 x.2).status 0).desired
      ∧ ((s x.1 x.2).status 0).condition = .normal ∧ ((s x.1 x.2).status 0).link = .heard
      ∧ (s x.1 x.2).queued 0 = false ∧ ((s x.1 x.2).queue.map QueueEntry.cls).Pairwise (· ≤ ·)
      ∧ (s x.1 x.2).queue.length = x.1 ∧ ∃ l, (s x.1 x.2).queue.getLast? = some l ∧ l.cls = x.2)
    ∧ (s 16 7).cls 0 < 7 ∧ ¬ (s 16 3).cls 0 < 3 := by
  refine ⟨fun x hx => ⟨rfl, ?_⟩, by decide +kernel⟩
  simp only [List.mem_cons, List.not_mem_nil, or_false] at hx
  obtain rfl | rfl | rfl := hx
  · exact ⟨by decide +kernel, by decide +kernel, by decide +kernel, by decide +kernel, by decide +kernel, by decide +kernel,
      by decide +kernel, by decide +kernel, entry 15 1 7 0 .hold, by decide +kernel⟩
  · exact ⟨by decide +kernel, by decide +kernel, by decide +kernel, by decide +kernel, by decide +kernel, by decide +kernel,
      by decide +kernel, by decide +kernel, entry 16 1 7 0 .hold, by decide +kernel⟩
  · exact ⟨by decide +kernel, by decide +kernel, by decide +kernel, by decide +kernel, by decide +kernel, by decide +kernel,
      by decide +kernel, by decide +kernel, entry 16 1 3 0 .hold, by decide +kernel⟩

/-- Unit 0 with stage 0 STOPPING, noncompliant, its minimum off 0; the report that lowers its desired level has not come. -/
def stoppingNoOff : State :=
  State.reset |> withRec 0 { recA with minOff := 0 } 1 |> withPermit 0 0 0 .stopping 60 60 true (some .shed)
    |> withStatus 0 fun st => { st with noncompliant := true }

theorem witness_ReleaseForcesEveryStageOff :
    (∀ s ∈ [roof, roofStopping, roofResting, stoppingNoOff], names 0#8 0 ∧ s.portShut = false ∧ s.configured 0 = true
      ∧ (s.status 0).state ≠ .retiring ∧ s.hold ≠ .ended)
    ∧ (retiring.status 0).state = .retiring ∧ retiring.minOff 0 ≠ 0
    ∧ stoppingNoOff.minOff 0 = 0 ∧ (stoppingNoOff.status 0).noncompliant = true ∧ roof.level 0 ≠ 0
    ∧ ∀ s ∈ [wiredRunning true 900, wiredNoOff], names 35#8 35 ∧ channelUnit 3 = 35 ∧ s.portShut = false
      ∧ s.configured 35 = true ∧ (s.status 35).state ≠ .retiring ∧ s.hold ≠ .ended :=
  ⟨fun s hs => ⟨rfl, by revert s hs; decide +kernel⟩, by decide +kernel, by decide +kernel, by decide +kernel,
    by decide +kernel, by decide +kernel, fun s hs => ⟨rfl, by revert s hs; decide +kernel⟩⟩

theorem witness_SiteCommandsPutTheirFiguresInForce :
    State.reset.portShut = false ∧ siteDefaults.valid = true
      ∧ ({ siteDefaults with subLength := 120, limit := 6142 } : SiteRecord).valid = true
      ∧ 1#16 ≠ 0#16 ∧ (1#16 : BitVec 16).toNat ≤ (1#16 : BitVec 16).toNat ∧ (7#8 : Byte).toNat ≤ 7 := by decide +kernel

/-- Two victims, of classes 3 and 1, with the shed gate about to open. -/
def twoVictims (demand : SiteDemand) (threshold : Option Nat) (met : Bool) (counter : Nat) : State :=
  let s := State.reset |> withRec 0 recA 1 |> withPermit 0 0 0 .running counter 10 met none
    |> withRec 1 { recA with cls := 1 } 1 |> withPermit 1 1 0 .running 700 10 true none
  { s with shedGate := .counting 0, shed := { demand := demand, threshold := threshold, exhausted := false } }

/-- The hypotheses of ShedActionStopsTheFirstVictim on a state, with the victim of unit 0 in slot 0. -/
def victimHypotheses (s : State) (reason : StopReason) : Prop :=
  s.tablesSound ∧ s.resetHeld = false ∧ s.shedGate = .counting 0
    ∧ (reason = .shed ∧ s.shed.demand = .overload
      ∨ reason = .curtailed ∧ s.shed.demand = .normal ∧ s.shed.threshold.isSome = true)
    ∧ ∃ p, s.slots[(0 : SlotNo)].permit = some p ∧ p.state = .running ∧ p.stage + 1 = s.level p.unit ∧ s.cls p.unit ≠ 0
      ∧ (reason = .curtailed → ∀ c ∈ s.shed.threshold, c ≤ s.cls p.unit)
      ∧ ∀ j : SlotNo, ∀ q ∈ s.slots[j].permit, q.state = .running ∧ q.stage + 1 = s.level q.unit ∧ s.cls q.unit ≠ 0 →
        j ≠ 0 → s.goesBefore 0 j p q

theorem witness_ShedActionStopsTheFirstVictim_met : victimHypotheses (twoVictims .overload none true 70) .shed := by
  unfold victimHypotheses State.goesBefore
  exact ⟨
    tablesSound_of_few _ (by decide +kernel) (by decide +kernel) (by decide +kernel) (by decide +kernel),
    rfl, rfl, by decide, _, rfl, by decide +kernel⟩

theorem witness_ShedActionStopsTheFirstVictim_unmet : victimHypotheses (twoVictims .normal (some 3) false 5) .curtailed := by
  unfold victimHypotheses State.goesBefore
  exact ⟨
    tablesSound_of_few _ (by decide +kernel) (by decide +kernel) (by decide +kernel) (by decide +kernel),
    rfl, rfl, by decide, _, rfl, by decide +kernel⟩

/-- W3's stage RUNNING with its minimum run met while the site is in OVERLOAD. -/
def wiredVictim : State :=
  { wiredRunning true 900 with
    shedGate := .counting 0, shed := { demand := .overload, threshold := none, exhausted := false } }

theorem witness_ShedActionStopsTheFirstVictim_wired :
    victimHypotheses wiredVictim .shed ∧ channelUnit 3 = 35 ∧ wiredVictim.minOff 35 ≠ 0 := by
  unfold victimHypotheses State.goesBefore
  exact ⟨⟨
    tablesSound_of_few _ (by decide +kernel) (by decide +kernel) (by decide +kernel) (by decide +kernel),
    rfl, rfl, by decide, _, rfl, by decide +kernel⟩, by decide +kernel⟩

theorem witness_ShedActionWithoutAVictim :
    let s : State := { roof with shedGate := .counting 0 }
    let o : State := { s with shed := { s.shed with demand := .overload }, units := s.units.set 0 { s.units[0] with record := some recZero } }
    s.resetHeld = false ∧ s.shed.demand = .normal ∧ (∀ e ∈ s.queue, e.reason ≠ .demand ∧ e.reason ≠ .budget)
      ∧ s.shed.threshold = none ∧ o.shedGate = .counting 0 ∧ o.shed.demand = .overload
      ∧ ∀ j : SlotNo, ∀ q ∈ o.slots[j].permit, q.state = .running → q.stage + 1 = o.level q.unit → o.cls q.unit = 0 := by
  decide +kernel

/-- The stage in slot 0 has had its turn, and two units of class 1 wait on demand, the first for 7.0 kW and the second for
2.0 kW. -/
def rotating (s : State) : State :=
  let s := s |> withRec 1 { recA with cls := 1, ratings := [70] } 1 |> withRec 2 { recA with cls := 1, ratings := [20] } 1
  { s with
    slots := s.slots.set 0 { s.slots[0] with permit := s.slots[0].permit.map fun p => { p with rotationDue := true } }
    shedGate := .counting 0
    queue := [entry 1 1 1 2 .demand, entry 2 1 1 0 .budget] }

/-- The hypotheses of RotationStopsTheFirstCandidate on a state: its first entry has no candidate, its second the one in slot
0. -/
def rotationHypotheses (s : State) : Prop :=
  s.tablesSound ∧ s.resetHeld = false ∧ s.shedGate = .counting 0 ∧ s.shed.demand = .normal ∧ s.shed.threshold = none
    ∧ s.queue = [entry 1 1 1 2 .demand] ++ entry 2 1 1 0 .budget :: []
    ∧ s.rating 1 (s.level 1) = some 70 ∧ s.rating 2 (s.level 2) = some 20
    ∧ ∃ p, s.slots[(0 : SlotNo)].permit = some p ∧ p.state = .running ∧ p.stage + 1 = s.level p.unit
      ∧ s.cls p.unit ≠ 0 ∧ p.rotationDue = true ∧ p.unit ≠ 2 ∧ s.cls 2 ≤ s.cls p.unit ∧ 20 ≤ p.rating ∧ p.rating < 70
      ∧ ∀ j : SlotNo, j ≠ 0 → s.slots[j].permit = none

/-- Unit 0 asking for the one stage that runs, with its minimum run met or not. -/
def oneStage (met : Bool) (counter : Nat) : State :=
  State.reset |> withRec 0 recA 1 |> withPermit 0 0 0 .running counter 10 met none

theorem witness_RotationStopsTheFirstCandidate_met : rotationHypotheses (rotating (oneStage true 70)) := by
  unfold rotationHypotheses
  exact ⟨
    tablesSound_of_few _ (by decide +kernel) (by decide +kernel) (by decide +kernel) (by decide +kernel),
    rfl, rfl, rfl, rfl, rfl, by decide +kernel, by decide +kernel, _, rfl, by decide +kernel⟩

theorem witness_RotationStopsTheFirstCandidate_unmet :
    rotationHypotheses (rotating (oneStage false 5)) ∧ 5 < (rotating (oneStage false 5)).minRun 0 := by
  unfold rotationHypotheses
  exact ⟨⟨
    tablesSound_of_few _ (by decide +kernel) (by decide +kernel) (by decide +kernel) (by decide +kernel),
    rfl, rfl, rfl, rfl, rfl, by decide +kernel, by decide +kernel, _, rfl, by decide +kernel⟩, by decide +kernel⟩

theorem witness_RotationStopsTheFirstCandidate_wired :
    rotationHypotheses (rotating (wiredRunning true 900)) ∧ (rotating (wiredRunning true 900)).minOff 35 ≠ 0 := by
  unfold rotationHypotheses
  exact ⟨⟨
    tablesSound_of_few _ (by decide +kernel) (by decide +kernel) (by decide +kernel) (by decide +kernel),
    rfl, rfl, rfl, rfl, rfl, by decide +kernel, by decide +kernel, _, rfl, by decide +kernel⟩, by decide +kernel⟩

/-- An entry waits on demand and no permit is due for rotation: it has no candidate. -/
theorem witness_RotationWithoutACandidate :
    let s : State := { (oneStage true 70 |> withRec 1 { recA with cls := 1 } 1) with
      shedGate := .counting 0, queue := [entry 1 1 1 2 .demand] }
    s.tablesSound ∧ s.resetHeld = false ∧ s.shedGate = .counting 0 ∧ s.shed.demand = .normal ∧ s.shed.threshold = none
      ∧ ∀ j : SlotNo, ∀ q ∈ s.slots[j].permit, q.rotationDue = false :=
  ⟨tablesSound_of_few _ (by decide +kernel) (by decide +kernel) (by decide +kernel) (by decide +kernel), rfl, rfl, rfl, rfl,
    by decide +kernel⟩

/-- A fallback budget below the one stage of unit 0. -/
def shortOfBudget (s : State) : State := { s with site := { s.site with budget := 49 } }

/-- A site over its fallback budget. -/
def overBudget : State := shortOfBudget roof

theorem witness_NoGrantPassesWhileTheShedTestHolds : overBudget.overLimit = true := by decide +kernel

theorem witness_PassWithoutAGrantRewritesReasons :
    let s : State := { roof with queue := [entry 0 2 3 0 .gate] }
    let b : State := { roof with queue := [entry 0 2 3 0 .gate, entry 1 1 3 4 .gate, entry 2 1 3 0 .gate] }
    (∀ e ∈ s.queue, s.obstacle e ≠ none ∧ e.skips < s.site.skipLimit)
      ∧ b.queue = [entry 0 2 3 0 .gate] ++ entry 1 1 3 4 .gate :: [entry 2 1 3 0 .gate]
      ∧ (∀ f ∈ [entry 0 2 3 0 .gate], b.obstacle f ≠ none ∧ f.skips < b.site.skipLimit)
      ∧ b.obstacle (entry 1 1 3 4 .gate) ≠ none ∧ b.site.skipLimit ≤ 4 := by decide +kernel

/-- Two entries: unit 0 waits for a resting stage, unit 1 could start. -/
def admitting (c : Instr) : State :=
  let s := roofResting |> withStatus 0 (fun st => { st with desired := 1 }) |> withRec 1 recA 2
  { s with
    queue := [entry 0 1 3 0 .resting, entry 1 2 3 0 .gate, entry 2 1 7 0 .gate]
    startGate := if c = .startGateOpening then .opened else .held
    openingDue := decide (c = .startGateOpening)
    hold := if c = .startGateOpening then .ended else .running 0 }

theorem witness_PassGrantsTheFirstEntryThatMeetsNoCheck : ∀ c ∈ [Instr.startGateOpening, .restartHoldEnd],
    let s := admitting c
    let o : State := { s with startGate := .opened, hold := .ended }
    s.resetHeld = false
      ∧ (c = .startGateOpening ∧ s.openingDue = true ∧ s.startGate = .opened ∧ RestartHold.ended = s.hold
        ∨ c = .restartHoldEnd ∧ s.hold = .running 0 ∧ RestartHold.ended = .ended)
      ∧ s.queue = [entry 0 1 3 0 .resting] ++ entry 1 2 3 0 .gate :: [entry 2 1 7 0 .gate]
      ∧ (∀ f ∈ [entry 0 1 3 0 .resting], o.obstacle f ≠ none ∧ f.skips < s.site.skipLimit)
      ∧ o.obstacle (entry 1 2 3 0 .gate) = none ∧ s.freeList = 1 :: s.freeList.tail
      ∧ s.slots[(1 : SlotNo)].permit = none ∧ s.site.settleTime ≠ 0 ∧ s.configured 1 = true := by decide +kernel

theorem witness_SecondTickReachesEachPart :
    let order : List TickItem := [.part .regularPass, .part .slotCounters]
    let counting (s : State) : State := { s with shedGate := .counting 3 }
    let holding := counting { roof with queue := [entry 0 2 3 0 .gate] }
    let granting := counting { (quiet |> withRec 0 recA 1) with queue := [entry 0 1 3 0 .gate] }
    let calling := counting (State.reset |> withRec 35 recW 1)
    plainOrder order ∧ (∀ s ∈ [counting roof, holding, granting, calling], s.resetHeld = false ∧ s.shedGate ≠ .opened)
      ∧ (∀ s ∈ [counting roof, holding, granting], ∀ c : ChannelNo, s.configured (channelUnit c) = false)
      ∧ (counting roof).queue = [] ∧ (counting roof).meter.state ≠ .ok
      ∧ holding.hold ≠ .ended ∧ (∀ e ∈ holding.queue, e.skips < holding.site.skipLimit)
      ∧ (granting.hold = .ended ∧ granting.startGate = .opened ∧ granting.queue = [entry 0 1 3 0 .gate]
        ∧ granting.hasPermit 0 = false ∧ granting.freeList ≠ [] ∧ granting.shed.threshold = none
        ∧ granting.meter.state ≠ .ok ∧ granting.rating 0 0 = some 50
        ∧ granting.committed + 50 ≤ granting.site.budget ∧ 0 < granting.site.startSpacing)
      ∧ (calling.status (channelUnit 3)).state = .active ∧ (calling.status (channelUnit 3)).condition = .normal
      ∧ (calling.status (channelUnit 3)).desired = 1 ∧ calling.level (channelUnit 3) = 0
      ∧ calling.queued (channelUnit 3) = false ∧ calling.hold ≠ .ended ∧ calling.queue.length ≤ 12 :=
  ⟨⟨fun e => by simp, by decide⟩, by decide +kernel⟩

/-- A tick that finds the shed gate OPEN, over the fallback budget with unit 0's stage to stop, its minimum run met or not, and
within it; and an order of every part, which an event may follow. -/
theorem witness_SecondTickAtAnOpenShedGate :
    (∀ s ∈ [oneStage true 70, oneStage false 5], s.resetHeld = false ∧ s.shedGate = .opened
      ∧ (∀ c : ChannelNo, s.configured (channelUnit c) = false) ∧ s.queue = [] ∧ s.meter.state ≠ .ok
      ∧ s.committed ≤ s.site.budget ∧ s.shed.threshold = none)
    ∧ (∀ s ∈ [shortOfBudget (oneStage true 70), shortOfBudget (oneStage false 5)], s.resetHeld = false ∧ s.shedGate = .opened
      ∧ (∀ c : ChannelNo, s.configured (channelUnit c) = false) ∧ s.queue = [] ∧ s.meter.state ≠ .ok
      ∧ s.site.budget < s.committed ∧ ∃ p ∈ s.slots[(0 : SlotNo)].permit, p.state = .running
        ∧ p.stage + 1 = s.level p.unit ∧ s.cls p.unit ≠ 0 ∧ ∀ j : SlotNo, j ≠ 0 → s.slots[j].permit = none)
    ∧ 5 + 1 < (shortOfBudget (oneStage false 5)).minRun 0
    ∧ (shortOfBudget (oneStage true 70)).tablesSound ∧ (shortOfBudget (oneStage false 5)).tablesSound
    ∧ allTickParts.Perm allTickParts :=
  ⟨by decide +kernel, by decide +kernel, by decide +kernel,
    tablesSound_of_few _ (by decide +kernel) (by decide +kernel) (by decide +kernel) (by decide +kernel),
    tablesSound_of_few _ (by decide +kernel) (by decide +kernel) (by decide +kernel) (by decide +kernel),
    .refl _⟩

/-- A tick at which the rest at an entry's candidate stage ends. -/
theorem witness_SecondTickAtTheEndOfARest :
    (plainOrder [.part .regularPass, .part .slotCounters] ∧ restEnding.tablesSound)
    ∧ restEnding.resetHeld = false ∧ restEnding.shedGate ≠ .opened ∧ restEnding.hold = .ended
      ∧ restEnding.shed.threshold = none ∧ (∀ c : ChannelNo, restEnding.configured (channelUnit c) = false)
      ∧ restEnding.queue = [entry 0 1 3 0 .gate]
      ∧ restEnding.slots[(0 : SlotNo)].permit.any (fun p => decide (p.unit = 0) && decide (p.stage = restEnding.level 0)
        && decide (p.state = .resting)) = true
      ∧ restEnding.slots[(0 : SlotNo)].aArmed = true
      ∧ restEnding.slots[(0 : SlotNo)].aValue = restEnding.slots[(0 : SlotNo)].counter + 1
      ∧ restEnding.slots[(0 : SlotNo)].counter < 65535 :=
  ⟨⟨⟨fun e => by simp, by decide⟩,
    tablesSound_of_few _ (by decide +kernel) (by decide +kernel) (by decide +kernel) (by decide +kernel)⟩, by decide +kernel⟩

theorem witness_MillisecondTickSamplesAndTimes :
    let x : InputLevels := ⟨true, true, true, true, true, true⟩
    let low : Filter := { level := some false, last1 := some false, last2 := some false }
    let s : State := { State.reset with
      pending := List.replicate 3 (.millisecondTick x), meter := { Meter.fresh with pulseFilter := low, eoiFilter := low } }
    s.resetHeld = false ∧ s.pending = List.replicate 3 (.millisecondTick x) ∧ 0 < 3 ∧ 3 ≤ 3
      ∧ s.meter.pulseFilter = { level := some !x.pulse, last1 := some !x.pulse, last2 := some !x.pulse }
      ∧ s.meter.eoiFilter = { level := some !x.eoi, last1 := some !x.eoi, last2 := some !x.eoi }
      ∧ State.reset.meter.pulseFilter = { level := none, last1 := none, last2 := none } := by decide +kernel

theorem witness_RunningPermitExpiries :
    let starting := State.reset |> withRec 0 recA 1 |> withPermit 0 0 0 .starting 30 30 false none
    (∃ p, starting.slots[(0 : SlotNo)].permit = some p ∧ p.state = .starting ∧ starting.slots[(0 : SlotNo)].aArmed = true
      ∧ starting.slots[(0 : SlotNo)].aValue ≤ starting.slots[(0 : SlotNo)].counter)
    ∧ ∃ p, roofMet.slots[(0 : SlotNo)].permit = some p ∧ p.state = .running ∧ roofMet.slots[(0 : SlotNo)].aArmed = true
      ∧ roofMet.slots[(0 : SlotNo)].aValue ≤ roofMet.slots[(0 : SlotNo)].counter
      ∧ roofMet.slots[(0 : SlotNo)].pArmed = true
      ∧ roofMet.slots[(0 : SlotNo)].pValue * 64 ≤ roofMet.slots[(0 : SlotNo)].counter :=
  ⟨⟨_, rfl, by decide +kernel⟩, _, rfl, by decide +kernel⟩

/-- Unit 0 with both stages DRAINING at the end of their minimum run, that of stage 0 taken or not. -/
def bothDraining (met : Bool) : State :=
  State.reset |> withRec 0 recA 0 |> withPermit 0 0 0 .draining 10 10 met (some .released)
    |> withPermit 1 0 1 .draining 10 10 false (some .released)

theorem bothDraining_tablesSound (met : Bool) : (bothDraining met).tablesSound := by
  cases met <;> exact tablesSound_of_few _ (by decide +kernel) (by decide +kernel) (by decide +kernel) (by decide +kernel)

/-- The top stage expires over a stage that follows it to STOPPING, and over one that does not; the lower stage expires under an
unmet one; and a wired stage expires. -/
theorem witness_DrainingMinRunExpiryAppliesTopOrder :
    ((bothDraining true).tablesSound ∧ (bothDraining false).tablesSound)
      ∧ (∀ met, ∃ p q, (bothDraining met).slots[(1 : SlotNo)].permit = some p ∧ (bothDraining met).slots[(0 : SlotNo)].permit = some q
        ∧ (bothDraining met).resetHeld = false ∧ p.state = .draining ∧ p.stage + 1 = (bothDraining met).level p.unit
        ∧ isWired p.unit = false ∧ q.unit = p.unit ∧ q.stage < p.stage ∧ q.state = .draining ∧ q.minRunMet = met
        ∧ (bothDraining met).slots[(1 : SlotNo)].aArmed = true
        ∧ (bothDraining met).slots[(1 : SlotNo)].aValue ≤ (bothDraining met).slots[(1 : SlotNo)].counter)
      ∧ (∃ p top, (bothDraining false).slots[(0 : SlotNo)].permit = some p
        ∧ (bothDraining false).slots[(1 : SlotNo)].permit = some top ∧ p.state = .draining
        ∧ (bothDraining false).slots[(0 : SlotNo)].aArmed = true
        ∧ (bothDraining false).slots[(0 : SlotNo)].aValue ≤ (bothDraining false).slots[(0 : SlotNo)].counter
        ∧ top.unit = p.unit ∧ p.stage < top.stage ∧ top.stage + 1 = (bothDraining false).level p.unit
        ∧ ¬ (top.state = .draining ∧ top.minRunMet = true))
      ∧ ∃ p, (wiredEnding.slots[(0 : SlotNo)].permit = some p ∧ p.state = .draining
        ∧ wiredEnding.slots[(0 : SlotNo)].aArmed = true
        ∧ wiredEnding.slots[(0 : SlotNo)].aValue ≤ wiredEnding.slots[(0 : SlotNo)].counter ∧ channelUnit 3 = p.unit
        ∧ wiredEnding.minOff p.unit ≠ 0) ∧ wiredEnding.tablesSound :=
  ⟨⟨bothDraining_tablesSound true, bothDraining_tablesSound false⟩,
    fun met => by cases met <;> exact ⟨_, _, rfl, rfl, by decide +kernel⟩, ⟨_, _, rfl, rfl, by decide +kernel⟩, _,
    ⟨rfl, by decide +kernel⟩, tablesSound_of_few _ (by decide +kernel) (by decide +kernel) (by decide +kernel) (by decide +kernel)⟩

theorem witness_ComplianceAndMinOffExpiries :
    (∃ p, roofStopping.slots[(0 : SlotNo)].permit = some p ∧ p.state = .stopping
      ∧ roofStopping.slots[(0 : SlotNo)].aArmed = true
      ∧ roofStopping.slots[(0 : SlotNo)].aValue ≤ roofStopping.slots[(0 : SlotNo)].counter)
    ∧ ∃ p, roofResting.slots[(0 : SlotNo)].permit = some p ∧ p.state = .resting
      ∧ roofResting.slots[(0 : SlotNo)].aArmed = true
      ∧ roofResting.slots[(0 : SlotNo)].aValue ≤ roofResting.slots[(0 : SlotNo)].counter
      ∧ (roofResting.status p.unit).state ≠ .retiring
      ∧ ((roofResting |> withStatus 0 fun st => { st with state := .retiring }).status p.unit).state = .retiring
      ∧ ∀ j : SlotNo, j ≠ 0 → ∀ q ∈ roofResting.slots[j].permit, q.unit ≠ p.unit :=
  ⟨⟨_, rfl, by decide +kernel⟩, _, rfl, by decide +kernel⟩

/-- The reset state with a meter and a sync mode. -/
def metered (mode : SyncMode) (f : Meter → Meter) : State :=
  { State.reset with site := { siteDefaults with syncMode := mode }, meter := f Meter.fresh }

theorem witness_EveryCloseIsTheOneOperation :
    (metered .free fun m => { m with closeDue := some .free }).meter.closeDue = some .free
      ∧ (metered .meter fun m => { m with closeDue := some .selfClose }).meter.closeDue = some .selfClose
      ∧ (metered .meter fun m => { m with eoiDue := true, elapsed := 55 }).meter.eoiDue = true
      ∧ siteDefaults.subLength ≤ 55 + siteDefaults.grace ∧ 54 + siteDefaults.grace < siteDefaults.subLength
      ∧ (metered .meter fun m => { m with eoiDue := true, syncLost := true }).meter.syncLost = true := by decide +kernel

theorem witness_PulsesAreCountedAndTimed :
    let s (st : MeterState) (e : Option Nat) : State :=
      metered .free fun m => { m with pulseDue := true, lossDue := true, state := st, elapsedMs := e }
    (s .ok (some 49)).resetHeld = false ∧ (s .ok (some 49)).meter.lossDue = true ∧ (s .ok (some 49)).meter.pulseDue = true
      ∧ 49 < siteDefaults.minSpacing ∧ siteDefaults.minSpacing ≤ 50 ∧ (s .ok (some 50)).meter.elapsedMs = some 50
      ∧ (s .starting none).meter.elapsedMs = none ∧ (s .lost (some 60001)).meter.state = .lost
      ∧ siteDefaults.minSpacing ≤ 60001 := by decide +kernel

/-- The drive level of a configured channel, and of one that is not configured or held in reset. -/
theorem witness_DriveLevel :
    wired.resetHeld = false ∧ wired.configured (channelUnit 3) = true ∧ wired.wiredFields 3 = recW.wired
      ∧ State.reset.configured (channelUnit 3) = false ∧ held.resetHeld = true := by decide +kernel

theorem witness_CallChangeReleasesRestoresOrAsks :
    (∀ s ∈ [wired, wiredRunning true 900, wiredRunning false 59, wiredDraining],
      s.resetHeld = false ∧ s.channels[(3 : ChannelNo)].callDue = true
        ∧ (s.status (channelUnit 3)).state = .active ∧ s.callState 3 ≠ s.channels[(3 : ChannelNo)].calling)
    ∧ wired.callState 3 = true ∧ wired.hasPermit (channelUnit 3) = false ∧ wired.hold ≠ .ended ∧ wired.queue.length < 16
    ∧ (wiredRunning true 900).callState 3 = false ∧ (wiredRunning true 900).minOff 35 ≠ 0
    ∧ (wiredRunning false 59).minRun 35 = 60 ∧ wiredDraining.callState 3 = true
    ∧ wired.tablesSound ∧ (wiredRunning true 900).tablesSound ∧ (wiredRunning false 59).tablesSound
    ∧ wiredDraining.tablesSound :=
  ⟨by decide +kernel, by decide +kernel, by decide +kernel, by decide +kernel, by decide +kernel, by decide +kernel,
    by decide +kernel, by decide +kernel, by decide +kernel, wired_tablesSound, wiredRunning_tablesSound,
    wiredRunning_short_tablesSound, wiredDraining_tablesSound⟩

/-- A call that finds the stage DRAINING by a shed stop, and one at a LOCKED unit. -/
theorem witness_CallChangeRestoresNothing :
    let l := wiredDraining |> withStatus 35 fun st => { st with state := .locked }
    (∀ s ∈ [wiredShed, l], s.resetHeld = false ∧ s.channels[(3 : ChannelNo)].callDue = true
      ∧ s.callState 3 ≠ s.channels[(3 : ChannelNo)].calling)
    ∧ (wiredShed.status (channelUnit 3)).state = .active ∧ wiredShed.callState 3 = true
    ∧ wiredShed.slots[(0 : SlotNo)].permit.any (fun p => decide (p.unit = channelUnit 3) && decide (p.state = .draining)
      && decide (p.reason ≠ some .released)) = true
    ∧ (l.status (channelUnit 3)).state = .locked
    ∧ l.slots[(0 : SlotNo)].permit.any (fun p => p.state.commandedOn) = true
    ∧ wiredShed.tablesSound ∧ l.tablesSound :=
  ⟨by decide +kernel, by decide +kernel, by decide +kernel, by decide +kernel, by decide +kernel, by decide +kernel,
    tablesSound_of_few _ (by decide +kernel) (by decide +kernel) (by decide +kernel) (by decide +kernel),
    tablesSound_of_few _ (by decide +kernel) (by decide +kernel) (by decide +kernel) (by decide +kernel)⟩

theorem witness_CycleStopsAtTheOnLimit :
    (∀ s ∈ [wiredRunning true 900, wiredRunning false 59],
      s.resetHeld = false ∧ s.channels[(3 : ChannelNo)].testDue = true ∧ s.wiredFields 3 = recW.wired
        ∧ s.channels[(3 : ChannelNo)].grantRecorded = true ∧ 15 * 60 ≤ s.channels[(3 : ChannelNo)].cycleCounter
        ∧ s.minOff 35 ≠ 0 ∧ s.slots[(0 : SlotNo)].permit.any (fun p => decide (p.unit = channelUnit 3)
          && decide (p.state = .running)) = true)
    ∧ recW.wired.any (fun w => decide (w.cyclingMode = .always) && decide (0 < w.onLimit)
      && decide (w.onLimit < w.cyclePeriod)) = true
    ∧ ¬ (15 * 60 ≤ ((wiredRunning true 900).modifyChannel 3 fun ch =>
        { ch with cycleCounter := 899 }).channels[(3 : ChannelNo)].cycleCounter)
    ∧ (wiredRunning true 900).tablesSound ∧ (wiredRunning false 59).tablesSound :=
  ⟨by decide +kernel, by decide +kernel, by decide +kernel, wiredRunning_tablesSound, wiredRunning_short_tablesSound⟩

theorem witness_LinkLineStates :
    State.reset.resetHeld = false ∧ State.reset.link.line = .gap ∧ idle.link.line = .idle := by decide +kernel

/-- The gap has run, with units 1 (HEARD) and 2 (SILENT) configured, the ring at a position and a silent round or none. -/
def atChoice (position : Nat) (round : Option UnitNo) (urgent : List UnitNo) : State :=
  let s := State.reset |> withRec 1 recA 0 |> withRec 2 recA 0 |> withStatus 2 (fun st => { st with link := .silent })
  { s with link := { s.link with ringPosition := position, silentRound := round, urgent := urgent } }

theorem witness_ArbiterTakesTheFirstClaim :
    let heardOrSilent (s : State) (l : LinkCondition) (u : UnitNo) : Prop :=
      isWired u = false ∧ s.configured u = true ∧ (s.status u).link = l
    let only (s : State) (l : LinkCondition) (u : UnitNo) : Prop := ∀ v : UnitNo, heardOrSilent s l v ↔ v = u
    (atChoice 0 none [2]).link.urgent = 2 :: [] ∧ only (atChoice 0 (some 1) []) .silent 2
      ∧ (atChoice 0 (some 1) []).link.silentRound = some 1 ∧ only (atChoice 0 (some 2) []) .heard 1
      ∧ only (atChoice 1 none []) .heard 1 ∧ (atChoice 1 none []).link.ringPosition = 1
      ∧ (atChoice 2 none []).link.ringPosition = 2 ∧ only (atChoice 2 none []) .silent 2
      ∧ (let s := atChoice 0 (some 2) [] |> withStatus 1 fun st => { st with link := .silent }
        s.link.silentRound = some 2 ∧ (∀ v : UnitNo, heardOrSilent s .silent v → v.val ≤ 2)
          ∧ (∀ v : UnitNo, ¬ heardOrSilent s .heard v) ∧ heardOrSilent s .silent 1)
      ∧ (∀ v : UnitNo, ¬ heardOrSilent (State.reset |> withRec 1 recA 0) .silent v)
      ∧ ∀ v : UnitNo, ¬ heardOrSilent State.reset .heard v := by decide +kernel

theorem witness_CharactersAreTakenIntoTheReply :
    let s (l : LineState) (r : Receiver) : State := { State.reset with link := { State.reset.link with line := l, receiver := r } }
    (s .sending .waitingStart).link.line = .sending ∧ (s .awaiting .waitingHigh).link.receiver = .waitingHigh
      ∧ (s .awaiting .waitingStart).link.line ≠ .sending ∧ (s .awaiting .waitingStart).link.receiver ≠ .waitingHigh
      ∧ { (s .awaiting .waitingStart).link with lineWasHigh := true }.receiver = .waitingStart := by
  decide +kernel

theorem witness_MissesAreCounted :
    let s := awaiting 0 [0#8] roof
    let b : State := { s with link := { s.link with replyBroken := true } }
    let w := awaiting 0 (reportFrame 1 1#8 1#8 0#8) roof
    s.resetHeld = false ∧ s.link.line = .awaiting ∧ isWired 0 = false
      ∧ s.link.transaction = some { unit := 0, speed := .b19200, timeout := 50, frame := [] }
      ∧ 50 ≤ s.link.replyTimer ∧ s.link.reply.length < 8 ∧ b.link.replyBroken = true ∧ w.link.reply.length = 8
      ∧ w.link.replyBroken = false ∧ w.link.reply[3]? ≠ some (BitVec.ofNat 8 (0 + 1)) := by decide +kernel

/-- The hypotheses of the statements about a good report, on a state: the report is in, of an ACTIVE linked unit 0. -/
def reportIn (s : State) (d r x : Byte) : Prop :=
  s.awaitsWith 0 (reportFrame 0 d r x) ∧ isWired 0 = false ∧ (s.status 0).state = .active ∧ s.minOff 0 ≠ 0

/-- The state in which a report of unit 0 is in. -/
def reported (d r x : Byte) (s : State) : State := awaiting 0 (reportFrame 0 d r x) s

/-- A reply that comes in leaves the tables as they are. -/
theorem reported_tablesSound (d r x : Byte) (s : State) (h : s.tablesSound) : (reported d r x s).tablesSound := h

theorem witness_GoodReportIsRecorded : reportIn (reported 2#8 1#8 0#8 roof) 2#8 1#8 0#8 := by
  unfold reportIn State.awaitsWith
  decide +kernel

theorem witness_GoodReportOfAnUnconfiguredUnit :
    (reported 2#8 1#8 0#8 State.reset).awaitsWith 0 (reportFrame 0 2#8 1#8 0#8)
      ∧ (State.reset.status 0).state = .unconfigured := by
  unfold State.awaitsWith
  decide +kernel

theorem witness_ReportTripsOrCompletes :
    ((reported 2#8 0#8 1#8 roof).tablesSound ∧ reportIn (reported 2#8 0#8 1#8 roof) 2#8 0#8 1#8)
      ∧ (reported 0#8 0#8 0#8 roofStopping).tablesSound ∧ reportIn (reported 0#8 0#8 0#8 roofStopping) 0#8 0#8 0#8
      ∧ roofStopping.slots[(0 : SlotNo)].permit.any (fun p => decide (p.unit = 0) && decide (p.state = .stopping)) = true := by
  unfold reportIn State.awaitsWith
  exact ⟨⟨reported_tablesSound _ _ _ _ roof_tablesSound, by decide +kernel⟩,
    reported_tablesSound _ _ _ _ roofStopping_tablesSound, by decide +kernel, by decide +kernel⟩

/-- Every slot holds a RESTING permit of one of the units 1 to 24, and unit 0 is configured and holds none. -/
def fullTable : State :=
  let r : UnitRecord := { recA with ratings := [10, 10, 10, 10] }
  { State.reset with
    units := Vector.ofFn fun u => if u.val ≤ 24 then { record := some r, status := UnitStatus.fresh } else .blank
    slots := Vector.ofFn fun i => {
      permit := some { unit := Fin.ofNat 36 (i.val / 4 + 1), stage := i.val % 4, rating := 10, state := .resting
                       origin := .granted, minRunMet := true, rotationDue := false, reason := some .shed }
      counter := 0, aValue := 20, aArmed := true, pValue := 0, pArmed := false }
    freeList := [] }

theorem fullTable_tablesSound : fullTable.tablesSound :=
  tablesSound_of_few _ (by decide +kernel) (by decide +kernel) (by decide +kernel) (by decide +kernel)

theorem witness_ReportAdoptsOrRecordsRunningStages :
    (∀ s ∈ [bare, bare |> withStatus 0 (fun st => { st with state := .locked }),
        bare |> withStatus 0 (fun st => { st with state := .retiring }),
        bare |> withStatus 0 (fun st => { st with window := .closed })],
      (reported 2#8 2#8 0#8 s).awaitsWith 0 (reportFrame 0 2#8 2#8 0#8) ∧ s.minOff 0 ≠ 0
        ∧ 4 ≤ s.freeList.length ∧ (2#8 : Byte).toNat ≤ s.stageCount 0 ∧ s.level 0 ≤ 1 ∧ 1 < (2#8 : Byte).toNat
        ∧ (s.status 0).link = .heard ∧ ∀ j : SlotNo, s.slots[j].permit = none)
    ∧ (reported 2#8 2#8 0#8 bare).tablesSound := by
  unfold State.awaitsWith
  exact ⟨by decide +kernel, reported_tablesSound _ _ _ _ bare_tablesSound⟩

theorem witness_ReportWithAFullTable :
    (reported 2#8 2#8 0#8 fullTable).tablesSound
      ∧ (reported 2#8 2#8 0#8 fullTable).awaitsWith 0 (reportFrame 0 2#8 2#8 0#8) ∧ fullTable.freeList = []
      ∧ fullTable.minOff 0 ≠ 0 ∧ (2#8 : Byte).toNat ≤ fullTable.stageCount 0 ∧ fullTable.level 0 ≤ 0
      ∧ (fullTable.status 0).window = .opened
      ∧ ∀ j : SlotNo, ∀ p ∈ fullTable.slots[j].permit, p.unit = 0 → p.stage ≠ 0 := by
  unfold State.awaitsWith
  exact ⟨reported_tablesSound _ _ _ _ fullTable_tablesSound, by decide +kernel⟩

theorem witness_ReportReleasesAndRestores :
    ((reported 0#8 1#8 0#8 roof).tablesSound ∧ reportIn (reported 0#8 1#8 0#8 roof) 0#8 1#8 0#8
      ∧ (1#8 : Byte).toNat ≤ roof.level 0)
    ∧ reportIn (reported 1#8 2#8 0#8 roofDraining) 1#8 2#8 0#8 ∧ (2#8 : Byte).toNat ≤ roofDraining.level 0
      ∧ roofDraining.slots[(0 : SlotNo)].permit.any (fun p => decide (p.stage < 1) && decide (p.reason = some .released)) = true
    ∧ (reported 2#8 2#8 0#8 roofDraining).tablesSound ∧ reportIn (reported 2#8 2#8 0#8 roofDraining) 2#8 2#8 0#8
      ∧ roofDraining.level 0 ≤ (2#8 : Byte).toNat
      ∧ roofDraining.slots[(1 : SlotNo)].permit.any (fun p => decide (p.state = .draining)
        && decide (p.reason = some .released)) = true := by
  unfold reportIn State.awaitsWith
  exact ⟨⟨reported_tablesSound _ _ _ _ roof_tablesSound, by decide +kernel⟩,
    by decide +kernel, by decide +kernel, by decide +kernel,
    reported_tablesSound _ _ _ _ roofDraining_tablesSound, by decide +kernel, by decide +kernel, by decide +kernel⟩

/-- A report that asks for a stage that a shed stop drains, and one of a LOCKED unit. -/
theorem witness_ReportRestoresNothing :
    let l := shedDraining |> withStatus 0 fun st => { st with state := .locked }
    reportIn (reported 1#8 1#8 0#8 shedDraining) 1#8 1#8 0#8 ∧ (1#8 : Byte).toNat ≤ shedDraining.level 0
      ∧ shedDraining.slots[(0 : SlotNo)].permit.any (fun p => decide (p.stage < 1) && decide (p.state = .draining)
        && decide (p.reason ≠ some .released)) = true
      ∧ (reported 2#8 1#8 0#8 l).awaitsWith 0 (reportFrame 0 2#8 1#8 0#8) ∧ (l.status 0).state = .locked
      ∧ (1#8 : Byte).toNat ≤ l.level 0
      ∧ (reported 1#8 1#8 0#8 shedDraining).tablesSound ∧ (reported 2#8 1#8 0#8 l).tablesSound := by
  unfold reportIn State.awaitsWith
  exact ⟨by decide +kernel, by decide +kernel, by decide +kernel, by decide +kernel, by decide +kernel, by decide +kernel,
    tablesSound_of_few _ (by decide +kernel) (by decide +kernel) (by decide +kernel) (by decide +kernel),
    tablesSound_of_few _ (by decide +kernel) (by decide +kernel) (by decide +kernel) (by decide +kernel)⟩

/-- A step from a state that meets every invariant. -/
theorem witness_Invariants :
    let s : State := { roof with pending := [.lockUnit 0#8] }
    s.tablesSound ∧ s.minimumRunsKept ∧ s.permitFieldsSound ∧ s.classZeroSpared ∧ s.complianceSound ∧ s.holdAgrees
      ∧ s.ringSound ∧ s.urgentSound ∧ s.slotsSound ∧ ∃ t, step s = .next t :=
  ⟨roof_tablesSound, by decide +kernel, by decide +kernel, by decide +kernel, by decide +kernel, by decide +kernel,
    by decide +kernel, by decide +kernel, by decide +kernel, _, rfl⟩

/-- Unit 0 with a record, its stage 0 RUNNING or not, and n entries of units that have none, behind an entry of its own or none. -/
def wanting (r : UnitRecord) (runs : Bool) (own : List QueueEntry) (n : Nat) : State :=
  let s := State.reset |> withRec 0 r 1
  let s := if runs then s |> withPermit 0 0 0 .running 5 10 false none else s
  { s with
    units := Vector.ofFn fun u =>
      if 1 ≤ u.val ∧ u.val ≤ n then { record := some recA, status := { UnitStatus.fresh with desired := 1 } } else s.units[u]
    queue := own ++ (List.range n).map fun k => entry (Fin.ofNat 36 (k + 1)) 1 3 0 .hold }

/-- The desire step of a report: a unit that wants no more, an entry that holds the level already, one that holds another, a
unit without an entry, and a full queue whose last entry gives way or does not. -/
theorem witness_ReportTakesTheDesireStep :
    (∀ s ∈ [wanting recA true [entry 0 2 3 0 .hold] 1, wanting recA true [] 1, wanting recZero true [] 16,
        wanting recA true [] 16], ∀ d ∈ [1#8, 2#8],
      (reported d 1#8 0#8 s).awaitsWith 0 (reportFrame 0 d 1#8 0#8) ∧ (1#8 : Byte).toNat ≤ s.level 0
        ∧ (s.status 0).state = .active)
    ∧ (let s := wanting recA false [entry 0 1 3 0 .hold] 1
      (reported 2#8 0#8 0#8 s).awaitsWith 0 (reportFrame 0 2#8 0#8 0#8) ∧ (0#8 : Byte).toNat ≤ s.level 0)
    ∧ (wanting recA true [] 16).queue.length = 16 ∧ (wanting recZero true [] 16).cls 0 < 3
    ∧ (wanting recA true [entry 0 2 3 0 .hold] 1).tablesSound ∧ (wanting recA true [] 1).tablesSound
    ∧ (wanting recZero true [] 16).tablesSound ∧ (wanting recA true [] 16).tablesSound
    ∧ (wanting recA false [entry 0 1 3 0 .hold] 1).tablesSound := by
  unfold State.awaitsWith
  exact ⟨by decide +kernel, by decide +kernel, by decide +kernel, by decide +kernel,
    tablesSound_of_few _ (by decide +kernel) (by decide +kernel) (by decide +kernel) (by decide +kernel),
    tablesSound_of_few _ (by decide +kernel) (by decide +kernel) (by decide +kernel) (by decide +kernel),
    tablesSound_of_few _ (by decide +kernel) (by decide +kernel) (by decide +kernel) (by decide +kernel),
    tablesSound_of_few _ (by decide +kernel) (by decide +kernel) (by decide +kernel) (by decide +kernel),
    tablesSound_of_few _ (by decide +kernel) (by decide +kernel) (by decide +kernel) (by decide +kernel)⟩

end Sys2Proof.Tests
end

