-- ==== Sys2Proof/Proofs/DemandMetering.lean ====
section
/-! The shed test against the admission test, regime by regime (R83, R84), and the pass that grants nothing (R91). -/

namespace Sys2Proof.Machine

variable {s : State}

/-! ### The shed test and the admission test in each regime -/

theorem State.overLimit_fallback (h : s.regime = .fallback) : s.overLimit = true ↔ s.site.budget < s.committed := by
  simp [State.overLimit, h]

theorem State.overLimit_warming (h : s.regime = .warming) :
    s.overLimit = true ↔ s.site.limit < s.meter.rate + s.unsettled := by
  simp [State.overLimit, h]

theorem State.overLimit_full (h : s.regime = .full) : s.overLimit = true ↔ s.site.limit < s.projected 0 := by
  simp [State.overLimit, h]

theorem State.demandObstacle_fallback (h : s.regime = .fallback) (extra : Nat) :
    s.demandObstacle extra = none ↔ s.committed + extra ≤ s.site.budget := by
  simp [State.demandObstacle, h]

theorem State.demandObstacle_warming (h : s.regime = .warming) (extra : Nat) :
    s.demandObstacle extra = none ↔ s.meter.rate + s.unsettled + extra ≤ s.site.limit := by
  simp [State.demandObstacle, State.steadyTest, h]

theorem State.demandObstacle_full (h : s.regime = .full) (extra : Nat) :
    s.demandObstacle extra = none ↔
      s.projected extra ≤ s.site.limit - s.site.margin ∧ s.meter.rate + s.unsettled + extra ≤ s.site.limit := by
  simp [State.demandObstacle, State.steadyTest, State.windowTest, h]

/-! ### What the shed test excludes -/

/-- A greater candidate load never lowers the projected demand (R82). -/
theorem State.projected_mono (s : State) : Monotone s.projected := by
  intro a b hab
  unfold State.projected State.projectedEnergy
  gcongr

/-- The shed test takes no candidate and no margin, so where it holds every candidate fails the test of the regime (R84). -/
theorem State.demandObstacle_ne_none_of_overLimit (hover : s.overLimit = true) (extra : Nat) :
    s.demandObstacle extra ≠ none := by
  intro hpass
  cases hr : s.regime with
  | fallback =>
    have hshort := (State.overLimit_fallback hr).mp hover
    have hfits := (State.demandObstacle_fallback hr extra).mp hpass
    omega
  | warming =>
    have habove := (State.overLimit_warming hr).mp hover
    have hsteady := (State.demandObstacle_warming hr extra).mp hpass
    omega
  | full =>
    have habove := (State.overLimit_full hr).mp hover
    obtain ⟨hwindow, -⟩ := (State.demandObstacle_full hr extra).mp hpass
    have hmono : s.projected 0 ≤ s.projected extra := s.projected_mono extra.zero_le
    omega

/-! ### The pass -/

/-- An entry that meets no check has passed the admission test with the rating of its unit's next stage (R97). -/
theorem State.demandObstacle_of_obstacle_none {e : QueueEntry} (h : s.obstacle e = none) :
    s.demandObstacle ((s.rating e.unit (s.level e.unit)).getD 0) = none := by
  obtain ⟨-, -, -, hslot⟩ := s.obstacle_none h
  cases hd : s.demandObstacle ((s.rating e.unit (s.level e.unit)).getD 0) with
  | none => rfl
  | some r =>
    simp only [State.obstacle, State.restingAt, hslot, Option.map_none, hd] at h
    split_ifs at h

/-- A pass in which every entry meets a check grants nothing: it rewrites the queue alone (R91). -/
theorem State.admissionPass_of_obstacles (h : ∀ e ∈ s.queue, s.obstacle e ≠ none) :
    s.admissionPass = { s with queue := s.admissionPass.queue } := by
  have hnone : (s.walk s.queue).granted = none := by
    refine Option.eq_none_iff_forall_ne_some.mpr fun e he => ?_
    obtain ⟨hmem, hmeets⟩ := s.walk_granted he
    exact h e hmem hmeets
  simp [State.admissionPass, hnone]

/-- Settles O35: the shed test bounds the admission test in each regime, and a grant needs the admission test (R84). -/
theorem noGrantPassesWhileTheShedTestHolds : Obligations.NoGrantPassesWhileTheShedTestHolds := by
  intro s
  refine ⟨?_, fun hover => ⟨State.demandObstacle_ne_none_of_overLimit hover, ?_⟩⟩
  · cases hr : s.regime with
    | fallback => exact State.overLimit_fallback hr
    | warming => exact State.overLimit_warming hr
    | full => exact State.overLimit_full hr
  · exact State.admissionPass_of_obstacles fun e _ he =>
      State.demandObstacle_ne_none_of_overLimit hover _ (State.demandObstacle_of_obstacle_none he)

end Sys2Proof.Machine
end

