-- ==== Sys2Proof/Proofs/Shedding.lean ====
section
/-! The shed evaluation (R125). What a stop sets off leaves the Shed Controller's record and the OVERLOAD notice as they
were, so the action that follows the move of the demand state undoes nothing of it. -/

namespace Sys2Proof.Machine

/-! ### The notice word (R176) -/

/-- The notices have different bits. -/
theorem Notice.bit_inj {m n : Notice} : m.bit = n.bit ↔ m = n := by
  cases m <;> cases n <;> decide

variable (s : State) (u : UnitNo)

/-- Raising a notice sets its own flag and keeps every other. -/
theorem State.raised_raise (m n : Notice) : (s.raise m).raised n = (s.raised n || decide (n = m)) := by
  have hbit : n.bit < 16 := by cases n <;> decide
  simp [State.raised, Notice.word, hbit, Notice.bit_inj]

/-! ### The marks of the site demand -/

/-- What a move of the site demand state may write: the Shed Controller's record, and whether OVERLOAD is raised. -/
def State.demandMarks : ShedController × Bool := (s.shed, s.raised .overload)

theorem State.raise_demandMarks {n : Notice} (h : n ≠ .overload) : (s.raise n).demandMarks = s.demandMarks := by
  simp [State.demandMarks, State.raised_raise, h.symm]

@[simp] theorem State.withQueue_demandMarks (q : List QueueEntry) :
    ({ s with queue := q } : State).demandMarks = s.demandMarks := rfl

@[simp] theorem State.modifySlot_demandMarks (i : SlotNo) (f : Slot → Slot) :
    (s.modifySlot i f).demandMarks = s.demandMarks := rfl

@[simp] theorem State.onChannelOf_demandMarks (f : Channel → Channel) :
    (s.onChannelOf u f).demandMarks = s.demandMarks := by
  unfold State.onChannelOf; split <;> rfl

@[simp] theorem State.joinUrgent_demandMarks : (s.joinUrgent u).demandMarks = s.demandMarks := by
  unfold State.joinUrgent; split <;> rfl

@[simp] theorem State.handOver_demandMarks (n : Nat) : (s.handOver u n).demandMarks = s.demandMarks := by
  unfold State.handOver; split <;> simp

/-! ### Freeing, resting, stopping -/

/-- The completion of a retirement raises UNIT RETIRED alone (R17). -/
@[simp] theorem State.completeRetirement_demandMarks : (s.completeRetirement u).demandMarks = s.demandMarks := by
  unfold State.completeRetirement
  rw [State.raise_demandMarks _ (by decide), State.onChannelOf_demandMarks]
  rfl

@[simp] theorem State.freeSlot_demandMarks (i : SlotNo) : (s.freeSlot u i).demandMarks = s.demandMarks := by
  unfold State.freeSlot State.retireIfEmpty
  split
  · exact State.completeRetirement_demandMarks _ u
  · rfl

@[simp] theorem State.stopSlot_demandMarks (i : SlotNo) : (s.stopSlot u i).demandMarks = s.demandMarks := by
  unfold State.stopSlot State.restSlot
  split_ifs <;> simp

/-- The descent of top order keeps the marks: each of its steps stops one slot (R30). -/
theorem State.descend_demandMarks (n : Nat) (s : State) : (s.descend n u).demandMarks = s.demandMarks := by
  induction n generalizing s with
  | zero => rfl
  | succ n ih =>
    obtain hstays | ⟨i, -, -, -, -, -, -, hstops⟩ := s.descend_cases u n
    · rw [hstays]
    · rw [hstops, ih, State.stopSlot_demandMarks]

@[simp] theorem State.enterStop_demandMarks (r : StopReason) (stages : Nat → Bool) :
    (s.enterStop u r stages).demandMarks = s.demandMarks := by
  unfold State.enterStop State.topOrder
  rw [State.descend_demandMarks]
  exact List.foldlRecOn (motive := fun t : State => t.demandMarks = s.demandMarks) _ _ rfl fun _ hkept _ _ => hkept

/-! ### Admission and the queue -/

@[simp] theorem State.createGrant_demandMarks : (s.createGrant u).demandMarks = s.demandMarks := by
  unfold State.createGrant State.takeFree
  cases s.freeList with
  | nil => rfl
  | cons i rest => simp; rfl

@[simp] theorem State.admissionPass_demandMarks : s.admissionPass.demandMarks = s.demandMarks := by
  unfold State.admissionPass
  dsimp only
  split <;> simp

@[simp] theorem State.enqueue_demandMarks (d : Nat) : (s.enqueue u d).demandMarks = s.demandMarks :=
  State.admissionPass_demandMarks _

/-- The full-queue rule raises QUEUE FULL alone (R116). -/
@[simp] theorem State.enqueueFull_demandMarks (d : Nat) : (s.enqueueFull u d).demandMarks = s.demandMarks := by
  have hraise : (s.raise .queueFull).demandMarks = s.demandMarks := s.raise_demandMarks (by decide)
  unfold State.enqueueFull
  dsimp only
  split
  · split
    · rw [State.enqueue_demandMarks, State.withQueue_demandMarks, hraise]
    · exact hraise
  · exact hraise

/-- The desire step keeps the marks in each of its ways: in place, re-wanted, queued, and dequeued (R12). -/
@[simp] theorem State.desireStep_demandMarks : (s.desireStep u).demandMarks = s.demandMarks := by
  unfold State.desireStep
  dsimp only
  split
  · split
    · split
      · rfl
      · exact State.admissionPass_demandMarks _
    · split
      · exact s.enqueue_demandMarks u _
      · exact s.enqueueFull_demandMarks u _
  · exact s.withQueue_demandMarks _

@[simp] theorem State.settleLevel_demandMarks (n : Nat) : (s.settleLevel u n).demandMarks = s.demandMarks := by
  unfold State.settleLevel
  dsimp only
  split <;> simp

/-! ### The shed action -/

/-- A stop of the Shed Controller keeps its record and OVERLOAD (R130). -/
theorem State.stopVictim_demandMarks (r : StopReason) (i : SlotNo) :
    (s.stopVictim r i).demandMarks = s.demandMarks := by
  unfold State.stopVictim
  split
  · simp; rfl
  · rfl

/-- A shed action stops one victim, or sets the exhausted mark with its notice, or does nothing (R126, R132). -/
theorem State.shedAction_cases :
    (∃ r i, s.shedAction = s.stopVictim r i)
      ∨ s.shedAction = State.raise .shedExhausted { s with shed := { s.shed with exhausted := true } }
      ∨ s.shedAction = s := by
  unfold State.shedAction
  split
  · split
    · exact .inl ⟨_, _, rfl⟩
    · split
      · exact .inr (.inr rfl)
      · exact .inr (.inl rfl)
  · split
    · exact .inl ⟨_, _, rfl⟩
    · split
      · exact .inl ⟨_, _, rfl⟩
      · exact .inr (.inr rfl)

/-- A shed action changes neither the demand state nor the threshold nor OVERLOAD (R126). -/
theorem State.shedAction_keeps :
    s.shedAction.shed.demand = s.shed.demand ∧ s.shedAction.shed.threshold = s.shed.threshold
      ∧ s.shedAction.raised .overload = s.raised .overload := by
  obtain ⟨r, i, hstop⟩ | hexhausted | hnone := s.shedAction_cases
  · obtain ⟨hshed, hraised⟩ := Prod.mk.inj (s.stopVictim_demandMarks r i)
    simp [hstop, hshed, hraised]
  · rw [hexhausted, State.raised_raise]
    simp [State.raised]
  · simp [hnone]

/-- What follows the move changes neither the demand state nor the threshold nor OVERLOAD, whatever the gate. -/
theorem State.actIfOpen_keeps :
    s.actIfOpen.shed.demand = s.shed.demand ∧ s.actIfOpen.shed.threshold = s.shed.threshold
      ∧ s.actIfOpen.raised .overload = s.raised .overload := by
  unfold State.actIfOpen
  split
  · exact s.shedAction_keeps
  · exact ⟨rfl, rfl, rfl⟩

/-! ### The move of the demand state (R125) -/

/-- The move by the two results of the shed test: over the limit NORMAL alone moves, to OVERLOAD. -/
theorem State.moveDemand_eq :
    s.moveDemand = if s.overLimit = true then
        (if s.shed.demand = .normal then
          State.raise .overload { s with shed := { s.shed with demand := .overload, exhausted := false } } else s)
      else { s with shed := { s.shed with demand := .normal } } := by
  cases hd : s.shed.demand <;> simp [State.moveDemand, hd]

theorem State.moveDemand_shedGate : s.moveDemand.shedGate = s.shedGate := by
  unfold State.moveDemand; split_ifs <;> rfl

theorem State.moveDemand_threshold : s.moveDemand.shed.threshold = s.shed.threshold := by
  unfold State.moveDemand; split_ifs <;> rfl

theorem State.moveDemand_demand :
    s.moveDemand.shed.demand = if s.overLimit = true then .overload else .normal := by
  unfold State.moveDemand
  split
  · split
    · assumption
    · rfl
  · rfl

/-- OVERLOAD is raised by the one move from NORMAL. -/
theorem State.moveDemand_raised :
    s.moveDemand.raised .overload = true ↔ s.raised .overload = true ∨ s.overLimit = true ∧ s.shed.demand = .normal := by
  rw [State.moveDemand_eq]
  split_ifs with hover hnormal
  · simp [State.raised_raise, hover, hnormal]
  · simp [hnormal]
  · simp [State.raised, hover]

/-- Settles O31: the evaluation is the move by the shed test and then, where the gate is OPEN, the action, which keeps what
the move wrote (R125). -/
theorem shedEvaluationMovesTheDemandState : Obligations.ShedEvaluationMovesTheDemandState := by
  intro s moved
  have hmoved : s.moveDemand = moved := s.moveDemand_eq
  have hgate : s.moveDemand.shedGate = s.shedGate := s.moveDemand_shedGate
  obtain ⟨hdemand, hthreshold, hraised⟩ := s.moveDemand.actIfOpen_keeps
  rw [← hmoved]
  refine ⟨fun hopen => if_pos (hgate.trans hopen), fun hshut => if_neg (hgate ▸ hshut), ?_, ?_, ?_⟩
  · exact hdemand.trans s.moveDemand_demand
  · rw [← s.moveDemand_raised, ← hraised]
    rfl
  · exact hthreshold.trans s.moveDemand_threshold

end Sys2Proof.Machine
end

