-- ==== Sys2Proof/Proofs/PanelReads.lean ====
section
/-! A command that only reads, through the open port, and the snapshot of READ DEMAND (R88, R171, R175). -/

namespace Sys2Proof.Machine

variable {s : State}

/-! ### A write transaction through the open port (R171) -/

/-- While the port answers, a write that fits the command buffer is stored whole, executes and latches its response. -/
theorem State.serve_of_open {bytes : List Byte} (hopen : s.portShut = false)
    (hfits : bytes.length ≤ Config.bufferCapacity) (f : State → Reply) :
    s.serve bytes f = (f { s with panel := { s.panel with buffer := bytes } }).1.latch
      (f { s with panel := { s.panel with buffer := bytes } }).2 := by
  simp [State.serve, hopen, List.take_of_length_le hfits]

/-- A command that only reads answers with its data and changes nothing else, where the data do not come from the command
buffer. -/
theorem State.serve_answering {bytes : List Byte} (hopen : s.portShut = false)
    (hfits : bytes.length ≤ Config.bufferCapacity) (data : State → List Byte)
    (hdata : data { s with panel := { s.panel with buffer := bytes } } = data s) :
    s.serve bytes (answering data) = s.answered bytes (.okWith (data s)) := by
  rw [State.serve_of_open hopen hfits, answering, hdata]
  rfl

/-! ### The snapshot of READ DEMAND (R88, R175) -/

/-- READ DEMAND through the open port latches the snapshot alone. -/
theorem exec_readDemand (hopen : s.portShut = false) :
    exec .readDemand s = .next (s.answered [0x30#8] (.okWith s.demandData)) :=
  congrArg Host.Outcome.next (State.serve_answering hopen (by decide) State.demandData rfl)

/-- The hold's bit is set until the restart hold has ended. -/
theorem State.siteBits_eq (s : State) :
    s.siteBits = (if s.shed.demand = .overload then 1 else 0) + (if s.meter.syncLost then 2 else 0)
      + (if s.hold = .ended then 0 else 4) := by
  simp [State.siteBits, State.holdRunning]

/-- Settles O20: the latched data are the snapshot, whose last six bytes are the two gates' codes and counts (R175). -/
theorem readDemandLatchesTheSnapshot : Obligations.ReadDemandLatchesTheSnapshot := by
  refine ⟨⟨rfl, rfl⟩, fun s hopen => ?_⟩
  rw [exec_readDemand hopen, State.demandData, State.reportedProjection, State.siteBits_eq]
  cases s.startGate <;> cases s.shedGate <;>
    simp [byte1, StartGate.report, ShedGate.report]

end Sys2Proof.Machine
end


/-! What every command leaves alone: the commands that wait, the working site record and the Settings Store (log entry 2,
R178, R181). -/

namespace Sys2Proof.Machine

variable (s : State) (u : UnitNo)

/-! ### The base of the commands to units -/

theorem State.live_base {f : State → State} (h : s.SameBase (f s)) : s.SameBase (s.live f) := by
  unfold State.live; split
  · exact .refl s
  · exact h

theorem State.install_base (r : UnitRecord) : s.SameBase (s.install u r) := by
  unfold State.install
  refine State.SameBase.trans ?_ (State.onChannelOf_base _ _ _)
  exact ⟨rfl, rfl, rfl, rfl, rfl, rfl, rfl, rfl, rfl, rfl⟩

theorem State.wakeLine_base : s.SameBase s.wakeLine := by
  unfold State.wakeLine; split
  · exact s.nextTransaction_base
  · exact .refl s

theorem State.configureUnit_base (r : UnitRecord) : s.SameBase (s.configureUnit u r) := by
  unfold State.configureUnit
  dsimp only
  split
  · exact (s.install_base u r).trans (State.callEvent_base _ _ _)
  · exact (s.install_base u r).trans (State.wakeLine_base _)

theorem State.replaceRecord_base (r : UnitRecord) : s.SameBase (s.replaceRecord u r) :=
  ⟨rfl, rfl, rfl, rfl, rfl, rfl, rfl, rfl, rfl, rfl⟩

theorem State.spareClassZero_base : s.SameBase (s.spareClassZero u) :=
  State.SameBase.foldl _ (fun t i => t.modifySlot_base i _) _ s

theorem State.changeClass_base (a b : Nat) : s.SameBase (s.changeClass u a b) := by
  unfold State.changeClass
  dsimp only
  split
  · exact .refl s
  · refine State.SameBase.trans ?_ (State.moveByClass_base _ _ _)
    split
    · exact s.spareClassZero_base u
    · exact .refl s

theorem State.clampWanted_base (r : UnitRecord) : s.SameBase (s.clampWanted u r) := by
  unfold State.clampWanted
  split
  · split
    · exact s.rewant_base u _
    · exact .refl s
  · exact .refl s

theorem State.changeRecord_base (a b : UnitRecord) : s.SameBase (s.changeRecord u a b) :=
  ((s.replaceRecord_base u b).trans (State.changeClass_base _ _ _ _)).trans (State.clampWanted_base _ _ _)

theorem State.setUnitRecord_base (r : UnitRecord) : s.SameBase (s.setUnitRecord u r).1 := by
  unfold State.setUnitRecord
  split
  · exact s.configureUnit_base u r
  · split
    · exact .refl s
    · split
      · exact .refl s
      · exact s.changeRecord_base u _ r

theorem State.setUnit_base (params : List Byte) : s.SameBase (s.setUnit params).1 := by
  unfold State.setUnit
  split
  · exact .refl s
  · split
    · exact s.setUnitRecord_base _ _
    · exact .refl s

theorem State.lockUnit_base : s.SameBase (s.lockUnit u).1 := by
  unfold State.lockUnit
  split <;> dsimp only [refusedWith]
  · exact s.windDown_base u _ _
  all_goals exact .refl s

theorem State.unlockUnit_base : s.SameBase (s.unlockUnit u).1 := by
  unfold State.unlockUnit
  split <;> dsimp only [refusedWith]
  · exact (s.modifyStatus_base u _).trans (State.desireStep_base _ _)
  all_goals exact .refl s

theorem State.retireUnit_base : s.SameBase (s.retireUnit u).1 := by
  unfold State.retireUnit
  split <;> dsimp only [refusedWith]
  · exact (s.windDown_base u _ _).trans (State.retireIfEmpty_base _ _)
  · exact (s.windDown_base u _ _).trans (State.retireIfEmpty_base _ _)
  all_goals exact .refl s

theorem State.releaseUnit_base : s.SameBase (s.releaseUnit u).1 := by
  unfold State.releaseUnit
  split
  · exact (s.forceRelease_base u).trans (State.settleLevel_base _ _ _)
  · exact .refl s

theorem withUnit_base (b : Byte) {f : UnitNo → State → Reply} (h : ∀ v, s.SameBase (f v s).1) :
    s.SameBase (withUnit b f s).1 := by
  unfold withUnit
  split
  · exact h _
  · exact .refl s

/-! ### The settings and the waiting commands -/

/-- Two states with the same working site record, the same stored bytes and marker, and the same waiting commands: the
milliseconds that a SAVE has run are left out. -/
structure State.SameSettings (s t : State) : Prop where
  pending : t.pending = s.pending
  site : t.site = s.site
  storeSite : t.store.site = s.store.site
  storePlaces : t.store.places = s.store.places
  storeValid : t.store.valid = s.store.valid
  storeSaving : t.store.saving = s.store.saving

variable {s u}

theorem State.SameSettings.refl (s : State) : s.SameSettings s := ⟨rfl, rfl, rfl, rfl, rfl, rfl⟩

theorem State.SameSettings.trans {s t r : State} (h : s.SameSettings t) (k : t.SameSettings r) : s.SameSettings r :=
  ⟨k.pending.trans h.pending, k.site.trans h.site, k.storeSite.trans h.storeSite, k.storePlaces.trans h.storePlaces,
   k.storeValid.trans h.storeValid, k.storeSaving.trans h.storeSaving⟩

theorem State.SameBase.settings {t : State} (h : s.SameBase t) : s.SameSettings t :=
  ⟨h.pending, h.site, by rw [h.store], by rw [h.store], by rw [h.store], by rw [h.store]⟩

theorem State.live_settings {f : State → State} (h : s.SameSettings (f s)) : s.SameSettings (s.live f) := by
  unfold State.live; split
  · exact .refl s
  · exact h

/-- A write transaction keeps the settings where its command does. -/
theorem State.serve_settings {bytes : List Byte} {f : State → Reply} (h : ∀ t : State, t.SameSettings (f t).1) :
    s.SameSettings (s.serve bytes f) := by
  unfold State.serve
  split
  · exact .refl s
  · refine State.SameSettings.trans ?_ (State.SameSettings.trans (h _) ⟨rfl, rfl, rfl, rfl, rfl, rfl⟩)
    exact ⟨rfl, rfl, rfl, rfl, rfl, rfl⟩

theorem State.serve_pending {bytes : List Byte} {f : State → Reply} (h : ∀ t : State, (f t).1.pending = t.pending) :
    (s.serve bytes f).pending = s.pending := by
  unfold State.serve
  split
  · rfl
  · exact h _

variable (s u)

theorem State.modifyMeter_settings (f : Meter → Meter) : s.SameSettings (s.modifyMeter f) := ⟨rfl, rfl, rfl, rfl, rfl, rfl⟩

/-! ### The events of the part -/

theorem State.settleExpiry_base (i : SlotNo) : s.SameBase (s.settleExpiry i) := by
  unfold State.settleExpiry; split
  · exact s.modifySlot_base i _
  · exact .refl s

theorem State.minRunExpiry_base (i : SlotNo) : s.SameBase (s.minRunExpiry i) := by
  unfold State.minRunExpiry; split
  · exact s.modifySlot_base i _
  · exact .refl s

theorem State.drainingExpiry_base (i : SlotNo) : s.SameBase (s.drainingExpiry i) := by
  unfold State.drainingExpiry; split
  · exact ((s.modifySlot_base i _).trans (State.topOrder_base _ _)).trans (State.settleLevel_base _ _ _)
  · exact .refl s

theorem State.rotationExpiry_base (i : SlotNo) : s.SameBase (s.rotationExpiry i) := by
  unfold State.rotationExpiry; split
  · split
    · exact s.modifySlot_base i _
    · exact .refl s
  · exact .refl s

theorem State.complianceExpiry_base (i : SlotNo) : s.SameBase (s.complianceExpiry i) := by
  unfold State.complianceExpiry; split
  · exact ((s.modifySlot_base i _).trans (State.modifyStatus_base _ _ _)).trans (State.raise_base _ _)
  · exact .refl s

theorem State.minOffExpiry_base (i : SlotNo) : s.SameBase (s.minOffExpiry i) := by
  unfold State.minOffExpiry; split
  · exact s.freeSlot_base _ i
  · exact .refl s

theorem State.openStartGate_base : s.SameBase s.openStartGate := by
  unfold State.openStartGate; split
  · refine State.SameBase.trans ?_ (State.admissionPass_base _)
    exact ⟨rfl, rfl, rfl, rfl, rfl, rfl, rfl, rfl, rfl, rfl⟩
  · exact .refl s

theorem State.openShedGate_base : s.SameBase s.openShedGate := by
  unfold State.openShedGate; split
  · refine State.SameBase.trans ?_ (State.shedAction_base _)
    exact ⟨rfl, rfl, rfl, rfl, rfl, rfl, rfl, rfl, rfl, rfl⟩
  · exact .refl s

theorem State.endHold_settings : s.SameSettings s.endHold := by
  unfold State.endHold; split
  · refine State.SameSettings.trans ?_ (State.admissionPass_base _).settings
    exact ⟨rfl, rfl, rfl, rfl, rfl, rfl⟩
  · exact .refl s

theorem State.meterLoss_settings : s.SameSettings s.meterLoss := by
  unfold State.meterLoss; split
  · exact (s.modifyMeter_settings _).trans (State.raise_base _ _).settings
  · exact .refl s

theorem State.closeSubinterval_settings : s.SameSettings s.closeSubinterval :=
  (s.modifyMeter_settings _).trans (State.raiseIf_base _ _ _).settings

theorem State.freeClose_settings : s.SameSettings s.freeClose := by
  unfold State.freeClose; split
  · exact s.closeSubinterval_settings
  · exact .refl s

theorem State.selfClose_settings : s.SameSettings s.selfClose := by
  unfold State.selfClose; split
  · exact ((s.modifyMeter_settings _).trans (State.closeSubinterval_settings _)).trans (State.raise_base _ _).settings
  · exact .refl s

theorem State.eoiMark_settings : s.SameSettings s.eoiMark := by
  unfold State.eoiMark
  split
  · dsimp only
    split
    · exact s.modifyMeter_settings _
    · split
      · exact ((s.modifyMeter_settings _).trans (State.modifyMeter_settings _ _)).trans (State.closeSubinterval_settings _)
      · exact ((s.modifyMeter_settings _).trans (State.closeSubinterval_settings _)).trans
          (State.raiseIf_base _ _ _).settings
  · exact .refl s

theorem State.pulseEdge_settings (tickFirst : Bool) : s.SameSettings (s.pulseEdge tickFirst) := by
  unfold State.pulseEdge
  split
  · dsimp only
    split
    · exact (s.modifyMeter_settings _).trans (State.raise_base _ _).settings
    · exact ((s.modifyMeter_settings _).trans (State.modifyMeter_settings _ _)).trans (State.shedEvaluation_base _).settings
  · exact .refl s

theorem State.callChange_base (c : ChannelNo) : s.SameBase (s.callChange c) := by
  unfold State.callChange
  split
  · split
    · exact s.callEvent_base c _
    · exact s.modifyChannel_base c _
  · exact .refl s

theorem State.cycleStop_base (c : ChannelNo) : s.SameBase (s.cycleStop c) := by
  unfold State.cycleStop
  split
  · dsimp only
    split
    · exact ((s.modifyChannel_base c _).trans (State.enterStop_base _ _ _ _)).trans (State.settleLevel_base _ _ _)
    · exact s.modifyChannel_base c _
  · exact .refl s

/-! ### The ticks -/

/-- A part that takes a second tick keeps the settings. -/
theorem State.takePart_settings (p : TickPart) : s.SameSettings (s.takePart p) := by
  cases p with
  | shedEvaluation => exact s.shedEvaluation_base.settings
  | wiredRetry c =>
    unfold State.takePart State.retryWired
    dsimp only
    split
    · exact (s.desireStep_base _).settings
    · exact .refl s
  | regularPass => exact s.admissionPass_base.settings
  | subintervalClock => exact s.modifyMeter_settings _
  | rateDecay => exact s.modifyMeter_settings _
  | _ => dsimp only [State.takePart]; exact ⟨rfl, rfl, rfl, rfl, rfl, rfl⟩

theorem State.takeEvent_settings (e : TickEvent) : s.SameSettings (s.takeEvent e) := by
  cases e with
  | settleExpiry i => exact (s.settleExpiry_base i).settings
  | minRunExpiry i => exact (s.minRunExpiry_base i).settings
  | drainingMinRunExpiry i => exact (s.drainingExpiry_base i).settings
  | rotationExpiry i => exact (s.rotationExpiry_base i).settings
  | complianceExpiry i => exact (s.complianceExpiry_base i).settings
  | minOffExpiry i => exact (s.minOffExpiry_base i).settings
  | startGateOpening => exact s.openStartGate_base.settings
  | shedGateOpening => exact s.openShedGate_base.settings
  | restartHoldEnd => exact s.endHold_settings
  | meterLoss => exact s.meterLoss_settings
  | freeClose => exact s.freeClose_settings
  | selfClose => exact s.selfClose_settings
  | cycleOnLimitStop c => exact (s.cycleStop_base c).settings

theorem State.secondTick_settings (order : List TickItem) : s.SameSettings (s.secondTick order) := by
  unfold State.secondTick
  refine List.foldlRecOn (motive := fun t : State => s.SameSettings t) _ _ ⟨rfl, rfl, rfl, rfl, rfl, rfl⟩ ?_
  intro t ht item _
  cases item with
  | part p => exact ht.trans (t.takePart_settings p)
  | event e => exact ht.trans (t.takeEvent_settings e)

theorem State.millisecondTick_settings (inputs : InputLevels) : s.SameSettings (s.millisecondTick inputs) := by
  unfold State.millisecondTick
  dsimp only
  split <;> exact ⟨rfl, rfl, rfl, rfl, rfl, rfl⟩

/-! ### The link's events -/

theorem State.gapEnd_base : s.SameBase s.gapEnd := by
  unfold State.gapEnd; split
  · exact s.nextTransaction_base
  · exact .refl s

theorem State.endReply_base : s.SameBase s.endReply := by
  unfold State.endReply
  split
  · split
    · split
      · exact s.beginGap_base.trans (State.report_base _ _ _)
      · exact s.beginGap_base.trans (State.missOf_base _ _)
    · exact .refl s
  · exact .refl s

theorem State.endBroken_base : s.SameBase s.endBroken := by
  unfold State.endBroken
  split
  · split
    · exact s.beginGap_base.trans (State.missOf_base _ _)
    · exact .refl s
  · exact .refl s

theorem State.endTimeout_base : s.SameBase s.endTimeout := by
  unfold State.endTimeout
  split
  · split
    · exact s.beginGap_base.trans (State.missOf_base _ _)
    · exact .refl s
  · exact .refl s

/-! ### The site commands -/

theorem State.curtail_base (n : Nat) : s.SameBase (s.curtail n).1 := by
  unfold State.curtail
  split
  · exact .refl s
  · refine State.SameBase.trans ?_ (State.actIfOpen_base _)
    exact ⟨rfl, rfl, rfl, rfl, rfl, rfl, rfl, rfl, rfl, rfl⟩

theorem State.setSite_pending (params : List Byte) : (s.setSite params).1.pending = s.pending := by
  unfold State.setSite State.replaceSite
  split
  · rfl
  · split
    · dsimp only
      split
      · rfl
      · exact (State.shedEvaluation_base _).pending
    · rfl

theorem State.setSite_store (params : List Byte) : (s.setSite params).1.store = s.store := by
  unfold State.setSite State.replaceSite
  split
  · rfl
  · split
    · dsimp only
      split
      · rfl
      · exact (State.shedEvaluation_base _).store
    · rfl

theorem State.setLimit_base (limit margin : Nat) :
    (s.setLimit limit margin).1.pending = s.pending ∧ (s.setLimit limit margin).1.store = s.store := by
  unfold State.setLimit
  split
  · exact ⟨rfl, rfl⟩
  · exact ⟨(State.shedEvaluation_base _).pending, (State.shedEvaluation_base _).store⟩

theorem State.readPermit_base (b : Byte) : s.SameBase (s.readPermit b).1 := by
  unfold State.readPermit; split <;> exact .refl s

theorem State.powerOn_pending (straps : BitVec 2) : (s.powerOn straps).pending = s.pending := by
  unfold State.powerOn
  dsimp only
  split <;> rfl

theorem State.servedRestart_settings : s.SameSettings s.servedRestart := by
  unfold State.servedRestart
  split
  · exact .refl s
  · exact ⟨rfl, rfl, rfl, rfl, rfl, rfl⟩

/-! ### Every command -/

/-- The commands that may write the working site record or the Settings Store. -/
def writesSettings : Sys2Proof.Instr → Bool
  | .setSite _ | .setLimit _ _ | .powerOnReset _ | .save | .saveEnd | .resetAsserted | .panelWrite _ _ _ => true
  | _ => false

/-- A command that is not one of the settings' own answers a state with the same settings. -/
theorem exec_settings (c : Instr) (h : writesSettings c = false) : ∃ t, exec c s = .next t ∧ s.SameSettings t := by
  cases c with
  | setUnit params => exact ⟨_, rfl, State.serve_settings fun t => (t.setUnit_base params).settings⟩
  | getUnit b => exact ⟨_, rfl, State.serve_settings fun t => (withUnit_base t b fun _ => .refl t).settings⟩
  | readUnitStatus b => exact ⟨_, rfl, State.serve_settings fun t => (withUnit_base t b fun _ => .refl t).settings⟩
  | lockUnit b => exact ⟨_, rfl, State.serve_settings fun t => (withUnit_base t b t.lockUnit_base).settings⟩
  | unlockUnit b => exact ⟨_, rfl, State.serve_settings fun t => (withUnit_base t b t.unlockUnit_base).settings⟩
  | retireUnit b => exact ⟨_, rfl, State.serve_settings fun t => (withUnit_base t b t.retireUnit_base).settings⟩
  | releaseUnit b => exact ⟨_, rfl, State.serve_settings fun t => (withUnit_base t b t.releaseUnit_base).settings⟩
  | getSite => exact ⟨_, rfl, State.serve_settings fun t => .refl t⟩
  | curtail n => exact ⟨_, rfl, State.serve_settings fun t => (t.curtail_base _).settings⟩
  | readDemand => exact ⟨_, rfl, State.serve_settings fun t => .refl t⟩
  | resetPeak => exact ⟨_, rfl, State.serve_settings fun t => t.modifyMeter_settings fun m => { m with peak := 0 }⟩
  | readPermit b => exact ⟨_, rfl, State.serve_settings fun t => (t.readPermit_base b).settings⟩
  | readQueue => exact ⟨_, rfl, State.serve_settings fun t => .refl t⟩
  | readNotices => exact ⟨_, rfl, State.serve_settings fun t => ⟨rfl, rfl, rfl, rfl, rfl, rfl⟩⟩
  | restart => exact ⟨_, rfl, s.servedRestart_settings⟩
  | secondTick order => exact ⟨_, rfl, State.live_settings (s.secondTick_settings order)⟩
  | settleExpiry i => exact ⟨_, rfl, (s.live_base (s.settleExpiry_base i)).settings⟩
  | minRunExpiry i => exact ⟨_, rfl, (s.live_base (s.minRunExpiry_base i)).settings⟩
  | drainingMinRunExpiry i => exact ⟨_, rfl, (s.live_base (s.drainingExpiry_base i)).settings⟩
  | rotationExpiry i => exact ⟨_, rfl, (s.live_base (s.rotationExpiry_base i)).settings⟩
  | complianceExpiry i => exact ⟨_, rfl, (s.live_base (s.complianceExpiry_base i)).settings⟩
  | minOffExpiry i => exact ⟨_, rfl, (s.live_base (s.minOffExpiry_base i)).settings⟩
  | startGateOpening => exact ⟨_, rfl, (s.live_base s.openStartGate_base).settings⟩
  | shedGateOpening => exact ⟨_, rfl, (s.live_base s.openShedGate_base).settings⟩
  | restartHoldEnd => exact ⟨_, rfl, State.live_settings s.endHold_settings⟩
  | meterLoss => exact ⟨_, rfl, State.live_settings s.meterLoss_settings⟩
  | freeClose => exact ⟨_, rfl, State.live_settings s.freeClose_settings⟩
  | selfClose => exact ⟨_, rfl, State.live_settings s.selfClose_settings⟩
  | eoiMark => exact ⟨_, rfl, State.live_settings s.eoiMark_settings⟩
  | pulseEdge f => exact ⟨_, rfl, State.live_settings (s.pulseEdge_settings f)⟩
  | callChange c => exact ⟨_, rfl, (s.live_base (s.callChange_base c)).settings⟩
  | cycleOnLimitStop c => exact ⟨_, rfl, (s.live_base (s.cycleStop_base c)).settings⟩
  | linkGapEnd => exact ⟨_, rfl, (s.live_base s.gapEnd_base).settings⟩
  | pollSent => exact ⟨_, rfl, (s.live_base (s.modifyLink_base _)).settings⟩
  | reportReceived => exact ⟨_, rfl, (s.live_base s.endReply_base).settings⟩
  | replyEndedEarly => exact ⟨_, rfl, (s.live_base s.endBroken_base).settings⟩
  | replyTimeout => exact ⟨_, rfl, (s.live_base s.endTimeout_base).settings⟩
  | millisecondTick inputs => exact ⟨_, rfl, State.live_settings (s.millisecondTick_settings inputs)⟩
  | characterReceived data mark => exact ⟨_, rfl, (s.live_base (s.modifyLink_base _)).settings⟩
  | receiverFramingError mark => exact ⟨_, rfl, (s.live_base (s.modifyLink_base _)).settings⟩
  | receiverLineHigh => exact ⟨_, rfl, (s.live_base (s.modifyLink_base _)).settings⟩
  | setSite _ | setLimit _ _ | powerOnReset _ | save | saveEnd | resetAsserted | panelWrite _ _ _ => cases h

theorem State.endSave_pending : s.endSave.pending = s.pending := by
  unfold State.endSave; split <;> rfl

/-- The commands of the panel port run from the bytes of a write as they run from their own rows. -/
theorem State.runWrite_pending (bytes : List Byte) (i : Instr) : (s.runWrite bytes i).pending = s.pending := by
  cases i with
  | setUnit params => exact State.serve_pending fun t => (t.setUnit_base params).pending
  | getUnit b => exact State.serve_pending fun t => (withUnit_base t b fun _ => .refl t).pending
  | readUnitStatus b => exact State.serve_pending fun t => (withUnit_base t b fun _ => .refl t).pending
  | lockUnit b => exact State.serve_pending fun t => (withUnit_base t b t.lockUnit_base).pending
  | unlockUnit b => exact State.serve_pending fun t => (withUnit_base t b t.unlockUnit_base).pending
  | retireUnit b => exact State.serve_pending fun t => (withUnit_base t b t.retireUnit_base).pending
  | releaseUnit b => exact State.serve_pending fun t => (withUnit_base t b t.releaseUnit_base).pending
  | setSite params => exact State.serve_pending fun t => t.setSite_pending params
  | setLimit d m => exact State.serve_pending fun t => (t.setLimit_base _ _).1
  | curtail n => exact State.serve_pending fun t => (t.curtail_base _).pending
  | readPermit b => exact State.serve_pending fun t => (t.readPermit_base b).pending
  | getSite | readDemand | resetPeak | readQueue | readNotices | save => exact State.serve_pending fun t => rfl
  | restart => exact s.servedRestart_settings.pending
  | _ => rfl

theorem State.writeTransaction_pending (a : BitVec 7) (bytes : List Byte) (broken : Bool) :
    (s.writeTransaction a bytes broken).pending = s.pending := by
  unfold State.writeTransaction
  split
  · rfl
  · split
    · exact State.serve_pending fun t => rfl
    · split
      · rfl
      iterate 3 exact State.serve_pending fun t => rfl
      · exact s.runWrite_pending _ _

/-- Settles O2: every arm of the dispatch is a next state, and no operation touches the waiting commands. -/
theorem everyCommandAnswersANextState : Obligations.EveryCommandAnswersANextState := by
  intro c s
  cases h : writesSettings c with
  | false => exact (exec_settings s c h).imp fun t ht => ⟨ht.1, ht.2.pending⟩
  | true =>
    cases c with
    | setSite params => exact ⟨_, rfl, State.serve_pending fun t => t.setSite_pending params⟩
    | setLimit d m => exact ⟨_, rfl, State.serve_pending fun t => (t.setLimit_base _ _).1⟩
    | powerOnReset straps => exact ⟨_, rfl, s.powerOn_pending straps⟩
    | save => exact ⟨_, rfl, State.serve_pending fun t => rfl⟩
    | saveEnd =>
      refine ⟨_, rfl, ?_⟩
      split
      · rfl
      · exact s.endSave_pending
    | resetAsserted => exact ⟨_, rfl, rfl⟩
    | panelWrite a bytes broken => exact ⟨_, rfl, s.writeTransaction_pending a bytes broken⟩
    | _ => cases h

/-- A write that names no command is refused or carries none, and keeps the settings. -/
theorem State.writeTransaction_settings (a : BitVec 7) (bytes : List Byte) (broken : Bool)
    (h : (Instr.panelWrite a bytes broken).wellFormed = true) : s.SameSettings (s.writeTransaction a bytes broken) := by
  unfold State.writeTransaction
  split
  · exact .refl s
  · split
    · exact State.serve_settings fun t => .refl t
    · next hb =>
      split
      · exact .refl s
      iterate 3 exact State.serve_settings fun t => .refl t
      · next hd =>
        simp [Instr.wellFormed, hd] at h
        exact absurd h hb

/-- Settles O7: only SET SITE, SET LIMIT and the power-on load write the working site record, and only SAVE, its end and the
two halves of a power-on reset the store. -/
theorem settingsChangeOnlyByTheirCommands : Obligations.SettingsChangeOnlyByTheirCommands := by
  intro c s t hwf hexec
  cases h : writesSettings c with
  | false =>
    obtain ⟨t', ht, hs⟩ := exec_settings s c h
    cases ht.symm.trans hexec
    exact ⟨.inl hs.site, .inl ⟨hs.storeSite, hs.storePlaces, hs.storeValid, hs.storeSaving⟩⟩
  | true =>
    cases c with
    | panelWrite a bytes broken =>
      cases hexec
      have hs := s.writeTransaction_settings a bytes broken hwf
      exact ⟨.inl hs.site, .inl ⟨hs.storeSite, hs.storePlaces, hs.storeValid, hs.storeSaving⟩⟩
    | setSite params =>
      cases hexec
      have hstore : (s.serve (0x20#8 :: params) (State.setSite params)).store = s.store := by
        unfold State.serve; split
        · rfl
        · exact State.setSite_store _ params
      exact ⟨.inr (.inl ⟨params, rfl⟩), .inl (by rw [hstore]; exact ⟨rfl, rfl, rfl, rfl⟩)⟩
    | setLimit d m =>
      cases hexec
      have hstore : (s.serve (0x22#8 :: (byte2 d.toNat ++ byte2 m.toNat)) (State.setLimit d.toNat m.toNat)).store
          = s.store := by
        unfold State.serve; split
        · rfl
        · exact (State.setLimit_base _ _ _).2
      exact ⟨.inr (.inr (.inl ⟨d, m, rfl⟩)), .inl (by rw [hstore]; exact ⟨rfl, rfl, rfl, rfl⟩)⟩
    | powerOnReset straps =>
      exact ⟨.inr (.inr (.inr ⟨straps, rfl⟩)), .inr (.inr (.inr (.inr ⟨straps, rfl⟩)))⟩
    | save =>
      cases hexec
      refine ⟨.inl ?_, .inr (.inl rfl)⟩
      unfold State.serve; split <;> rfl
    | saveEnd =>
      cases hexec
      refine ⟨.inl ?_, .inr (.inr (.inl rfl))⟩
      split
      · rfl
      · unfold State.endSave; split <;> rfl
    | resetAsserted => cases hexec; exact ⟨.inl rfl, .inr (.inr (.inr (.inl rfl)))⟩
    | _ => cases h

end Sys2Proof.Machine


/-! The layouts on the panel port: the bytes of a panel command (R171, R173), of the unit record (R174) and of the site
record (R173), each read back whole. -/

namespace Sys2Proof.Machine

/-! ### Bytes and numbers -/

theorem byte2_number2 (hi lo : Byte) : byte2 (number2 hi lo) = [hi, lo] := by
  have hh := hi.isLt
  have hl := lo.isLt
  simp only [byte2, number2, List.cons.injEq, and_true]
  constructor <;> apply BitVec.eq_of_toNat_eq <;> simp only [BitVec.toNat_ofNat] <;> omega

theorem byte1_toNat (b : Byte) : byte1 b.toNat = [b] := by simp [byte1]

theorem Polarity.code_of_ofCode {n : Nat} {x : Polarity} (h : Polarity.ofCode n = some x) : x.code = n := by
  unfold Polarity.ofCode at h; split at h <;> cases h <;> rfl

theorem CyclingMode.code_of_ofCode {n : Nat} {x : CyclingMode} (h : CyclingMode.ofCode n = some x) : x.code = n := by
  unfold CyclingMode.ofCode at h; split at h <;> cases h <;> rfl

theorem CountingEdge.code_of_ofCode {n : Nat} {x : CountingEdge} (h : CountingEdge.ofCode n = some x) : x.code = n := by
  unfold CountingEdge.ofCode at h; split at h <;> cases h <;> rfl

theorem SyncMode.code_of_ofCode {n : Nat} {x : SyncMode} (h : SyncMode.ofCode n = some x) : x.code = n := by
  unfold SyncMode.ofCode at h; split at h <;> cases h <;> rfl

theorem LinkSpeed.code_of_ofCode {n : Nat} {x : LinkSpeed} (h : LinkSpeed.ofCode n = some x) : x.code = n := by
  unfold LinkSpeed.ofCode at h; split at h <;> cases h <;> rfl

/-! ### The bytes of a panel command -/

/-- The number of a code byte names the byte. -/
theorem code_eq_of_toNat {code : Byte} {n : Nat} (h : code.toNat = n) : code = BitVec.ofNat 8 n := by
  rw [← h, BitVec.ofNat_toNat, BitVec.setWidth_eq]

theorem oneByteCommand_ok {f : Byte → Sys2Proof.Instr} {params : List Byte} {i : Sys2Proof.Instr}
    (h : oneByteCommand f params = .ok i) : ∃ b, params = [b] ∧ i = f b := by
  unfold oneByteCommand at h
  split at h
  · cases h; exact ⟨_, rfl, rfl⟩
  · cases h

theorem bareCommand_ok {j : Sys2Proof.Instr} {params : List Byte} {i : Sys2Proof.Instr}
    (h : bareCommand j params = .ok i) : params = [] ∧ i = j := by
  unfold bareCommand at h
  split at h
  · cases h; exact ⟨rfl, rfl⟩
  · cases h

theorem toNat_word (hi lo : Byte) : (hi ++ lo : BitVec 16).toNat = number2 hi lo := by
  have := lo.isLt
  rw [BitVec.toNat_append, number2, Nat.shiftLeft_eq, ← Nat.shiftLeft_eq, Nat.shiftLeft_add_eq_or_of_lt this]

theorem word_of_bytes (d1 d0 : Byte) :
    (d1 ++ d0 : BitVec 16).extractLsb' 8 8 = d1 ∧ (d1 ++ d0 : BitVec 16).extractLsb' 0 8 = d0 := by
  have h1 := d1.isLt
  have h0 := d0.isLt
  constructor <;> apply BitVec.eq_of_toNat_eq <;>
    rw [BitVec.extractLsb'_toNat, toNat_word, number2, Nat.shiftRight_eq_div_pow] <;> omega

theorem bytes_of_word (d : BitVec 16) : (d.extractLsb' 8 8 ++ d.extractLsb' 0 8 : BitVec 16) = d := by
  ext i hi
  simp only [BitVec.getElem_append, BitVec.getElem_extractLsb']
  split
  · simp [hi]
  · have : 8 + (i - 8) = i := by omega
    simp [this, hi]

theorem limitCommand_ok {params : List Byte} {i : Sys2Proof.Instr} (h : limitCommand params = .ok i) :
    ∃ d1 d0 m1 m0, params = [d1, d0, m1, m0] ∧ i = .setLimit (d1 ++ d0) (m1 ++ m0) := by
  unfold limitCommand at h
  split at h
  · cases h; exact ⟨_, _, _, _, rfl, rfl⟩
  · cases h

/-- The command that a code and its parameters name has them as its bytes, and meets what its row asks for but the length of
the whole write (R173). -/
theorem encodeWrite_of_decodeCommand {code : Byte} {params : List Byte} {i : Sys2Proof.Instr}
    (h : decodeCommand code params = .ok i) (hl : (code :: params).length ≤ Config.bufferCapacity) :
    encodeWrite i = some (code :: params) ∧ i.wellFormed = true := by
  have one {f : Byte → Sys2Proof.Instr} {n : Nat} (hc : code.toNat = n) (hp : oneByteCommand f params = .ok i)
      (he : ∀ b, encodeWrite (f b) = some [BitVec.ofNat 8 n, b]) (hw : ∀ b, (f b).wellFormed = true) :
      encodeWrite i = some (code :: params) ∧ i.wellFormed = true := by
    obtain ⟨b, rfl, rfl⟩ := oneByteCommand_ok hp
    rw [code_eq_of_toNat hc]
    exact ⟨he b, hw b⟩
  have bare {j : Sys2Proof.Instr} {n : Nat} (hc : code.toNat = n) (hp : bareCommand j params = .ok i)
      (he : encodeWrite j = some [BitVec.ofNat 8 n]) (hw : j.wellFormed = true) :
      encodeWrite i = some (code :: params) ∧ i.wellFormed = true := by
    obtain ⟨rfl, rfl⟩ := bareCommand_ok hp
    rw [code_eq_of_toNat hc]
    exact ⟨he, hw⟩
  unfold decodeCommand at h
  split at h
  case h_1 hc =>
    unfold unitCommand at h
    split at h
    · next h2 =>
      cases h
      rw [code_eq_of_toNat hc]
      simp only [List.length_cons, Config.bufferCapacity] at hl
      refine ⟨rfl, ?_⟩
      simp only [Instr.wellFormed, Config.bufferCapacity, Bool.and_eq_true, decide_eq_true_eq]
      omega
    · cases h
  case h_8 hc =>
    unfold siteCommand at h
    split at h
    · next h2 =>
      cases h
      rw [code_eq_of_toNat hc]
      exact ⟨rfl, by simpa [Instr.wellFormed] using h2⟩
    · cases h
  case h_10 hc =>
    obtain ⟨d1, d0, m1, m0, rfl, rfl⟩ := limitCommand_ok h
    rw [code_eq_of_toNat hc]
    obtain ⟨hd1, hd0⟩ := word_of_bytes d1 d0
    obtain ⟨hm1, hm0⟩ := word_of_bytes m1 m0
    exact ⟨by simp only [encodeWrite, hd1, hd0, hm1, hm0], rfl⟩
  case h_19 => cases h
  case h_9 hc => exact bare hc h rfl rfl
  case h_12 hc => exact bare hc h rfl rfl
  case h_13 hc => exact bare hc h rfl rfl
  case h_15 hc => exact bare hc h rfl rfl
  case h_16 hc => exact bare hc h rfl rfl
  case h_17 hc => exact bare hc h rfl rfl
  case h_18 hc => exact bare hc h rfl rfl
  all_goals next hc => exact one hc h (fun _ => rfl) fun _ => rfl

/-- The bytes of a write that name a command are its own (R171, R173). -/
theorem encodeWrite_of_decodeWrite {i : Sys2Proof.Instr} {bytes : List Byte} (h : decodeWrite bytes = .ok i) :
    encodeWrite i = some bytes ∧ i.wellFormed = true := by
  unfold decodeWrite at h
  split at h
  · cases h
  · split at h
    · cases h
    · next hl => exact encodeWrite_of_decodeCommand h (Nat.not_lt.mp hl)

/-- A well-formed panel command is named by its bytes (R171, R173). -/
theorem decodeWrite_of_encodeWrite {i : Sys2Proof.Instr} {bytes : List Byte} (hw : i.wellFormed = true)
    (h : encodeWrite i = some bytes) : decodeWrite bytes = .ok i := by
  cases i with
  | setUnit params =>
    cases h
    simp only [Instr.wellFormed, Bool.and_eq_true, decide_eq_true_eq] at hw
    simp [decodeWrite, decodeCommand, unitCommand, hw]
  | setSite params =>
    cases h
    simp only [Instr.wellFormed, decide_eq_true_eq] at hw
    simp [decodeWrite, hw, decodeCommand, siteCommand, Config.bufferCapacity]
  | setLimit d m =>
    cases h
    simp only [decodeWrite, List.length_cons, List.length_nil, decodeCommand, limitCommand, bytes_of_word]
    rfl
  | getUnit | readUnitStatus | lockUnit | unlockUnit | retireUnit | releaseUnit | curtail | readPermit => cases h; rfl
  | getSite | readDemand | resetPeak | readQueue | readNotices | save | restart => cases h; rfl
  | _ => cases h

theorem setLimit_bytes (w : BitVec 16) :
    [w.extractLsb' 8 8, w.extractLsb' 0 8] = [w.toNat / 256, w.toNat].map (BitVec.ofNat 8) := by
  have hw := w.isLt
  simp only [List.map_cons, List.map_nil, List.cons.injEq, and_true]
  constructor <;> apply BitVec.eq_of_toNat_eq <;>
    simp [BitVec.extractLsb'_toNat, Nat.shiftRight_eq_div_pow]

/-- Settles O14: decode of encode and encode of decode, and the table of codes row by row. -/
theorem writeBytesNameTheirCommand : Obligations.WriteBytesNameTheirCommand := by
  refine ⟨fun _ _ => decodeWrite_of_encodeWrite, fun _ _ => encodeWrite_of_decodeWrite, fun _ => ⟨rfl, rfl⟩,
    fun _ => rfl, rfl, fun limit margin => ?_⟩
  have hl := setLimit_bytes limit
  have hm := setLimit_bytes margin
  simp only [List.map_cons, List.map_nil, List.cons.injEq, and_true] at hl hm
  simp only [encodeWrite, hl, hm, List.map_cons, List.map_nil]

/-! ### The unit record -/

theorem WiredFields.encode_eq (w : WiredFields) : w.encode =
    [BitVec.ofNat 8 w.cyclePeriod, BitVec.ofNat 8 w.onLimit, BitVec.ofNat 8 w.cyclingMode.code,
      BitVec.ofNat 8 w.drivePolarity.code, BitVec.ofNat 8 w.callPolarity.code] := rfl

/-- The wired fields that were written are read again (R174). -/
theorem takeWired_encode {w : WiredFields} (hp : w.cyclePeriod ≤ 255) (hl : w.onLimit ≤ 255) :
    takeWired w.encode = some (some w) := by
  simp only [WiredFields.encode_eq, takeWired, byte_toNat (CyclingMode.code_lt _), byte_toNat (Polarity.code_lt _),
    CyclingMode.ofCode_code, Polarity.ofCode_code, byte_toNat (Nat.lt_succ_of_le hp), byte_toNat (Nat.lt_succ_of_le hl)]
  rfl

/-- The wired bytes are those of the fields read from them. -/
theorem encode_of_takeWired {bs : List Byte} {w : Option WiredFields} (h : takeWired bs = some w) :
    w.elim [] WiredFields.encode = bs := by
  unfold takeWired at h
  split at h
  · cases h; rfl
  · simp only [Option.bind_eq_bind, Option.bind_eq_some_iff] at h
    obtain ⟨mode, hm, drive, hd, call, hc, h⟩ := h
    cases h
    simp [WiredFields.encode_eq, CyclingMode.code_of_ofCode hm, Polarity.code_of_ofCode hd, Polarity.code_of_ofCode hc]
  · cases h

/-- The ratings' bytes are those of the numbers read from them. -/
theorem flatMap_of_takeRatings {n : Nat} {bs tail : List Byte} {l : List Nat} (h : takeRatings n bs = some (l, tail)) :
    l.flatMap byte2 ++ tail = bs ∧ l.length = n := by
  induction n generalizing bs l with
  | zero => cases h; exact ⟨rfl, rfl⟩
  | succ n ih =>
    match bs, h with
    | hi :: lo :: bs, h =>
      simp only [takeRatings, Option.map_eq_some_iff, Prod.exists] at h
      obtain ⟨l', tail', h', he⟩ := h
      cases he
      obtain ⟨hb, hn⟩ := ih h'
      simp [byte2_number2, hb, hn]

/-- What R2 asks of a unit record, value by value. -/
theorem UnitRecord.valid_iff (u : UnitNo) (r : UnitRecord) : r.valid u = true ↔
    1 ≤ r.ratings.length ∧ r.ratings.length ≤ 4 ∧ (∀ rating ∈ r.ratings, 1 ≤ rating ∧ rating ≤ 1023)
      ∧ r.cls ≤ 7 ∧ r.minRun ≤ 1023 ∧ r.minOff ≤ 1023 ∧ r.rotation ≤ 63
      ∧ (u.val < 32 → r.wired = none)
      ∧ (32 ≤ u.val → r.ratings.length = 1 ∧ ∃ w, r.wired = some w ∧ w.cyclePeriod ≤ 255 ∧ w.onLimit ≤ 255) := by
  by_cases hu : 32 ≤ u.val
  · have hl : ¬ u.val < 32 := Nat.not_lt.mpr hu
    cases hw : r.wired <;>
      simp [UnitRecord.valid, inRange, isWired, WiredFields.valid, hu, hl, hw, and_assoc]
  · have hl : u.val < 32 := Nat.lt_of_not_le hu
    simp [UnitRecord.valid, inRange, isWired, hu, hl, and_assoc]

theorem takeUnitTail_encode {u : UnitNo} {r : UnitRecord} (h : r.valid u = true) :
    takeUnitTail r.ratings (BitVec.ofNat 8 r.cls :: (byte2 r.minRun ++ (byte2 r.minOff
      ++ (BitVec.ofNat 8 r.rotation :: r.wired.elim [] WiredFields.encode)))) = some r := by
  obtain ⟨-, -, -, hcls, hrun, hoff, hrot, hlinked, hwired⟩ := (r.valid_iff u).mp h
  have hw : takeWired (r.wired.elim [] WiredFields.encode) = some r.wired := by
    by_cases hu : u.val < 32
    · rw [hlinked hu]; rfl
    · obtain ⟨-, w, hw, hp, hl⟩ := hwired (Nat.le_of_not_lt hu)
      rw [hw]; exact takeWired_encode hp hl
  simp only [byte2, List.cons_append, List.nil_append, takeUnitTail, hw, Option.map_some,
    number2_byte2 (show r.minRun < 65536 by omega), number2_byte2 (show r.minOff < 65536 by omega),
    byte_toNat (show r.cls < 256 by omega), byte_toNat (show r.rotation < 256 by omega)]

/-- A valid record's layout is read back whole (R174). -/
theorem parseUnitRecord_encode {u : UnitNo} {r : UnitRecord} (h : r.valid u = true) :
    parseUnitRecord (r.encode u) = some (u, r) := by
  have hv := h
  obtain ⟨-, hlen, hratings, -⟩ := (r.valid_iff u).mp h
  have hu : (BitVec.ofNat 8 u.val).toNat = u.val := byte_toNat (by omega)
  have hn : (BitVec.ofNat 8 r.ratings.length).toNat = r.ratings.length := byte_toNat (by omega)
  have hshape : r.encode u = BitVec.ofNat 8 u.val :: BitVec.ofNat 8 r.ratings.length :: (r.ratings.flatMap byte2
      ++ (BitVec.ofNat 8 r.cls :: (byte2 r.minRun ++ (byte2 r.minOff
        ++ (BitVec.ofNat 8 r.rotation :: r.wired.elim [] WiredFields.encode))))) := by
    simp [UnitRecord.encode, byte1]
  rw [hshape]
  simp only [parseUnitRecord, hu, hn, takeRatings_flatMap r.ratings (fun n hm => by have := hratings n hm; omega),
    takeUnitTail_encode h, Fin.is_lt, dite_true, Fin.eta, hv, if_true]

/-- Bytes that are read as a unit record are its layout (R174). -/
theorem encode_of_parseUnitRecord {bytes : List Byte} {u : UnitNo} {r : UnitRecord}
    (h : parseUnitRecord bytes = some (u, r)) : r.encode u = bytes ∧ r.valid u = true := by
  unfold parseUnitRecord at h
  split at h
  · next ub nb rest =>
    split at h
    · next hub =>
      split at h
      · next ratings tail hratings =>
        split at h
        · next r' htail =>
          split at h
          · next hvalid =>
            cases h
            refine ⟨?_, hvalid⟩
            obtain ⟨hrest, hlen⟩ := flatMap_of_takeRatings hratings
            unfold takeUnitTail at htail
            split at htail
            · simp only [Option.map_eq_some_iff] at htail
              obtain ⟨w, hw, rfl⟩ := htail
              have hw := encode_of_takeWired hw
              simp [UnitRecord.encode, byte1_toNat, byte2_number2, hw, hlen, ← hrest]
            · cases htail
          · cases h
        · cases h
      · cases h
    · cases h
  · cases h

/-- The layout of R174, byte by byte. -/
theorem UnitRecord.encode_bytes (u : UnitNo) (r : UnitRecord) : r.encode u
    = ([u.val, r.ratings.length] ++ r.ratings.flatMap (fun rating => [rating / 256, rating])
      ++ [r.cls, r.minRun / 256, r.minRun, r.minOff / 256, r.minOff, r.rotation]
      ++ match r.wired with
        | none => []
        | some w => [w.cyclePeriod, w.onLimit, if w.cyclingMode = .always then 0 else 1,
            if w.drivePolarity = .activeHigh then 0 else 1, if w.callPolarity = .activeHigh then 0 else 1]).map
      (BitVec.ofNat 8) := by
  have hratings : r.ratings.flatMap byte2
      = (r.ratings.flatMap fun rating => [rating / 256, rating]).map (BitVec.ofNat 8) := by
    simp [List.map_flatMap]; rfl
  have hmode (m : CyclingMode) : m.code = if m = .always then 0 else 1 := by cases m <;> rfl
  have hpol (p : Polarity) : p.code = if p = .activeHigh then 0 else 1 := by cases p <;> rfl
  cases hw : r.wired with
  | none => simp [UnitRecord.encode, hratings, hw, byte1, byte2]
  | some w => simp [UnitRecord.encode, hratings, hw, byte1, byte2, WiredFields.encode_eq, hmode, hpol]

/-- Settles O15: parse of encode, encode of parse, the layout and the ranges. -/
theorem unitRecordLayoutIsReadBack : Obligations.UnitRecordLayoutIsReadBack :=
  ⟨fun _ _ => parseUnitRecord_encode, fun _ _ _ => encode_of_parseUnitRecord, UnitRecord.encode_bytes,
    fun u r => r.valid_iff u⟩

/-! ### The site record -/

/-- What R85 asks of a site record, value by value. -/
theorem SiteRecord.valid_iff (r : SiteRecord) : r.valid = true ↔
    (1 ≤ r.pulseWeight ∧ r.pulseWeight ≤ 10000) ∧ (10 ≤ r.minSpacing ∧ r.minSpacing ≤ 1000)
      ∧ (10 ≤ r.lossTime ∧ r.lossTime ≤ 600) ∧ (10 ≤ r.subLength ∧ r.subLength ≤ 900)
      ∧ (1 ≤ r.subCount ∧ r.subCount ≤ 15) ∧ r.subCount * r.subLength ≤ 3600
      ∧ (1 ≤ r.grace ∧ r.grace ≤ 60) ∧ 2 * r.grace < r.subLength
      ∧ (1 ≤ r.limit ∧ r.limit ≤ 65535) ∧ r.margin ≤ r.limit ∧ r.budget ≤ 65535
      ∧ (1 ≤ r.startSpacing ∧ r.startSpacing ≤ 255) ∧ (1 ≤ r.shedSpacing ∧ r.shedSpacing ≤ 255)
      ∧ r.settleTime ≤ 1023 ∧ (1 ≤ r.complianceTimeout ∧ r.complianceTimeout ≤ 1023)
      ∧ (1 ≤ r.skipLimit ∧ r.skipLimit ≤ 15) ∧ (1 ≤ r.silenceCount ∧ r.silenceCount ≤ 15)
      ∧ (20 ≤ r.replyTimeout ∧ r.replyTimeout ≤ 255) ∧ r.restartHold ≤ 600 ∧ r.noticeMask.getLsbD 15 = false := by
  simp only [SiteRecord.valid, inRange, Bool.and_eq_true, decide_eq_true_eq, Bool.not_eq_true', Nat.zero_le, true_and]
  constructor <;> intro h <;> simp only [h, and_self]

theorem SiteRecord.encode_codes (r : SiteRecord) : r.encode = [r.pulseWeight / 256, r.pulseWeight,
    r.countingEdge.code, r.minSpacing / 256, r.minSpacing,
    r.lossTime / 256, r.lossTime, r.subLength / 256, r.subLength, r.subCount,
    r.syncMode.code, r.grace, r.limit / 256, r.limit, r.margin / 256, r.margin,
    r.budget / 256, r.budget, r.startSpacing, r.shedSpacing, r.settleTime / 256, r.settleTime,
    r.complianceTimeout / 256, r.complianceTimeout, r.skipLimit, r.silenceCount, r.replyTimeout,
    r.linkSpeed.code, r.restartHold / 256, r.restartHold,
    r.noticeMask.toNat / 256, r.noticeMask.toNat].map (BitVec.ofNat 8) := by
  unfold SiteRecord.encode byte1 byte2
  simp only [List.cons_append, List.nil_append]
  simp only [List.map_cons, List.map_nil]

/-- The layout of R173, byte by byte, with the named values as their numbers. -/
theorem SiteRecord.encode_bytes (r : SiteRecord) : r.encode = [r.pulseWeight / 256, r.pulseWeight,
    (match r.countingEdge with | .rising => 0 | .falling => 1 | .both => 2), r.minSpacing / 256, r.minSpacing,
    r.lossTime / 256, r.lossTime, r.subLength / 256, r.subLength, r.subCount,
    (match r.syncMode with | .free => 0 | .meter => 1), r.grace, r.limit / 256, r.limit, r.margin / 256, r.margin,
    r.budget / 256, r.budget, r.startSpacing, r.shedSpacing, r.settleTime / 256, r.settleTime,
    r.complianceTimeout / 256, r.complianceTimeout, r.skipLimit, r.silenceCount, r.replyTimeout,
    (match r.linkSpeed with | .b9600 => 0 | .b19200 => 1 | .b38400 => 2), r.restartHold / 256, r.restartHold,
    r.noticeMask.toNat / 256, r.noticeMask.toNat].map (BitVec.ofNat 8) := by
  rw [SiteRecord.encode_codes]
  have hedge (x : CountingEdge) : x.code = match x with | .rising => 0 | .falling => 1 | .both => 2 := by cases x <;> rfl
  have hmode (x : SyncMode) : x.code = match x with | .free => 0 | .meter => 1 := by cases x <;> rfl
  have hspeed (x : LinkSpeed) : x.code = match x with | .b9600 => 0 | .b19200 => 1 | .b38400 => 2 := by
    cases x <;> rfl
  rw [hedge, hmode, hspeed]

/-- A word is what its two bytes put together. -/
theorem word_byte2 (w : BitVec 16) :
    (BitVec.ofNat 8 (w.toNat / 256) ++ BitVec.ofNat 8 w.toNat : BitVec 16) = w := by
  have h := setLimit_bytes w
  simp only [List.map_cons, List.map_nil, List.cons.injEq, and_true] at h
  rw [← h.1, ← h.2]
  exact bytes_of_word w

/-- A valid site record's bytes are read back whole (R173). -/
theorem parseSiteRecord_encode {r : SiteRecord} (h : r.valid = true) : parseSiteRecord r.encode = some r := by
  have hr := r.valid_iff.mp h
  rw [SiteRecord.encode_codes]
  simp only [List.map_cons, List.map_nil, parseSiteRecord, byte_toNat (CountingEdge.code_lt _), byte_toNat (SyncMode.code_lt _),
    byte_toNat (LinkSpeed.code_lt _), CountingEdge.ofCode_code, SyncMode.ofCode_code, LinkSpeed.ofCode_code, word_byte2,
    number2_byte2 (show r.pulseWeight < 65536 by omega), number2_byte2 (show r.minSpacing < 65536 by omega),
    number2_byte2 (show r.lossTime < 65536 by omega), number2_byte2 (show r.subLength < 65536 by omega),
    byte_toNat (show r.subCount < 256 by omega), byte_toNat (show r.grace < 256 by omega),
    number2_byte2 (show r.limit < 65536 by omega), number2_byte2 (show r.margin < 65536 by omega),
    number2_byte2 (show r.budget < 65536 by omega), byte_toNat (show r.startSpacing < 256 by omega),
    byte_toNat (show r.shedSpacing < 256 by omega), number2_byte2 (show r.settleTime < 65536 by omega),
    number2_byte2 (show r.complianceTimeout < 65536 by omega), byte_toNat (show r.skipLimit < 256 by omega),
    byte_toNat (show r.silenceCount < 256 by omega), byte_toNat (show r.replyTimeout < 256 by omega),
    number2_byte2 (show r.restartHold < 65536 by omega), Option.bind_eq_bind, Option.bind_some, h, if_true]

/-- Bytes that are read as a site record are its layout (R173). -/
theorem encode_of_parseSiteRecord {bytes : List Byte} {r : SiteRecord} (h : parseSiteRecord bytes = some r) :
    r.encode = bytes ∧ r.valid = true := by
  unfold parseSiteRecord at h
  split at h
  · simp only [Option.bind_eq_bind, Option.bind_eq_some_iff] at h
    obtain ⟨edge, he, mode, hm, speed, hs, h⟩ := h
    split at h
    · next hv =>
      have hr := Option.some.inj h
      subst hr
      refine ⟨?_, hv⟩
      unfold SiteRecord.encode
      simp only [byte2_number2, byte1_toNat, CountingEdge.code_of_ofCode he, SyncMode.code_of_ofCode hm,
        LinkSpeed.code_of_ofCode hs, toNat_word, List.cons_append, List.nil_append]
    · cases h
  · cases h

/-- Settles O16: parse of encode, encode of parse, the layout, the ranges and the defaults. -/
theorem siteRecordLayoutIsReadBack : Obligations.SiteRecordLayoutIsReadBack :=
  ⟨fun _ => parseSiteRecord_encode, fun _ _ => encode_of_parseSiteRecord, SiteRecord.encode_bytes,
    SiteRecord.valid_iff, by decide, by decide⟩

end Sys2Proof.Machine


/-! The step, events that are not raised, the held reset, the port, SAVE and the two resets. -/

namespace Sys2Proof.Machine

/-! ### The step -/

/-- Settles O1: the step is exec on the front command. -/
theorem stepRunsTheFrontCommand : Obligations.StepRunsTheFrontCommand := by
  intro c s rest h
  simp only [step, h]

/-! ### What the held reset and the shut port keep -/

theorem State.live_of_held {s : State} (h : s.resetHeld = true) (f : State → State) : s.live f = s := by
  simp [State.live, h]

theorem State.live_of_running {s : State} (h : s.resetHeld = false) (f : State → State) : s.live f = f s := by
  simp [State.live, h]

/-- An event whose operation changes nothing changes nothing, whether or not a reset is held. -/
theorem State.live_of_eq {s : State} {f : State → State} (h : f s = s) : s.live f = s := by
  unfold State.live; split
  · rfl
  · exact h

theorem State.serve_of_shut {s : State} (h : s.portShut = true) (bytes : List Byte) (f : State → Reply) :
    s.serve bytes f = s := by
  simp [State.serve, h]

theorem State.writeTransaction_of_shut {s : State} (h : s.portShut = true) (a : BitVec 7) (bytes : List Byte)
    (broken : Bool) : s.writeTransaction a bytes broken = s := by
  simp [State.writeTransaction, State.acknowledges, h]

/-- The commands that come through the panel port. -/
def throughPort : Sys2Proof.Instr → Bool
  | .setUnit _ | .getUnit _ | .readUnitStatus _ | .lockUnit _ | .unlockUnit _ | .retireUnit _ | .releaseUnit _
  | .setSite _ | .getSite | .setLimit _ _ | .curtail _ | .readDemand | .resetPeak | .readPermit _ | .readQueue
  | .readNotices | .save | .restart | .panelWrite _ _ _ => true
  | _ => false

theorem throughPort_of_encodeWrite (c : Sys2Proof.Instr) (h : (encodeWrite c).isSome = true) :
    throughPort c = true := by
  cases c with
  | setUnit | getUnit | readUnitStatus | lockUnit | unlockUnit | retireUnit | releaseUnit | setSite | getSite | setLimit
  | curtail | readDemand | resetPeak | readPermit | readQueue | readNotices | save | restart => rfl
  | _ => cases h

/-- While the port is shut no command that comes through it changes anything (R170). -/
theorem exec_of_shut {s : State} (h : s.portShut = true) {c : Sys2Proof.Instr} (hc : throughPort c = true) :
    exec c s = .next s := by
  cases c with
  | restart => simp [exec, execRestart, State.servedRestart, h]
  | panelWrite a bytes broken => exact congrArg _ (State.writeTransaction_of_shut h a bytes broken)
  | setUnit | getUnit | readUnitStatus | lockUnit | unlockUnit | retireUnit | releaseUnit | setSite | getSite | setLimit
  | curtail | readDemand | resetPeak | readPermit | readQueue | readNotices | save =>
    exact congrArg _ (State.serve_of_shut h _ _)
  | _ => cases hc

/-- Settles O4: what comes through the port finds it shut, and every event of the part is not live. -/
theorem heldResetStopsEveryOtherCommand : Obligations.HeldResetStopsEveryOtherCommand := by
  intro c s h hp ha
  have hshut : s.portShut = true := by simp [State.portShut, h]
  cases hc : throughPort c with
  | true => exact exec_of_shut hshut hc
  | false =>
    cases c with
    | powerOnReset straps => exact absurd rfl (hp straps)
    | resetAsserted => exact absurd rfl ha
    | saveEnd => simp [exec, execSaveEnd, h]
    | setUnit | getUnit | readUnitStatus | lockUnit | unlockUnit | retireUnit | releaseUnit | setSite | getSite | setLimit
    | curtail | readDemand | resetPeak | readPermit | readQueue | readNotices | save | restart | panelWrite => cases hc
    | _ => exact congrArg _ (State.live_of_held h _)

/-! ### Events that are not raised (log entry 4) -/

section NotRaised

variable {s : State}

theorem State.expired_none {st : PermitState} {i : SlotNo} (h : (s.expired st i).isSome = false) :
    s.expired st i = none := by simpa using h

theorem State.rotationExpiry_of_not_due {i : SlotNo}
    (h : (s.slots[i].pDue && s.slots[i].permit.any fun p => decide (p.state = .running)) = false) :
    s.rotationExpiry i = s := by
  unfold State.rotationExpiry
  split
  · next p hp =>
    rw [hp, Option.any_some] at h
    split
    · next hd => simp_all
    · rfl
  · rfl

theorem State.gapEnd_of_busy (h : (decide (s.link.line = .gap) || decide (s.link.line = .idle)) = false) :
    s.gapEnd = s := by
  simp only [Bool.or_eq_false_iff, decide_eq_false_iff_not] at h
  simp [State.gapEnd, h]

theorem State.endReply_of_not_due
    (h : (s.polled.isSome && decide (s.link.reply.length = 8) && !s.link.replyBroken) = false) : s.endReply = s := by
  unfold State.endReply
  split
  · next u hu =>
    split
    · next hd => simp_all
    · rfl
  · rfl

theorem State.endBroken_of_not_due (h : (s.polled.isSome && s.link.replyBroken) = false) : s.endBroken = s := by
  unfold State.endBroken
  split
  · next u hu =>
    split
    · next hd => simp [hu, hd] at h
    · rfl
  · rfl

theorem State.endTimeout_of_not_due (h : (s.polled.isSome && s.timedOut) = false) : s.endTimeout = s := by
  unfold State.endTimeout
  split
  · next u hu =>
    split
    · next hd => simp [hu, hd] at h
    · rfl
  · rfl

end NotRaised

/-- Settles O5: each event of the part tests its own mark. -/
theorem eventsNotRaisedChangeNothing : Obligations.EventsNotRaisedChangeNothing := by
  intro c s h
  cases c with
  | saveEnd =>
    have : s.store.saving = none := by simpa [State.raisedEvent] using h
    simp [exec, execSaveEnd, State.endSave, this]
  | settleExpiry i =>
    refine congrArg _ (State.live_of_eq ?_)
    rw [State.settleExpiry, State.expired_none h]
  | minRunExpiry i =>
    refine congrArg _ (State.live_of_eq ?_)
    rw [State.minRunExpiry, State.expired_none h]
  | drainingMinRunExpiry i =>
    refine congrArg _ (State.live_of_eq ?_)
    rw [State.drainingExpiry, State.expired_none h]
  | rotationExpiry i => exact congrArg _ (State.live_of_eq (State.rotationExpiry_of_not_due h))
  | complianceExpiry i =>
    refine congrArg _ (State.live_of_eq ?_)
    rw [State.complianceExpiry, State.expired_none h]
  | minOffExpiry i =>
    refine congrArg _ (State.live_of_eq ?_)
    rw [State.minOffExpiry, State.expired_none h]
  | startGateOpening => exact congrArg _ (State.live_of_eq (by simp_all [State.raisedEvent, State.openStartGate]))
  | shedGateOpening => exact congrArg _ (State.live_of_eq (by simp_all [State.raisedEvent, State.openShedGate]))
  | restartHoldEnd => exact congrArg _ (State.live_of_eq (by simp_all [State.raisedEvent, State.endHold]))
  | meterLoss => exact congrArg _ (State.live_of_eq (if_neg (Bool.eq_false_iff.mp h)))
  | freeClose => exact congrArg _ (State.live_of_eq (if_neg (Bool.eq_false_iff.mp h)))
  | selfClose => exact congrArg _ (State.live_of_eq (if_neg (Bool.eq_false_iff.mp h)))
  | eoiMark => exact congrArg _ (State.live_of_eq (if_neg (Bool.eq_false_iff.mp h)))
  | pulseEdge f => exact congrArg _ (State.live_of_eq (if_neg (Bool.eq_false_iff.mp h)))
  | callChange c => exact congrArg _ (State.live_of_eq (if_neg (Bool.eq_false_iff.mp h)))
  | cycleOnLimitStop c => exact congrArg _ (State.live_of_eq (if_neg (Bool.eq_false_iff.mp h)))
  | linkGapEnd => exact congrArg _ (State.live_of_eq (State.gapEnd_of_busy h))
  | pollSent =>
    have : s.link.line ≠ .sending := by simpa [State.raisedEvent] using h
    exact congrArg _ (State.live_of_eq (by simp [State.modifyLink, RoofLink.sent, this]))
  | reportReceived => exact congrArg _ (State.live_of_eq (State.endReply_of_not_due h))
  | replyEndedEarly => exact congrArg _ (State.live_of_eq (State.endBroken_of_not_due h))
  | replyTimeout => exact congrArg _ (State.live_of_eq (State.endTimeout_of_not_due h))
  | receiverLineHigh =>
    have : ¬ (s.link.line ≠ .sending && decide (s.link.receiver = .waitingHigh)) = true := Bool.eq_false_iff.mp h
    exact congrArg _ (State.live_of_eq (by rw [State.modifyLink, RoofLink.lineHigh, if_neg this]))
  | _ => cases h

/-! ### The port -/

theorem Status.byte_code (st : Status) : BitVec.ofNat 8 st.code = match st with
    | .ok => 0x00#8 | .badCommand => 0x01#8 | .badValue => 0x02#8 | .inUse => 0x03#8 | .busy => 0x04#8
    | .noResponse => 0x05#8 := by cases st <;> rfl

/-- Settles O6: the shut port acknowledges nothing, and a read gives the latched response's bytes. -/
theorem saveShutsThePanelPort : Obligations.SaveShutsThePanelPort := by
  refine ⟨fun c s hsave hc => exec_of_shut (by simp [State.portShut, hsave]) ?_, fun s address n => ⟨?_, ?_⟩, fun n => ?_⟩
  · rcases hc with hc | ⟨a, bytes, broken, rfl⟩
    · exact throughPort_of_encodeWrite c hc
    · rfl
  · intro ha hsave hheld
    have hack : s.acknowledges address = true := by
      simp [State.acknowledges, State.portAddress, State.portShut, ha, hsave, hheld]
    simp only [State.readTransaction, hack, if_true, Response.bytes, byte1, Status.byte_code, List.cons_append,
      List.nil_append] <;> rfl
  · intro h
    have hack : s.acknowledges address = false := by
      simp only [State.acknowledges, State.portShut, State.portAddress]
      rcases h with h | h | h <;> simp [h]
    simp [State.readTransaction, hack]
  · have hack : State.reset.acknowledges 0x4C#7 = true := by decide
    simp only [State.readTransaction, hack, if_true]
    congr 1
    refine List.map_congr_left fun k _ => ?_
    match k with
    | 0 => rfl
    | 1 => rfl
    | k + 2 => simp [State.reset, PanelPort.fresh, Response.bytes, byte1, Status.code]

/-- Settles O12: the three operations of a SAVE. -/
theorem saveWritesItsCopyUnlessCutOff : Obligations.SaveWritesItsCopyUnlessCutOff := by
  refine fun s => ⟨fun hopen => ?_, fun c hc hheld => ?_, _, rfl, rfl, ?_⟩
  · exact congrArg Host.Outcome.next (State.serve_of_open hopen (by decide) State.save)
  · simp [exec, execSaveEnd, hheld, State.endSave, hc]
  · simp [State.attention, State.assertReset]

/-- Settles O17: a write that is not acknowledged or empty carries no command, one that names none is refused, and one that
names a command runs as the command's own row. -/
theorem writeTransactionRunsOrRefuses : Obligations.WriteTransactionRunsOrRefuses := by
  intro s address bytes
  refine ⟨⟨fun broken h => ?_, ?_⟩, fun hack => ⟨?_, fun e he hne => ?_, fun i hi => ?_⟩⟩
  · simp [exec, execPanelWrite, State.writeTransaction, h]
  · cases hack : s.acknowledges address <;> simp [exec, execPanelWrite, State.writeTransaction, hack, decodeWrite]
  all_goals
    have hopen : s.portShut = false := by
      simp only [State.acknowledges, Bool.and_eq_true, Bool.not_eq_true'] at hack
      exact hack.2
    have refused : s.serve bytes (refusedWith .badCommand) = s.answered (bytes.take 40) (.bare .badCommand) := by
      simp only [State.serve, hopen]; rfl
  · simp [exec, execPanelWrite, State.writeTransaction, hack, refused]
  · cases e <;> simp_all [exec, execPanelWrite, State.writeTransaction]
  · have hrun : exec (.panelWrite address bytes false) s = .next (s.runWrite bytes i) := by
      simp [exec, execPanelWrite, State.writeTransaction, hack, hi]
    rw [hrun]
    have hbytes := (encodeWrite_of_decodeWrite hi).1
    cases i with
    | setLimit d m =>
      have hd := setLimit_bytes d
      have hm := setLimit_bytes m
      simp only [List.map_cons, List.map_nil, List.cons.injEq, and_true] at hd hm
      simp only [encodeWrite, Option.some.injEq, hd, hm] at hbytes
      subst hbytes
      rfl
    | setUnit | getUnit | readUnitStatus | lockUnit | unlockUnit | retireUnit | releaseUnit | setSite | getSite
    | curtail | readDemand | resetPeak | readPermit | readQueue | readNotices | save | restart =>
      simp only [encodeWrite, Option.some.injEq] at hbytes
      subst hbytes
      rfl
    | _ => cases hbytes

end Sys2Proof.Machine


/-! The two resets and the load of what SAVE stored (R20, R177 to R181). -/

namespace Sys2Proof.Machine

/-! ### An empty Permit Table -/

/-- A Permit Table of FREE slots holds no permit of any unit. -/
theorem State.slotsOf_of_free {s : State} (h : ∀ i : SlotNo, s.slots[i].permit = none) (u : UnitNo) (f : Permit → Bool) :
    s.slotsOf u f = [] := by
  refine List.eq_nil_iff_forall_not_mem.mpr fun i hi => ?_
  obtain ⟨p, hp, -⟩ := (s.mem_slotsOf u f i).mp hi
  rw [h i] at hp
  cases hp

theorem State.level_of_free {s : State} (h : ∀ i : SlotNo, s.slots[i].permit = none) (u : UnitNo) : s.level u = 0 := by
  rw [State.level, State.slotsOf_of_free h]; rfl

/-! ### What a reset leaves -/

section Reinitialise

variable (s : State) (site : SiteRecord) (units : Vector UnitEntry 36) (notices : BitVec 16)

@[simp] theorem State.reinitialise_slots (i : SlotNo) : (s.reinitialise site units notices).slots[i] = .free := by
  simp [State.reinitialise]

@[simp] theorem State.reinitialise_channels (c : ChannelNo) :
    (s.reinitialise site units notices).channels[c] = .fresh := by
  simp [State.reinitialise]

@[simp] theorem State.reset_slots (i : SlotNo) : State.reset.slots[i] = .free := by simp [State.reset]

@[simp] theorem State.reset_units (u : UnitNo) : State.reset.units[u] = .blank := by simp [State.reset]

@[simp] theorem State.reset_channels (c : ChannelNo) : State.reset.channels[c] = .fresh := by simp [State.reset]

end Reinitialise

/-- Settles O9: State.reset, field by field. -/
theorem resetLeavesTheStatedValues : Obligations.ResetLeavesTheStatedValues := by
  have hfree : ∀ i : SlotNo, State.reset.slots[i].permit = none := fun i => by rw [State.reset_slots]; rfl
  have hload (f : PermitState → Bool) : ∀ i : SlotNo, State.reset.slots[i].load f = 0 := fun i => by
    rw [State.reset_slots]; rfl
  refine ⟨fun u => ⟨?_, ?_, State.level_of_free hfree u⟩, State.reset_slots, rfl, ?_, ?_, rfl, rfl, rfl, rfl, rfl, rfl, rfl,
    rfl, rfl, rfl, rfl, rfl, rfl, rfl, rfl, rfl, rfl, rfl, rfl, rfl, rfl, rfl, rfl, fun c => ?_, rfl, rfl, rfl, ?_, rfl, rfl,
    rfl⟩
  · rw [State.record, State.reset_units]; rfl
  · rw [State.status, State.reset_units]; rfl
  · exact List.sum_eq_zero fun n hn => by
      obtain ⟨i, -, rfl⟩ := List.mem_map.mp hn
      exact hload _ i
  · exact List.sum_eq_zero fun n hn => by
      obtain ⟨i, -, rfl⟩ := List.mem_map.mp hn
      exact hload _ i
  · rw [State.reset_channels]
    refine ⟨rfl, rfl, rfl, rfl, ?_⟩
    have hconf : State.reset.configured (channelUnit c) = false := by
      rw [State.configured, State.status, State.reset_units]; rfl
    simp [State.driveOutput, hconf]
  · decide

/-- The lowest number among the configured linked units, or 0 where there is none (R159). -/
theorem lowestLinked_spec (units : Vector UnitEntry 36) :
    (∀ u : UnitNo, isWired u = false → units[u].record.isSome = true → lowestLinked units ≤ u.val)
      ∧ ((∃ u : UnitNo, isWired u = false ∧ units[u].record.isSome = true ∧ lowestLinked units = u.val)
        ∨ (∀ u : UnitNo, isWired u = false → units[u].record.isSome = false) ∧ lowestLinked units = 0) := by
  have hmem (u : UnitNo) : u ∈ (allUnits.filter fun u => !isWired u && units[u].record.isSome)
      ↔ isWired u = false ∧ units[u].record.isSome = true := by simp [allUnits]
  have hsorted : (allUnits.filter fun u => !isWired u && units[u].record.isSome).Pairwise (· < ·) :=
    (List.pairwise_lt_finRange 36).filter _
  unfold lowestLinked
  generalize (allUnits.filter fun u => !isWired u && units[u].record.isSome) = l at hmem hsorted
  cases l with
  | nil =>
    have hnone (u : UnitNo) (hw : isWired u = false) : units[u].record.isSome = false := by
      refine Bool.eq_false_iff.mpr fun h => ?_
      cases (hmem u).mpr ⟨hw, h⟩
    exact ⟨fun u hw hs => absurd hs (Bool.eq_false_iff.mp (hnone u hw)), .inr ⟨hnone, rfl⟩⟩
  | cons a l =>
    refine ⟨fun u hw hs => ?_, .inl ⟨a, ((hmem a).mp List.mem_cons_self).1, ((hmem a).mp List.mem_cons_self).2, rfl⟩⟩
    rcases List.mem_cons.mp ((hmem u).mpr ⟨hw, hs⟩) with rfl | hu
    · exact Nat.le_refl _
    · exact Nat.le_of_lt (List.rel_of_pairwise_cons hsorted hu)

/-- The store that a load finds unusable gives the reset state with what is left of the store (R179). -/
theorem State.powerOn_of_unloaded (s : State) (straps : BitVec 2) (h : s.store.cutOff.load = none) :
    s.powerOn straps = { State.reset with
      panel := { State.reset.panel with straps := straps }, store := s.store.cutOff, pending := s.pending } := by
  have hlow : lowestLinked (Vector.replicate 36 .blank) = 0 := by
    rcases (lowestLinked_spec (Vector.replicate 36 .blank)).2 with ⟨u, -, hs, -⟩ | ⟨-, hl⟩
    · simp [UnitEntry.blank] at hs
    · exact hl
  simp only [State.powerOn, h, State.reinitialise, hlow]
  rfl

/-- Settles O10: in each of the two cases the load finds nothing. -/
theorem powerOnWithInvalidStoreGivesTheDefaults : Obligations.PowerOnWithInvalidStoreGivesTheDefaults := by
  intro s straps defaults
  refine ⟨fun h => ?_, fun hv hs h => ?_⟩
  · have hcut : s.store.cutOff = { s.store with valid := false, saving := none, savingMs := 0 } := by
      rcases h with h | h
      · simp [SettingsStore.cutOff, h]
      · simp [SettingsStore.cutOff, Option.isNone_eq_false_iff.mpr h]
    have hload : s.store.cutOff.load = none := by simp [hcut, SettingsStore.load]
    rw [← hcut]
    exact congrArg _ (s.powerOn_of_unloaded straps hload)
  · have hcut : s.store.cutOff = { s.store with savingMs := 0 } := by
      cases hst : s.store with
      | mk => simp_all [SettingsStore.cutOff]
    have hload : s.store.cutOff.load = none := by
      rw [hcut, SettingsStore.load]
      rcases h with h | ⟨u, bytes, hu, hbad⟩
      · simp [h]
      · have hplace : placeLoads u s.store.places[u] = false := by
          rw [hu, placeLoads]
          split
          · next v r hr =>
            refine decide_eq_false fun hvu => hbad r ?_
            rw [hr, hvu]
          · rfl
        have hall : (allUnits.all fun v => placeLoads v s.store.places[v]) = false :=
          List.all_eq_false.mpr ⟨u, List.mem_finRange u, by simpa using hplace⟩
        simp only [hall, Bool.and_false]
        rfl
    rw [← hcut]
    exact congrArg _ (s.powerOn_of_unloaded straps hload)

/-- A place that SAVE has written loads as its unit with the record that stood (R178, R179). -/
theorem placeLoads_encode {u : UnitNo} {r : Option UnitRecord} (h : ∀ x ∈ r, x.valid u = true) :
    placeLoads u (r.map (UnitRecord.encode u)) = true ∧ placeRecord (r.map (UnitRecord.encode u)) = r := by
  cases r with
  | none => exact ⟨rfl, rfl⟩
  | some x =>
    have hx := parseUnitRecord_encode (h x rfl)
    simp [placeLoads, placeRecord, hx]

/-- Settles O11: what SAVE copies passes the load, which gives it back (R178, R179). -/
theorem savedSettingsSurviveAPowerCut : Obligations.SavedSettingsSurviveAPowerCut := by
  intro s straps hopen hsound
  obtain ⟨hsite, hunits⟩ := hsound
  have hheld : s.resetHeld = false := by
    simp only [State.portShut, Bool.or_eq_false_iff] at hopen
    exact hopen.2
  let s1 : State := State.answered { s with store := { s.store with
      valid := false, saving := some s.saveCopy, savingMs := 0 } } [0x40#8] (.bare .ok)
  let stored : SettingsStore := { site := s.site.encode, places := s.saveCopy.places, valid := true, saving := none, savingMs := 0 }
  let s2 : State := { s1 with store := stored }
  let s3 : State := { s2 with resetHeld := true, store := stored }
  have h1 : exec .save s = .next s1 := congrArg Host.Outcome.next (State.serve_of_open hopen (by decide) State.save)
  have h2 : exec .saveEnd s1 = .next s2 := by
    have : s1.resetHeld = false := hheld
    simp only [exec, execSaveEnd, this]
    rfl
  have h3 : exec .resetAsserted s2 = .next s3 := rfl
  have hplace (u : UnitNo) : placeLoads u stored.places[u] = true ∧ placeRecord stored.places[u] = s.record u := by
    have : stored.places[u] = (s.record u).map (UnitRecord.encode u) := by
      simp [stored, State.saveCopy, State.record]
    rw [this]
    exact placeLoads_encode (hunits u).2
  have hload : stored.load
      = some (s.site, Vector.ofFn fun u => UnitEntry.afterReset (placeRecord stored.places[u])) := by
    have hall : (allUnits.all fun u => placeLoads u stored.places[u]) = true :=
      List.all_eq_true.mpr fun u _ => (hplace u).1
    rw [SettingsStore.load, hall]
    simp [stored, parseSiteRecord_encode hsite]
  have hcut : s3.store.cutOff = stored := rfl
  refine ⟨s1, s2, s3, s3.powerOn straps, h1, h2, h3, rfl, ?_⟩
  simp only [State.powerOn, hcut, hload]
  refine ⟨rfl, fun u => ?_, fun u => ?_, rfl, rfl, rfl, rfl⟩
  · have : (s.record u) = (UnitEntry.afterReset (s.record u)).record := by cases s.record u <;> rfl
    simp [State.record, State.reinitialise] at this hplace ⊢
    rw [hplace u |>.2, ← this]
  · have : (UnitEntry.afterReset (s.record u)).status = if s.record u = none then UnitStatus.none else UnitStatus.fresh := by
      cases s.record u <;> rfl
    rw [← this, ← (hplace u).2]
    simp [State.status, State.reinitialise]

/-! ### RESTART -/

theorem UnitEntry.afterRestart_eq (e : UnitEntry) : e.afterRestart =
    if e.status.state = .retiring then UnitEntry.blank else
      match e.record with
      | some r => { record := some r, status := UnitStatus.fresh }
      | none => UnitEntry.blank := by
  unfold UnitEntry.afterRestart UnitEntry.afterReset
  cases e.record <;> rfl

/-- After a restart a unit is configured exactly where it has a record (R20). -/
theorem UnitEntry.afterRestart_configured (e : UnitEntry) :
    decide (e.afterRestart.status.state ≠ .unconfigured) = e.afterRestart.record.isSome := by
  rw [UnitEntry.afterRestart_eq]
  split
  · rfl
  · cases e.record <;> rfl

theorem State.softRestart_units (s : State) (u : UnitNo) : s.softRestart.units[u] = s.units[u].afterRestart := by
  simp [State.softRestart, State.reinitialise]

theorem State.softRestart_hold (s : State) : s.softRestart.hold = s.site.startHold := rfl
theorem State.softRestart_startGate (s : State) : s.softRestart.startGate = s.site.startGate := rfl

theorem State.softRestart_ringPosition (s : State) :
    s.softRestart.link.ringPosition = lowestLinked s.softRestart.units := by
  simp only [State.softRestart, State.reinitialise, RoofLink.fresh]

/-- Settles O13: the soft restart, block by block (R181). -/
theorem restartKeepsTheWorkingRecords : Obligations.RestartKeepsTheWorkingRecords := by
  intro s hopen
  refine ⟨s.softRestart, by simp [exec, execRestart, State.servedRestart, hopen], rfl, rfl, rfl, fun u => ?_,
    State.reinitialise_slots _ _ _ _, rfl, rfl, rfl, rfl, ?_, rfl, rfl, State.reinitialise_channels _ _ _ _, rfl, ?_⟩
  · exact (s.softRestart_units u).trans (UnitEntry.afterRestart_eq s.units[u])
  · rw [s.softRestart_hold, s.softRestart_startGate, SiteRecord.startHold, SiteRecord.startGate]
    by_cases h : s.site.restartHold = 0 <;> simp [h]
  · have hconf (u : UnitNo) : s.softRestart.configured u = s.softRestart.units[u].record.isSome := by
      rw [State.configured, State.status, State.softRestart_units, UnitEntry.afterRestart_configured]
    obtain ⟨hleast, hin⟩ := lowestLinked_spec s.softRestart.units
    rw [← s.softRestart_ringPosition] at hleast hin
    refine ⟨fun u hw hc => hleast u hw ((hconf u).symm.trans hc), ?_, rfl⟩
    rcases hin with ⟨u, hw, hs, hl⟩ | ⟨hnone, hl⟩
    · exact .inl ⟨u, hw, (hconf u).trans hs, hl⟩
    · exact .inr ⟨fun u hw => (hconf u).trans (hnone u hw), hl⟩

/-! ### The reset state meets every condition -/

/-- Settles O60: with every table empty the conditions are about nothing, and the defaults pass their tests. -/
theorem resetMeetsEveryCondition : Obligations.ResetMeetsEveryCondition := by
  have hfree (i : SlotNo) : State.reset.slots[i].permit = none := by rw [State.reset_slots]; rfl
  have hlevel (u : UnitNo) : State.reset.level u = 0 := State.level_of_free hfree u
  have hrecord (u : UnitNo) : State.reset.record u = none := by rw [State.record, State.reset_units]; rfl
  have hstatus (u : UnitNo) : State.reset.status u = UnitStatus.none := by rw [State.status, State.reset_units]; rfl
  have hno (i : SlotNo) (p : Permit) : p ∉ State.reset.slots[i].permit := by rw [hfree i]; exact Option.not_mem_none p
  refine ⟨⟨⟨List.nodup_finRange 96, fun i => ?_⟩, fun i j p hp => absurd hp (hno i p), fun i p hp => absurd hp (hno i p),
    fun i p hp => absurd hp (hno i p), fun u => by rw [hlevel u]; exact Nat.zero_le _, ⟨by decide, fun u => ?_⟩,
    ⟨Nat.zero_le _, List.nodup_nil, List.Pairwise.nil⟩, fun e he => (List.not_mem_nil he).elim, fun u => ?_⟩,
    fun i p hp => absurd hp (hno i p), fun i p hp => absurd hp (hno i p), fun i p hp => absurd hp (hno i p), fun u h => ?_,
    iff_of_true rfl (by decide), ⟨Nat.zero_le _, rfl⟩, ⟨List.nodup_nil, fun u hu => (List.not_mem_nil hu).elim⟩,
    fun i => ?_⟩
  · exact iff_of_true (List.mem_finRange i) (hfree i)
  · rw [hstatus u, hrecord u]
    exact ⟨iff_of_true rfl rfl, fun r hr => (Option.not_mem_none r hr).elim⟩
  · rw [hstatus u]; exact ⟨Nat.zero_le _, Nat.zero_le _⟩
  · rw [hstatus u] at h; cases h
  · rw [State.reset_slots]; exact ⟨Nat.zero_le _, fun _ => ⟨rfl, rfl, rfl, rfl⟩⟩

end Sys2Proof.Machine


/-! The panel commands: what they latch, what they refuse (R1 to R6, R48, R122, R171 to R177), and the site commands
(R85 to R87, R134, R138). -/

namespace Sys2Proof.Machine

variable {s : State}

/-! ### A unit number -/

theorem withUnit_of_names {b : Byte} {u : UnitNo} (h : names b u) (f : UnitNo → State → Reply) (t : State) :
    withUnit b f t = f u t := by
  have hb : b.toNat < 36 := by rw [h]; exact u.isLt
  have hu : (⟨b.toNat, hb⟩ : UnitNo) = u := Fin.ext h
  simp [withUnit, hb, hu]

theorem withUnit_of_above {b : Byte} (h : 36 ≤ b.toNat) (f : UnitNo → State → Reply) (t : State) :
    withUnit b f t = refusedWith .badValue t := by
  simp [withUnit, Nat.not_lt.mpr h]

/-- The state on which a write's command executes: its bytes stand in the command buffer (R171). -/
def State.buffered (s : State) (bytes : List Byte) : State := { s with panel := { s.panel with buffer := bytes } }

@[simp] theorem State.buffered_record (s : State) (bytes : List Byte) (u : UnitNo) :
    (s.buffered bytes).record u = s.record u := rfl
@[simp] theorem State.buffered_status (s : State) (bytes : List Byte) (u : UnitNo) :
    (s.buffered bytes).status u = s.status u := rfl
@[simp] theorem State.buffered_hasPermit (s : State) (bytes : List Byte) (u : UnitNo) :
    (s.buffered bytes).hasPermit u = s.hasPermit u := rfl
@[simp] theorem State.buffered_configured (s : State) (bytes : List Byte) (u : UnitNo) :
    (s.buffered bytes).configured u = s.configured u := rfl

/-- A state that a command leaves but for the buffer, with the response latched. -/
theorem State.buffered_latch (s : State) (bytes : List Byte) (r : Response) :
    (s.buffered bytes).latch r = s.answered bytes r := rfl

/-- Where a command has left the buffer as its write filled it, latching its response is answering. -/
theorem State.latch_eq_answered {t : State} {bytes : List Byte} (h : t.panel.buffer = bytes) (r : Response) :
    t.latch r = t.answered bytes r := by
  subst h; rfl

/-- A write through the open port whose command keeps the base answers on what the command leaves. -/
theorem State.SameBase.latch_buffered {bytes : List Byte} {t : State} (h : (s.buffered bytes).SameBase t) (r : Response) :
    t.latch r = t.answered bytes r :=
  State.latch_eq_answered h.buffer r

/-- A write through the open port runs its command on the state that holds its bytes (R171). -/
theorem State.serve_buffered {bytes : List Byte} (hopen : s.portShut = false)
    (hfits : bytes.length ≤ Config.bufferCapacity) (f : State → Reply) :
    s.serve bytes f = (f (s.buffered bytes)).1.latch (f (s.buffered bytes)).2 :=
  State.serve_of_open hopen hfits f

/-- A command that only answers (R171). -/
theorem State.serve_of_refused {bytes : List Byte} {f : State → Reply} {st : Status} (hopen : s.portShut = false)
    (hfits : bytes.length ≤ Config.bufferCapacity) (hf : f (s.buffered bytes) = refusedWith st (s.buffered bytes)) :
    s.serve bytes f = s.answered bytes (.bare st) := by
  rw [State.serve_buffered hopen hfits, hf]; rfl

/-- As `serve_of_refused`, for a write that may be longer than the command buffer. -/
theorem State.serve_of_refused_take {bytes : List Byte} {f : State → Reply} {st : Status} (hopen : s.portShut = false)
    (hf : ∀ t : State, f t = (t, .bare st)) :
    s.serve bytes f = s.answered (bytes.take 40) (.bare st) := by
  simp only [State.serve, hopen, hf]; rfl

/-! ### The reading commands -/

theorem State.statusData_eq (u : UnitNo) (s : State) : s.statusData u = [u.val, (s.status u).state.code,
    if isWired u then 0 else (s.status u).link.code, if isWired u then 0 else (s.status u).misses,
    (s.status u).desired, if isWired u then s.level u else (s.status u).running, (s.status u).condition.code,
    (s.status u).window.code, (s.status u).noncompliant.toNat, s.level u, s.permitCount u,
    (s.queued u).toNat].map (BitVec.ofNat 8) := by
  have hflag (b : Bool) : flagByte b = [BitVec.ofNat 8 b.toNat] := by cases b <;> rfl
  cases hw : isWired u <;>
    simp [State.statusData, State.runningLevel, hw, hflag, byte1, LinkCondition.code]

/-- Settles O18: the two reads through the open port (R6). -/
theorem unitReadsLatchTheRecords : Obligations.UnitReadsLatchTheRecords := by
  refine ⟨⟨rfl, rfl, rfl, rfl⟩, fun s b hopen => ⟨fun u hu => ⟨?_, ?_⟩, fun h => ⟨?_, ?_⟩⟩⟩
  · refine congrArg Host.Outcome.next ?_
    rw [State.serve_of_open hopen (by simp [Config.bufferCapacity]), withUnit_of_names hu]
    rfl
  · refine congrArg Host.Outcome.next ?_
    rw [State.serve_of_open hopen (by simp [Config.bufferCapacity]), withUnit_of_names hu, answering, State.statusData_eq]
    rfl
  · exact congrArg Host.Outcome.next (State.serve_of_refused hopen (by simp [Config.bufferCapacity])
      (withUnit_of_above h _ _))
  · exact congrArg Host.Outcome.next (State.serve_of_refused hopen (by simp [Config.bufferCapacity])
      (withUnit_of_above h _ _))

theorem State.permitData_eq (i : SlotNo) (s : State) : s.permitData i =
    match s.slots[i].permit with
    | none => [i.val, s.freeList.length, 5].map (BitVec.ofNat 8)
    | some p =>
      [i.val, s.freeList.length, p.state.code, p.unit.val, p.stage, p.rating / 256, p.rating, p.origin.code,
        s.slots[i].counter / 256, s.slots[i].counter, s.slots[i].aValue / 256, s.slots[i].aValue, p.minRunMet.toNat,
        p.rotationDue.toNat, p.reason.elim 0xFF StopReason.code,
        (if p.state = .stopping ∨ p.state = .resting then s.slots[i].aValue - s.slots[i].counter else 0) / 256,
        if p.state = .stopping ∨ p.state = .resting then s.slots[i].aValue - s.slots[i].counter else 0].map
          (BitVec.ofNat 8) := by
  have hflag (b : Bool) : flagByte b = [BitVec.ofNat 8 b.toNat] := by cases b <;> rfl
  unfold State.permitData
  cases s.slots[i].permit with
  | none => rfl
  | some p => cases hr : p.reason <;> simp [hflag, byte1, byte2, hr, absentByte, Slot.remaining]

/-- Settles O19: READ PERMIT through the open port (R48). -/
theorem readPermitLatchesTheSlot : Obligations.ReadPermitLatchesTheSlot := by
  refine ⟨⟨rfl, rfl, rfl⟩, fun s b hopen => ⟨fun i hi => ?_, fun h => ?_⟩⟩
  · have hb : b.toNat < 96 := by rw [hi]; exact i.isLt
    have hslot : (⟨b.toNat, hb⟩ : SlotNo) = i := Fin.ext hi
    refine congrArg Host.Outcome.next ?_
    rw [State.serve_of_open hopen (by simp [Config.bufferCapacity]), State.readPermit, dif_pos hb, hslot, answering,
      State.permitData_eq]
    rfl
  · exact congrArg Host.Outcome.next (State.serve_of_refused hopen (by simp [Config.bufferCapacity])
      (by simp [State.readPermit, Nat.not_lt.mpr h, refusedWith]))

theorem State.attention_iff (s : State) : s.attention = true ↔
    s.resetHeld = false ∧ ∃ k : Nat, s.panel.notices.getLsbD k = true ∧ s.site.noticeMask.getLsbD k = true := by
  have hand : s.panel.notices &&& s.site.noticeMask ≠ 0#16
      ↔ ∃ k : Nat, s.panel.notices.getLsbD k = true ∧ s.site.noticeMask.getLsbD k = true := by
    refine ⟨fun hne => ?_, fun ⟨k, hn, hm⟩ he => ?_⟩
    · by_contra hno
      refine hne (BitVec.eq_of_getLsbD_eq fun k _ => ?_)
      have := not_exists.mp hno k
      simpa using this
    · have := congrArg (BitVec.getLsbD · k) he
      simp [hn, hm] at this
  simp only [State.attention, Bool.and_eq_true, Bool.not_eq_true', decide_eq_true_eq, hand]

/-- Settles O21: the reading commands and RESET PEAK through the open port, and the attention line bit by bit. -/
theorem queueNoticesSiteAndPeakCommands : Obligations.QueueNoticesSiteAndPeakCommands := by
  refine ⟨⟨rfl, rfl⟩, State.attention_iff, fun s hopen => ⟨?_, ?_, ?_, ?_⟩⟩
  · refine congrArg Host.Outcome.next ?_
    rw [State.serve_answering (bytes := [0x33#8]) hopen (by decide) State.queueData rfl]
    have hflag (b : Bool) : flagByte b = [BitVec.ofNat 8 b.toNat] := by cases b <;> rfl
    have hentry : s.entryData = fun e => [e.unit.val, e.cls, e.wanted, s.level e.unit, e.skips,
        (decide (s.site.skipLimit ≤ e.skips)).toNat, e.reason.code, e.remaining / 256, e.remaining].map
          (BitVec.ofNat 8) := by
      funext e
      simp [State.entryData, State.isBarrier, hflag, byte1, byte2]
    rw [State.queueData, hentry]
    rfl
  · exact congrArg Host.Outcome.next (State.serve_of_open hopen (by decide) State.readNotices)
  · exact congrArg Host.Outcome.next (State.serve_answering hopen (by decide) _ rfl)
  · exact congrArg Host.Outcome.next (State.serve_of_open hopen (by decide) State.resetPeak)

/-! ### Refusals -/

/-- The commands to one unit are refused BAD VALUE for a number above 35 and for an UNCONFIGURED unit (R1, R15 to R19). -/
theorem withUnit_refused {b : Byte} {f : UnitNo → State → Reply} {t : State}
    (h : 36 ≤ b.toNat ∨ ∃ u, names b u ∧ (t.status u).state = .unconfigured)
    (hf : ∀ u, (t.status u).state = .unconfigured → f u t = refusedWith .badValue t) :
    withUnit b f t = refusedWith .badValue t := by
  rcases h with h | ⟨u, hu, hs⟩
  · exact withUnit_of_above h f t
  · rw [withUnit_of_names hu, hf u hs]

theorem UnitRecord.encode_length {u : UnitNo} {r : UnitRecord} (h : r.valid u = true) :
    2 ≤ (r.encode u).length ∧ (r.encode u).length < Config.bufferCapacity := by
  obtain ⟨-, hlen, -, -, -, -, -, hlinked, hwired⟩ := (r.valid_iff u).mp h
  have hw : (r.wired.elim [] WiredFields.encode).length ≤ 5 := by
    cases r.wired <;> simp [WiredFields.encode_eq]
  have hr : (r.ratings.flatMap byte2).length = 2 * r.ratings.length := by
    simp [List.length_flatMap, Nat.mul_comm]
  simp only [UnitRecord.encode, List.length_append, byte1_length, byte2_length, hr, Config.bufferCapacity]
  omega

/-- SET UNIT with a valid record reaches the record's own operation (R2, R174). -/
theorem State.setUnit_encode {u : UnitNo} {r : UnitRecord} (h : r.valid u = true) (t : State) :
    t.setUnit (r.encode u) = t.setUnitRecord u r := by
  obtain ⟨h2, h40⟩ := UnitRecord.encode_length h
  have hlen : ¬ (decide ((r.encode u).length < 2) || decide (Config.bufferCapacity ≤ (r.encode u).length)) = true := by
    simp only [Bool.or_eq_true, decide_eq_true_eq]; omega
  rw [State.setUnit, if_neg hlen, parseUnitRecord_encode h]

/-- SET UNIT of a valid record through the open port. -/
theorem exec_setUnit_encode {u : UnitNo} {r : UnitRecord} (hopen : s.portShut = false) (h : r.valid u = true) :
    exec (.setUnit (r.encode u)) s = .next
      (((s.buffered (0x10#8 :: r.encode u)).setUnitRecord u r).1.latch
        ((s.buffered (0x10#8 :: r.encode u)).setUnitRecord u r).2) := by
  refine congrArg Host.Outcome.next ?_
  have hl := (UnitRecord.encode_length h).2
  rw [State.serve_buffered hopen (by simp only [List.length_cons]; omega), State.setUnit_encode h]

theorem State.setUnitRecord_refused {t : State} {u : UnitNo} {old r : UnitRecord} (h : t.record u = some old) :
    ((t.status u).state = .retiring → t.setUnitRecord u r = refusedWith .busy t)
      ∧ ((t.status u).state ≠ .retiring → r.ratings ≠ old.ratings → t.hasPermit u = true →
        t.setUnitRecord u r = refusedWith .inUse t) := by
  simp only [State.setUnitRecord, h]
  refine ⟨fun hr => if_pos hr, fun hr hne hp => (if_neg hr).trans (if_pos ?_)⟩
  simp only [Bool.and_eq_true, decide_eq_true_eq]
  exact ⟨hne, hp⟩

/-- LOCK, UNLOCK, RETIRE and RELEASE UNIT of an UNCONFIGURED unit (R15 to R19). -/
theorem State.unitCommands_unconfigured {t : State} {u : UnitNo} (h : (t.status u).state = .unconfigured) :
    t.lockUnit u = refusedWith .badValue t ∧ t.unlockUnit u = refusedWith .badValue t
      ∧ t.retireUnit u = refusedWith .badValue t ∧ t.releaseUnit u = refusedWith .badValue t := by
  simp [State.lockUnit, State.unlockUnit, State.retireUnit, State.releaseUnit, State.configured, h]

/-- LOCK, UNLOCK and RETIRE UNIT of a RETIRING unit (R15, R17, R19). -/
theorem State.unitCommands_retiring {t : State} {u : UnitNo} (h : (t.status u).state = .retiring) :
    t.lockUnit u = refusedWith .busy t ∧ t.unlockUnit u = refusedWith .busy t
      ∧ t.retireUnit u = refusedWith .busy t := by
  simp [State.lockUnit, State.unlockUnit, State.retireUnit, h]

/-- A command to one unit, by a unit number byte. -/
theorem State.serve_withUnit {bytes : List Byte} {b : Byte} {u : UnitNo} (hopen : s.portShut = false)
    (hfits : bytes.length ≤ Config.bufferCapacity) (hu : names b u) (f : UnitNo → State → Reply) :
    s.serve bytes (withUnit b f) = (f u (s.buffered bytes)).1.latch (f u (s.buffered bytes)).2 := by
  rw [State.serve_buffered hopen hfits, withUnit_of_names hu]

/-- Settles O25: each refusal, by the test that makes it. -/
theorem refusedCommandsOnlyAnswer : Obligations.RefusedCommandsOnlyAnswer := by
  intro s hopen
  refine ⟨fun params => ⟨fun h => ?_, fun h2 h40 hp => ?_, fun h => ?_, fun h hp => ?_⟩,
    fun u old r hrec hv => ⟨fun hr => ?_, fun hr hne hperm => ?_⟩, fun b h => ?_,
    fun b u hu => ⟨fun h => ?_, fun h => ?_, fun h => ?_⟩, fun d m h => ?_, fun c h => ?_⟩
  · refine congrArg Host.Outcome.next (State.serve_of_refused_take hopen fun t => if_pos ?_)
    simpa using h
  · have hlen : ¬ (decide (params.length < 2) || decide (Config.bufferCapacity ≤ params.length)) = true := by
      simp only [Bool.or_eq_true, decide_eq_true_eq, Config.bufferCapacity]; omega
    refine congrArg Host.Outcome.next (State.serve_of_refused hopen
      (by simp only [List.length_cons, Config.bufferCapacity]; omega) ?_)
    rw [State.setUnit, if_neg hlen, hp]
  · exact congrArg Host.Outcome.next (State.serve_of_refused_take hopen fun t => if_pos h)
  · refine congrArg Host.Outcome.next (State.serve_of_refused hopen (by simp [h, Config.bufferCapacity]) ?_)
    rw [State.setSite, if_neg (not_not.mpr h), hp]
  · refine (exec_setUnit_encode hopen hv).trans (congrArg Host.Outcome.next ?_)
    rw [(State.setUnitRecord_refused (t := s.buffered (0x10#8 :: r.encode u)) hrec).1 hr]; rfl
  · refine (exec_setUnit_encode hopen hv).trans (congrArg Host.Outcome.next ?_)
    rw [(State.setUnitRecord_refused (t := s.buffered (0x10#8 :: r.encode u)) hrec).2 hr hne hperm]; rfl
  · have refused (bytes : List Byte) (f : UnitNo → State → Reply) (hb : bytes.length ≤ Config.bufferCapacity)
        (hf : ∀ (t : State) (u : UnitNo), (t.status u).state = .unconfigured → f u t = refusedWith .badValue t) :
        s.serve bytes (withUnit b f) = s.answered bytes (.bare .badValue) :=
      State.serve_of_refused hopen hb (withUnit_refused h fun u => hf _ u)
    exact ⟨congrArg Host.Outcome.next (refused _ _ (by simp [Config.bufferCapacity]) fun _ _ h => (State.unitCommands_unconfigured h).1),
      congrArg Host.Outcome.next (refused _ _ (by simp [Config.bufferCapacity]) fun _ _ h => (State.unitCommands_unconfigured h).2.1),
      congrArg Host.Outcome.next (refused _ _ (by simp [Config.bufferCapacity]) fun _ _ h => (State.unitCommands_unconfigured h).2.2.1),
      congrArg Host.Outcome.next (refused _ _ (by simp [Config.bufferCapacity]) fun _ _ h => (State.unitCommands_unconfigured h).2.2.2)⟩
  · refine ⟨congrArg Host.Outcome.next ?_, congrArg Host.Outcome.next ?_, congrArg Host.Outcome.next ?_⟩ <;>
      rw [State.serve_withUnit hopen (by simp [Config.bufferCapacity]) hu]
    · rw [(State.unitCommands_retiring (t := s.buffered [0x13#8, b]) h).1]; rfl
    · rw [(State.unitCommands_retiring (t := s.buffered [0x14#8, b]) h).2.1]; rfl
    · rw [(State.unitCommands_retiring (t := s.buffered [0x15#8, b]) h).2.2]; rfl
  · refine congrArg Host.Outcome.next ?_
    rw [State.serve_withUnit hopen (by simp [Config.bufferCapacity]) hu, State.lockUnit, State.buffered_status, h]; rfl
  · refine congrArg Host.Outcome.next ?_
    rw [State.serve_withUnit hopen (by simp [Config.bufferCapacity]) hu, State.unlockUnit, State.buffered_status, h]; rfl
  · refine congrArg Host.Outcome.next (State.serve_of_refused hopen (by simp [Config.bufferCapacity]) (if_pos ?_))
    rcases h with rfl | h
    · rfl
    · simp [h]
  · exact congrArg Host.Outcome.next (State.serve_of_refused hopen (by simp [Config.bufferCapacity]) (if_pos h))

/-! ### The site commands -/

/-- A new site record with another T_s or S at the Meter Interface (R86). -/
theorem Meter.takeSite_of_changed {old new : SiteRecord} (m : Meter)
    (h : new.subLength ≠ old.subLength ∨ new.subCount ≠ old.subCount) : m.takeSite old new =
    { m with ring := [], rolling := 0, energy := 0, elapsed := 0, closeDue := none, syncLost := false } := by
  have hne : ¬ (decide (old.subLength = new.subLength) && decide (old.subCount = new.subCount)) = true := by
    simp only [Bool.and_eq_true, decide_eq_true_eq]; omega
  rw [Meter.takeSite, if_neg hne]
  exact ite_self _

/-- A new site record with the same T_s and S at the Meter Interface (R87). -/
theorem Meter.takeSite_of_same {old new : SiteRecord} (m : Meter)
    (h : ¬ (new.subLength ≠ old.subLength ∨ new.subCount ≠ old.subCount)) : m.takeSite old new =
    { m with syncLost := if new.syncMode = .free then false else m.syncLost } := by
  have he : (decide (old.subLength = new.subLength) && decide (old.subCount = new.subCount)) = true := by
    simp only [Bool.and_eq_true, decide_eq_true_eq]; omega
  rw [Meter.takeSite, if_pos he]
  split <;> rfl

/-- SET SITE leaves the command buffer (R171). -/
theorem State.replaceSite_buffer (r : SiteRecord) (s : State) : (s.replaceSite r).panel.buffer = s.panel.buffer := by
  unfold State.replaceSite
  dsimp only
  split
  · rfl
  · exact (State.shedEvaluation_base _).buffer

theorem State.replaceSite_eq (r : SiteRecord) (s : State) : s.replaceSite r =
    if s.site.limit = r.limit then { s with site := r, meter := s.meter.takeSite s.site r }
    else State.shedEvaluation { s with site := r, meter := s.meter.takeSite s.site r } := rfl

/-- Settles O30: the three site commands through the open port (R85 to R87, R134, R138). -/
theorem siteCommandsPutTheirFiguresInForce : Obligations.SiteCommandsPutTheirFiguresInForce := by
  intro s hopen
  refine ⟨fun r hv => ?_, fun limit margin hl hm => ?_, fun c hc => ?_⟩
  · refine congrArg Host.Outcome.next ?_
    have hset (x : State) : x.setSite r.encode = (x.replaceSite r, .bare .ok) := by
      rw [State.setSite, if_neg (not_not.mpr r.encode_length), parseSiteRecord_encode hv]
    rw [State.serve_buffered hopen (by simp [Config.bufferCapacity]), hset,
      State.latch_eq_answered (State.replaceSite_buffer _ _), State.replaceSite_eq]
    by_cases h : r.subLength ≠ s.site.subLength ∨ r.subCount ≠ s.site.subCount
    · rw [Meter.takeSite_of_changed _ (old := (s.buffered (0x20#8 :: r.encode)).site) h]
      simp only [if_pos h, if_pos (Or.inl h : _ ∨ r.syncMode = .free)]
      rfl
    · rw [Meter.takeSite_of_same _ (old := (s.buffered (0x20#8 :: r.encode)).site) h]
      have hor : ((r.subLength ≠ s.site.subLength ∨ r.subCount ≠ s.site.subCount) ∨ r.syncMode = .free)
          ↔ r.syncMode = .free := or_iff_right h
      simp only [if_neg h, hor]
      rfl
  · refine congrArg Host.Outcome.next ?_
    have hok : ¬ (decide (limit.toNat = 0) || decide (limit.toNat < margin.toNat)) = true := by
      have : limit.toNat ≠ 0 := fun h => hl (BitVec.eq_of_toNat_eq h)
      simp only [Bool.or_eq_true, decide_eq_true_eq]; omega
    rw [State.serve_buffered hopen (by simp [Config.bufferCapacity]), State.setLimit, if_neg hok]
    exact State.latch_eq_answered (State.shedEvaluation_base _).buffer _
  · refine congrArg Host.Outcome.next ?_
    have hzero : c.toNat = 0 ↔ c = 0#8 := by rw [BitVec.toNat_eq]; rfl
    rw [State.serve_buffered hopen (by simp [Config.bufferCapacity]), State.curtail, if_neg (Nat.not_lt.mpr hc),
      State.latch_eq_answered (State.actIfOpen_base _).buffer]
    simp only [hzero]
    rfl

end Sys2Proof.Machine


/-! The dividers (R50 to R52), the demand figures (R46, R81 to R83), the meter's events (R67 to R78), the expiries of a
RUNNING permit (R26 to R28, R57), and the millisecond tick (R50, R65, R161). -/

namespace Sys2Proof.Machine

/-! ### Runs -/

theorem Core_run_succ (M : Host.Core) {s t : M.State} (h : M.step s = .next t) (n : Nat) :
    M.run (n + 1) s = M.run n t := by
  rw [Host.Core.run, h]

/-- One step of a run. -/
theorem run_succ {s t : State} (h : step s = .next t) (n : Nat) :
    Host.Core.run core (n + 1) s = Host.Core.run core n t :=
  Core_run_succ core h n

/-- A run on an empty queue is crystal cycles alone (log entry 3). -/
theorem run_idle {s : State} (hp : s.pending = []) (hr : s.resetHeld = false) (n : Nat) :
    Host.Core.run core n s = .next (State.crystalCycle^[n] s) := by
  induction n generalizing s with
  | zero => rfl
  | succ n ih =>
    have hstep : step s = .next s.crystalCycle := by simp only [step, hp, State.live_of_running hr]
    rw [run_succ hstep]
    exact ih hp hr

/-- A crystal cycle writes the dividers of the time base and of the link alone (R50, R52). -/
theorem State.crystalCycle_frame (s : State) (tb : TimeBase) (l : RoofLink) :
    { s.crystalCycle with timeBase := tb, link := l } = { s with timeBase := tb, link := l } := rfl

theorem State.iterate_crystalCycle_frame (s : State) (n : Nat) :
    { State.crystalCycle^[n] s with timeBase := s.timeBase, link := s.link } = s := by
  have general (tb : TimeBase) (l : RoofLink) :
      { State.crystalCycle^[n] s with timeBase := tb, link := l } = { s with timeBase := tb, link := l } := by
    induction n with
    | zero => rfl
    | succ n ih => rw [Function.iterate_succ_apply', State.crystalCycle_frame, ih]
  exact general _ _

/-- The millisecond divider after n crystal cycles from 0, up to its wrap (R50). -/
theorem State.iterate_crystalCycle_timeBase {s : State} (h0 : s.timeBase.millisecondDivider = 0)
    (hd : s.timeBase.millisecondDue = false) {n : Nat} (hn : n ≤ 6144) :
    (State.crystalCycle^[n] s).timeBase.millisecondDivider = n % 6144
      ∧ ((State.crystalCycle^[n] s).timeBase.millisecondDue = true ↔ n = 6144) := by
  induction n with
  | zero => simp [h0, hd]
  | succ n ih =>
    obtain ⟨hdiv, hdue⟩ := ih (by omega)
    have hlt : n % 6144 = n := Nat.mod_eq_of_lt (by omega)
    rw [Function.iterate_succ_apply']
    generalize State.crystalCycle^[n] s = t at hdiv hdue
    have hnot : t.timeBase.millisecondDue = false := Bool.eq_false_iff.mpr fun h => by have := hdue.mp h; omega
    refine ⟨?_, ?_⟩
    · show (t.timeBase.millisecondDivider + 1) % 6144 = _
      rw [hdiv, hlt]
    · show (t.timeBase.millisecondDue || decide (t.timeBase.millisecondDivider + 1 = 6144)) = true ↔ _
      rw [hdiv, hlt, hnot]
      simp

/-- One more cycle at a divider of c cycles: the remainder and the count of its wraps. -/
theorem divider_succ {c : Nat} (hc : 0 < c) (m : Nat) :
    (m % c + 1) % c = (m + 1) % c ∧ m / c + (m % c + 1) / c = (m + 1) / c := by
  refine ⟨by rw [Nat.mod_add_mod], ?_⟩
  have hm : m + 1 = m % c + 1 + c * (m / c) := by have := Nat.mod_add_div m c; omega
  rw [hm, Nat.add_mul_div_left _ _ hc, Nat.add_comm]

theorem LinkSpeed.divisor_pos (v : LinkSpeed) : 0 < v.divisor := by cases v <;> decide

/-- The link's bit clock after n crystal cycles (R52). -/
theorem State.iterate_crystalCycle_link {s : State} (h : s.link.bitDivider < s.lineSpeed.bitCycles) (n : Nat) :
    (State.crystalCycle^[n] s).link = { s.link with
      bitDivider := (s.link.bitDivider + n) % s.lineSpeed.bitCycles
      lineBits := s.link.lineBits + (s.link.bitDivider + n) / s.lineSpeed.bitCycles }
    ∧ (State.crystalCycle^[n] s).lineSpeed = s.lineSpeed := by
  have hpos : 0 < s.lineSpeed.bitCycles := by omega
  induction n with
  | zero => simp [Nat.mod_eq_of_lt h, Nat.div_eq_of_lt h]
  | succ n ih =>
    obtain ⟨hlink, hspeed⟩ := ih
    rw [Function.iterate_succ_apply', State.crystalCycle_lineSpeed, hspeed]
    refine ⟨?_, rfl⟩
    rw [State.crystalCycle_link _ (by rw [hlink, hspeed]; exact Nat.mod_lt _ hpos), hlink, hspeed]
    obtain ⟨hmod, hdiv⟩ := divider_succ hpos (s.link.bitDivider + n)
    simp only [hmod, Nat.add_assoc, hdiv]

/-! ### Millisecond ticks -/

theorem State.millisecondTick_timeBase (s : State) (x : InputLevels) :
    (s.millisecondTick x).timeBase = s.timeBase.takeMillisecond := by
  unfold State.millisecondTick
  dsimp only
  split <;> rfl

theorem State.millisecondTick_resetHeld (s : State) (x : InputLevels) :
    (s.millisecondTick x).resetHeld = s.resetHeld := by
  unfold State.millisecondTick
  dsimp only
  split <;> rfl

/-- A run of millisecond ticks (R50). -/
theorem run_milliseconds {s : State} {x : InputLevels} {n : Nat} (hp : s.pending = List.replicate n (.millisecondTick x))
    (hr : s.resetHeld = false) :
    Host.Core.run core n s = .next ((State.millisecondTick x)^[n] { s with pending := [] }) := by
  have general (f : List Sys2Proof.Instr) (t : State) : State.millisecondTick x { t with pending := f }
      = { State.millisecondTick x t with pending := f } := by
    unfold State.millisecondTick
    dsimp only
    split <;> rfl
  induction n generalizing s with
  | zero => simp only [List.replicate_zero] at hp; rw [← hp]; rfl
  | succ n ih =>
    rw [List.replicate_succ] at hp
    have hstep : step s = .next { s.millisecondTick x with pending := List.replicate n (.millisecondTick x) } := by
      rw [← general]
      simp only [step, hp]
      exact congrArg Host.Outcome.next (State.live_of_running
        (s := { s with pending := List.replicate n (.millisecondTick x) }) hr _)
    rw [run_succ hstep]
    refine (ih (s := { s.millisecondTick x with pending := List.replicate n (.millisecondTick x) }) rfl
      ((s.millisecondTick_resetHeld x).trans hr)).trans ?_
    rw [Function.iterate_succ_apply]
    exact congrArg (fun t : State => Host.Outcome.next ((State.millisecondTick x)^[n] t)) (general [] s).symm

theorem iterate_millisecondTick_timeBase (s : State) (x : InputLevels) (n : Nat) :
    ((State.millisecondTick x)^[n] s).timeBase = TimeBase.takeMillisecond^[n] s.timeBase := by
  induction n with
  | zero => rfl
  | succ n ih => rw [Function.iterate_succ_apply', State.millisecondTick_timeBase, ih, Function.iterate_succ_apply']

/-- The second divider and the phase of the call sample after n millisecond ticks (R51, R161). -/
theorem TimeBase.iterate_takeMillisecond {tb : TimeBase} (h0 : tb.secondDivider = 0) (hd : tb.secondDue = false) {n : Nat}
    (hn : n ≤ 1000) :
    (TimeBase.takeMillisecond^[n] tb).secondDivider = n % 1000
      ∧ ((TimeBase.takeMillisecond^[n] tb).secondDue = true ↔ n = 1000)
      ∧ ((TimeBase.takeMillisecond^[n] tb).callPhase = (tb.callPhase + n) % 20 ∨ n = 0) := by
  induction n with
  | zero => simp [h0, hd]
  | succ n ih =>
    obtain ⟨hdiv, hdue, hphase⟩ := ih (by omega)
    have hlt : n % 1000 = n := Nat.mod_eq_of_lt (by omega)
    have hzero : n = 0 → (TimeBase.takeMillisecond^[n] tb).callPhase = tb.callPhase := by rintro rfl; rfl
    rw [Function.iterate_succ_apply']
    generalize TimeBase.takeMillisecond^[n] tb = t at hdiv hdue hphase hzero
    have hnot : t.secondDue = false := Bool.eq_false_iff.mpr fun h => by have := hdue.mp h; omega
    refine ⟨?_, ?_, .inl ?_⟩
    · show (t.secondDivider + 1) % 1000 = _
      rw [hdiv, hlt]
    · show (t.secondDue || decide (t.secondDivider + 1 = 1000)) = true ↔ _
      rw [hdiv, hlt, hnot]
      simp
    · show (t.callPhase + 1) % 20 = _
      rcases hphase with hphase | rfl
      · rw [hphase]; omega
      · rw [hzero rfl]

theorem State.lineSpeed_eq (s : State) : s.lineSpeed = if s.link.line = .gap then s.link.gapSpeed
    else s.link.transaction.elim s.site.linkSpeed Transaction.speed := by
  unfold State.lineSpeed
  cases s.link.line <;> cases s.link.transaction <;> rfl

/-- Settles O3: the four dividers, each by induction on its ticks. -/
theorem dividersRaiseTheirTicks : Obligations.DividersRaiseTheirTicks := by
  refine ⟨fun s n hp hr h0 hd hn => ?_, fun s x n hp hr h0 hd hn => ?_, fun s n hp hr => ?_, fun s => ?_⟩
  · obtain ⟨hdiv, hdue⟩ := State.iterate_crystalCycle_timeBase h0 hd hn
    exact ⟨_, run_idle hp hr n, hdiv, hdue, s.iterate_crystalCycle_frame n⟩
  · refine ⟨_, run_milliseconds hp hr, ?_, ?_⟩
    · have (k : Nat) (t : State) : ((State.millisecondTick x)^[k] t).pending = t.pending := by
        induction k with
        | zero => rfl
        | succ k ih => rw [Function.iterate_succ_apply', (State.millisecondTick_settings _ x).pending, ih]
      exact this n _
    · rw [iterate_millisecondTick_timeBase]
      exact TimeBase.iterate_takeMillisecond h0 hd hn
  · simp only [← State.lineSpeed_eq]
    exact fun h => ⟨_, run_idle hp hr n, (State.iterate_crystalCycle_link h n).1⟩
  · show (s.link.transaction.elim s.site.linkSpeed Transaction.speed).divisor = _
    cases s.link.transaction.elim s.site.linkSpeed Transaction.speed <;> rfl

/-! ### The demand figures -/

/-- A load is the sum over the permits whose state counts (R46). -/
theorem load_eq_sum (s : State) (counts : PermitState → Bool) (l : List SlotNo) :
    (l.map fun i => s.slots[i].load counts).sum
      = ((l.filterMap fun i : SlotNo => s.slots[i].permit).map fun p => if counts p.state = true then p.rating else 0).sum := by
  induction l with
  | nil => rfl
  | cons i l ih =>
    rw [List.map_cons, List.sum_cons, ih]
    cases hp : s.slots[i].permit with
    | none => simp only [List.filterMap_cons, hp, Slot.load, Nat.zero_add]
    | some p => simp only [List.filterMap_cons, hp, Slot.load, List.map_cons, List.sum_cons]

theorem State.regime_eq (s : State) : s.regime = if s.meter.state ≠ .ok then .fallback
    else if s.site.subCount ≤ s.meter.ring.length + 1 then .full else .warming := by
  unfold State.regime
  by_cases h : s.meter.state = .ok
  · by_cases hc : s.site.subCount ≤ s.meter.ring.length + 1
    · simp [h, hc, Nat.not_lt.mpr hc]
    · simp [h, hc, Nat.lt_of_not_le hc]
  · simp [h]

/-- Settles O36: each figure by its definition, the test by regime. -/
theorem demandFiguresAreThoseOfTheRules : Obligations.DemandFiguresAreThoseOfTheRules := by
  intro s extra
  refine ⟨load_eq_sum s _ allSlots, load_eq_sum s _ allSlots, s.regime_eq, rfl, ?_⟩
  cases hr : s.regime with
  | fallback => exact State.demandObstacle_fallback hr extra
  | warming => exact State.demandObstacle_warming hr extra
  | full => exact State.demandObstacle_full hr extra

/-! ### The expiries of the slot timers -/

theorem State.expired_some {s : State} {st : PermitState} {i : SlotNo} {p : Permit} (hp : s.slots[i].permit = some p)
    (hs : p.state = st) (ha : s.slots[i].aArmed = true) (hv : s.slots[i].aValue ≤ s.slots[i].counter) :
    s.expired st i = some p := by
  have hd : s.slots[i].aDue = true := by simp only [Slot.aDue, ha, hv, decide_true, Bool.and_self]
  simp only [State.expired, hp, hs, hd, decide_true, Bool.and_self, if_true]

/-- Settles O42: the three expiries, each a write of its slot. -/
theorem runningPermitExpiries : Obligations.RunningPermitExpiries := by
  intro s i p hr hp
  refine ⟨fun hs ha hv => ?_, fun hs ha hv => ?_, fun hs ha hv => ?_⟩
  · refine (congrArg Host.Outcome.next (State.live_of_running hr _)).trans (congrArg Host.Outcome.next ?_)
    rw [State.settleExpiry, State.expired_some hp hs ha hv]
    simp only [State.modifySlot, Slot.enterRunningSettled, Slot.loadA, Slot.loadP, hp, Option.map_some]
  · refine (congrArg Host.Outcome.next (State.live_of_running hr _)).trans (congrArg Host.Outcome.next ?_)
    rw [State.minRunExpiry, State.expired_some hp hs ha hv]
    simp only [State.modifySlot, Slot.disarmA, Slot.meetMinRun, hp, Option.map_some]
  · refine (congrArg Host.Outcome.next (State.live_of_running hr _)).trans (congrArg Host.Outcome.next ?_)
    have hd : s.slots[i].pDue = true := by simp only [Slot.pDue, ha, hv, decide_true, Bool.and_self]
    simp only [State.rotationExpiry, hp, hs, hd, decide_true, Bool.and_self, if_true, State.modifySlot, Option.map_some]

/-! ### The meter's events -/

/-- The operation of a close (R78). -/
theorem State.closeSubinterval_eq (s : State) : s.closeSubinterval = s.closed := by
  unfold State.closeSubinterval State.closed State.raiseIf
  by_cases h : s.site.limit < s.demandAtClose
  · rw [if_pos h]
    exact if_pos (decide_eq_true h)
  · rw [if_neg h]
    exact if_neg fun hd => h (of_decide_eq_true hd)

/-- A mark in FREE mode acts on nothing (R76). -/
theorem State.eoiMark_free {s : State} (hd : s.meter.eoiDue = true) (hm : s.site.syncMode = .free) :
    s.eoiMark = { s with meter := { s.meter with eoiDue := false } } := by
  rw [State.eoiMark, if_pos hd, hm]
  rfl

/-- A mark in METER mode closes the subinterval (R76, R77). -/
theorem State.eoiMark_meter {s : State} (hd : s.meter.eoiDue = true) (hm : s.site.syncMode = .meter) :
    s.eoiMark =
      let t : State := { s with meter := { s.meter with eoiDue := false } }
      if s.meter.syncLost then (t.modifyMeter fun m => { m with syncLost := false }).closeSubinterval
      else t.closeSubinterval.raiseIf (decide (s.meter.elapsed < s.site.subLength - s.site.grace)) .syncSlip := by
  rw [State.eoiMark, if_pos hd, hm]
  rfl

/-- Settles O45: each close is the one operation, by the test that reaches it. -/
theorem everyCloseIsTheOneOperation : Obligations.EveryCloseIsTheOneOperation := by
  intro s hr
  refine ⟨fun hd hm => ?_, fun hd hm hl => ?_, fun hd => ⟨fun hm => ?_, fun hm hl he => ?_, fun hm hl he => ?_,
    fun hm hl => ?_⟩⟩ <;>
    refine (congrArg Host.Outcome.next (State.live_of_running hr _)).trans (congrArg Host.Outcome.next ?_)
  · rw [State.freeClose, if_pos (by simpa [hd] using hm), State.closeSubinterval_eq]
  · rw [State.selfClose, if_pos (by simp [hd, hm, hl]), State.closeSubinterval_eq]
    rfl
  · rw [State.eoiMark_free hd hm]
  · rw [State.eoiMark_meter hd hm, if_neg (Bool.eq_false_iff.mp hl), State.closeSubinterval_eq, State.raiseIf,
      if_neg (by rw [decide_eq_true_eq]; omega)]
  · rw [State.eoiMark_meter hd hm, if_neg (Bool.eq_false_iff.mp hl), State.closeSubinterval_eq, State.raiseIf,
      if_pos (by rw [decide_eq_true_eq]; omega)]
  · rw [State.eoiMark_meter hd hm, if_pos hl, State.closeSubinterval_eq]
    rfl

/-- Settles O46: the loss, the noise and the three ways of a counted pulse. -/
theorem pulsesAreCountedAndTimed : Obligations.PulsesAreCountedAndTimed := by
  intro s tickFirst hr
  refine ⟨fun hd hs => ?_, fun hd => ⟨fun n he hn => ?_, fun hall => ⟨fun hs he => ?_, fun n hs he => ?_, fun hs => ?_⟩⟩⟩ <;>
    refine (congrArg Host.Outcome.next (State.live_of_running hr _)).trans (congrArg Host.Outcome.next ?_)
  · rw [State.meterLoss, if_pos (by simp [hd, hs])]
    simp only [State.modifyMeter, Meter.lose]
  · have hnoise : s.meter.isNoise s.site tickFirst = true := by
      simp only [Meter.isNoise, Meter.edgeTime, he, Option.any_some, hn, decide_true]
    rw [State.pulseEdge, if_pos hd]
    dsimp only
    rw [if_pos hnoise]
    rfl
  all_goals
    have hcounts : ¬ s.meter.isNoise s.site tickFirst = true := by
      simp only [Meter.isNoise, Meter.edgeTime]
      intro h
      obtain ⟨n, hn, hlt⟩ := (Option.any_eq_true _ _).mp h
      exact absurd (of_decide_eq_true hlt) (Nat.not_lt.mpr (hall n hn))
    rw [State.pulseEdge, if_pos hd]
    dsimp only
    rw [if_neg hcounts]
    simp only [State.modifyMeter, Meter.countPulse, Meter.edgeTime]
  · rw [hs, he]
  · rw [he]
    cases hm : s.meter.state with
    | lost => exact absurd hm hs
    | starting => rfl
    | ok => rfl
  · rw [hs]
    rfl

/-! ### The millisecond tick -/

theorem getElem_ofFn_channel (f : ChannelNo → Channel) (c : ChannelNo) : (Vector.ofFn f)[c] = f c := by simp

/-- A millisecond tick at which no call is sampled writes the marks and the millisecond counts alone. -/
def State.timed (s : State) (x : InputLevels) : State := { s.clearChannelMarks with
  timeBase := s.timeBase.takeMillisecond
  meter := s.meter.millisecondTick s.site x
  link := s.link.millisecondTick
  store := { s.store with
    savingMs := if s.store.saving.isSome then min Config.saveMilliseconds (s.store.savingMs + 1) else 0 } }

theorem State.millisecondTick_eq (s : State) (x : InputLevels) : s.millisecondTick x
    = if s.timeBase.takeMillisecond.callPhase = 0 then (s.timed x).sampleCalls x else s.timed x := rfl

theorem State.timed_channels (s : State) (x : InputLevels) (c : ChannelNo) :
    (s.timed x).channels[c] = { s.channels[c] with callDue := false, testDue := false } :=
  getElem_ofFn_channel _ c

/-- What a channel reads at a call sample depends on its filter and its record alone (R162). -/
theorem State.callState_congr {s t : State} {c : ChannelNo} (hf : s.channels[c].filter.level = t.channels[c].filter.level)
    (hr : s.record (channelUnit c) = t.record (channelUnit c)) : s.callState c = t.callState c := by
  simp only [State.callState, State.wiredFields, hf, hr]

/-- The filters of the call inputs after a call sample (R161). -/
def State.filtered (x : InputLevels) (s : State) : State :=
  { s with channels := Vector.ofFn fun c =>
      { s.channels[c] with filter := s.channels[c].filter.sample (InputLevels.call x c) } }

theorem State.filtered_channels (s : State) (x : InputLevels) (c : ChannelNo) : (s.filtered x).channels[c] =
    { s.channels[c] with filter := s.channels[c].filter.sample (InputLevels.call x c) } := getElem_ofFn_channel _ c

/-- A call sample: the filters, then the changes to present (R162). -/
theorem State.sampleCalls_eq (s : State) (x : InputLevels) : s.sampleCalls x = { s.filtered x with
    channels := Vector.ofFn fun c => { (s.filtered x).channels[c] with
      callDue := (s.filtered x).configured (channelUnit c)
        && decide ((s.filtered x).callState c ≠ (s.filtered x).channels[c].calling) } } := rfl

theorem State.sampleCalls_record (s : State) (x : InputLevels) (u : UnitNo) :
    (s.sampleCalls x).record u = (s.filtered x).record u := rfl

theorem State.filtered_configured (s : State) (x : InputLevels) (u : UnitNo) :
    (s.filtered x).configured u = s.configured u := rfl

/-- The channel after a call sample (R161, R162). -/
theorem State.sampleCalls_channels (s : State) (x : InputLevels) (c : ChannelNo) :
    (s.sampleCalls x).channels[c] = { s.channels[c] with
      filter := s.channels[c].filter.sample (InputLevels.call x c)
      callDue := s.configured (channelUnit c) && decide ((s.sampleCalls x).callState c ≠ s.channels[c].calling) } := by
  have hsampled : (s.sampleCalls x).channels[c] = { (s.filtered x).channels[c] with
      callDue := (s.filtered x).configured (channelUnit c)
        && decide ((s.filtered x).callState c ≠ (s.filtered x).channels[c].calling) } := by
    rw [State.sampleCalls_eq]
    exact getElem_ofFn_channel _ c
  have hcall : (s.sampleCalls x).callState c = (s.filtered x).callState c :=
    State.callState_congr (by rw [hsampled]) (s.sampleCalls_record x _)
  rw [hsampled, hcall, State.filtered_channels, State.filtered_configured]

/-- The three samples of a settled filter that turn its level over (R65). -/
theorem Filter.three_samples (x : Bool) :
    let f0 : Filter := { level := some !x, last1 := some !x, last2 := some !x }
    let f1 := f0.sample x
    let f2 := f1.sample x
    let f3 := f2.sample x
    f1.level = some !x ∧ f2.level = some !x ∧ f3.level = some x
      ∧ Filter.change f0 f1 = none ∧ Filter.change f1 f2 = none ∧ Filter.change f2 f3 = some x := by
  cases x <;> decide

/-- The first level of a filter comes at the third sample, and is no change (R65). -/
theorem Filter.first_samples (x : Bool) :
    let f1 := Filter.unsettled.sample x
    let f2 := f1.sample x
    let f3 := f2.sample x
    f1.level = none ∧ f2.level = none ∧ f3.level = some x
      ∧ Filter.change Filter.unsettled f1 = none ∧ Filter.change f1 f2 = none ∧ Filter.change f2 f3 = none := by
  cases x <;> decide

theorem State.millisecondTick_meter (s : State) (x : InputLevels) :
    (s.millisecondTick x).meter = s.meter.millisecondTick s.site x := by
  rw [State.millisecondTick_eq]; split <;> rfl

theorem State.millisecondTick_site (s : State) (x : InputLevels) : (s.millisecondTick x).site = s.site :=
  (s.millisecondTick_settings x).site

theorem iterate_millisecondTick_meter (s : State) (x : InputLevels) (n : Nat) :
    ((State.millisecondTick x)^[n] s).meter = (Meter.millisecondTick s.site x)^[n] s.meter
      ∧ ((State.millisecondTick x)^[n] s).site = s.site := by
  induction n with
  | zero => exact ⟨rfl, rfl⟩
  | succ n ih =>
    rw [Function.iterate_succ_apply', State.millisecondTick_meter, State.millisecondTick_site, ih.1, ih.2,
      Function.iterate_succ_apply']
    exact ⟨rfl, rfl⟩

/-- What n ticks of one PULSE level make of the filter and of the edge mark. -/
theorem CountingEdge.counts_iff (e : CountingEdge) (x : Bool) : e.counts x = true ↔
    match e with
    | .rising => x = true
    | .falling => x = false
    | .both => True := by
  cases e <;> simp [CountingEdge.counts]

/-- Settles O41: the tick's frame, part by part, and the filters over three ticks. -/
theorem millisecondTickSamplesAndTimes : Obligations.MillisecondTickSamplesAndTimes := by
  refine ⟨fun s x hr => ⟨s.millisecondTick x, congrArg Host.Outcome.next (State.live_of_running hr _), ?_, ?_, ?_, ?_, ?_,
    fun c => ⟨?_, fun hph => ?_, fun hph => ?_⟩⟩, fun s x n hr hp h0 h3 => ⟨_, run_milliseconds hp hr, ?_⟩⟩
  · rw [State.millisecondTick_eq]; split <;> rfl
  · rw [State.millisecondTick_meter]; rfl
  · rw [State.millisecondTick_meter]; rfl
  · have : (s.millisecondTick x).link = s.link.millisecondTick := by rw [State.millisecondTick_eq]; split <;> rfl
    rw [this, RoofLink.millisecondTick]
    split <;> rfl
  · rw [State.millisecondTick_eq]; split <;> rfl
  · rw [State.millisecondTick_eq]
    split
    · rw [State.sampleCalls_channels, State.timed_channels]
    · rw [State.timed_channels]
  · rw [State.millisecondTick_timeBase] at hph
    rw [State.millisecondTick_eq, if_neg hph, State.timed_channels]
    exact ⟨rfl, rfl⟩
  · rw [State.millisecondTick_timeBase] at hph
    rw [State.millisecondTick_eq, if_pos hph, State.sampleCalls_channels, State.timed_channels]
    refine ⟨?_, rfl⟩
    simp only [Filter.sample, Bool.and_eq_true, decide_eq_true_eq]
  · have hm := (iterate_millisecondTick_meter { s with pending := [] } x n).1
    rw [hm]
    obtain ⟨p1, p2, p3, pc1, pc2, pc3⟩ := Filter.three_samples x.pulse
    obtain ⟨e1, e2, e3, ec1, ec2, ec3⟩ := Filter.three_samples x.eoi
    obtain ⟨u1, u2, u3, uc1, uc2, uc3⟩ := Filter.first_samples x.pulse
    refine ⟨fun hf => ?_, fun hf => ?_, fun hf => ?_⟩ <;>
      obtain rfl | rfl | rfl : n = 1 ∨ n = 2 ∨ n = 3 := by omega
    all_goals simp only [Function.iterate_succ_apply, Function.iterate_zero, id_eq, Meter.millisecondTick, hf]
    · simp [p1, pc1]
    · simp [p2, pc2]
    · simp [p3, pc3, CountingEdge.counts_iff] <;> rfl
    · simp [e1, ec1]
    · simp [e2, ec2]
    · simp [e3, ec3]
    · exact ⟨u1, congrArg (Option.any _) uc1⟩
    · exact ⟨u2, congrArg (Option.any _) uc2⟩
    · exact ⟨u3, congrArg (Option.any _) uc3⟩

end Sys2Proof.Machine


/-! The Permit Table's operations slot by slot: a fold over slots writes each of them once, what a stop makes of a slot, how
one slot counts in the commanded level, and what top order does to a unit whose stages are in order (R23, R24, R30). -/

namespace Sys2Proof.Machine

section

variable (s : State) (u : UnitNo)

/-! ### Reading a slot after a write -/

theorem getElem_set_eq {α : Type} {n : Nat} (v : Vector α n) (i j : Fin n) (x : α) :
    (v.set i x)[j] = if j = i then x else v[j] := by
  simp [Vector.getElem_set, Fin.ext_iff, eq_comm]

theorem State.slots_modifySlot (i j : SlotNo) (f : Slot → Slot) :
    (s.modifySlot i f).slots[j] = if j = i then f s.slots[i] else s.slots[j] := getElem_set_eq _ i j _

/-- A state with other slots. -/
def State.withSlots (s : State) (v : Vector Slot 96) : State := { s with slots := v }

theorem State.withSlots_congr {v w : Vector Slot 96} (h : ∀ i : SlotNo, v[i] = w[i]) : s.withSlots v = s.withSlots w :=
  congrArg s.withSlots (Vector.ext fun i hi => h ⟨i, hi⟩)

/-- Changes every slot of a set. -/
def State.mapSlots (c : SlotNo → Bool) (f : Slot → Slot) (s : State) : State :=
  s.withSlots (Vector.ofFn fun i => if c i then f s.slots[i] else s.slots[i])

theorem State.slots_mapSlots (c : SlotNo → Bool) (f : Slot → Slot) (i : SlotNo) :
    (s.mapSlots c f).slots[i] = if c i then f s.slots[i] else s.slots[i] := by
  simp [State.mapSlots, State.withSlots]

theorem State.mapSlots_modifySlot (c : SlotNo → Bool) (f g : Slot → Slot) (a : SlotNo) :
    (s.modifySlot a g).mapSlots c f = s.withSlots ((s.modifySlot a g).mapSlots c f).slots := rfl

/-- A fold that changes the slots of a list, each by the same change, changes every slot of the list once. -/
theorem State.foldl_modifySlot {F : State → Slot → Slot}
    (hF : ∀ (t : State) (i : SlotNo) (f : Slot → Slot), F (t.modifySlot i f) = F t) (l : List SlotNo) :
    ∀ s : State, l.Nodup →
      l.foldl (fun t i => t.modifySlot i (F t)) s = s.mapSlots (fun i => decide (i ∈ l)) (F s) := by
  induction l with
  | nil => exact fun s _ => s.withSlots_congr (v := s.slots) fun i => by simp
  | cons a l ih =>
    intro s hl
    obtain ⟨hal, hl⟩ := List.nodup_cons.mp hl
    rw [List.foldl_cons, ih _ hl, hF, State.mapSlots_modifySlot]
    refine s.withSlots_congr fun i => (State.slots_mapSlots _ _ _ i).trans (Eq.trans ?_ (s.slots_mapSlots _ _ i).symm)
    simp only [State.slots_modifySlot, List.mem_cons, decide_eq_true_eq]
    by_cases hia : i = a
    · subst hia; simp only [hal, true_or, if_true, if_false]
    · simp only [hia, false_or, if_false]

theorem State.decide_mem_slotsOf (f : Permit → Bool) (i : SlotNo) : decide (i ∈ s.slotsOf u f) = s.holds u f i := by
  simp [State.slotsOf, allSlots]

theorem State.foldl_slotsOf {F : State → Slot → Slot}
    (hF : ∀ (t : State) (i : SlotNo) (f : Slot → Slot), F (t.modifySlot i f) = F t) (f : Permit → Bool) :
    (s.slotsOf u f).foldl (fun t i => t.modifySlot i (F t)) s = s.mapSlots (s.holds u f) (F s) := by
  rw [State.foldl_modifySlot hF _ s (s.slotsOf_nodup u f)]
  simp only [s.decide_mem_slotsOf]

theorem State.replaceDraining_eq (r : StopReason) :
    s.replaceDraining u r = s.mapSlots (s.holds u fun p => decide (p.state = .draining)) (Slot.setReason r) :=
  s.foldl_slotsOf u (F := fun _ => Slot.setReason r) (fun _ _ _ => rfl) _

theorem State.spareClassZero_eq :
    s.spareClassZero u = s.mapSlots (s.holds u fun p => p.reason.any StopReason.spared) (Slot.setReason .released) :=
  s.foldl_slotsOf u (F := fun _ => Slot.setReason .released) (fun _ _ _ => rfl) _

theorem State.restoreBelow_eq (d : Nat) :
    s.restoreBelow u d = s.mapSlots (s.holds u fun p => decide (p.state = .draining)
      && decide (p.reason = some .released) && decide (p.stage < d)) (Slot.enterRunningRestored (s.rotation u)) :=
  s.foldl_slotsOf u (F := fun t => Slot.enterRunningRestored (t.rotation u)) (fun _ _ _ => rfl) _

/-- The permits that an entry into a stop sends to DRAINING, before top order is applied (R36). -/
def State.drained (u : UnitNo) (r : StopReason) (stages : Nat → Bool) (s : State) : State :=
  s.mapSlots (s.holds u fun p => (decide (p.state = .starting) || decide (p.state = .running)) && stages p.stage)
    (Slot.enterDraining r (s.minRun u))

theorem State.enterStop_eq (r : StopReason) (stages : Nat → Bool) :
    s.enterStop u r stages = (s.drained u r stages).topOrder u :=
  congrArg (State.topOrder u) (s.foldl_slotsOf u (F := fun t => Slot.enterDraining r (t.minRun u)) (fun _ _ _ => rfl) _)

/-! ### What a stop makes of a slot (R31, R34, R55) -/

/-- What the entry into RESTING leaves of a slot: FREE with a minimum off of 0 s (R34, R55). -/
def State.rested (s : State) (u : UnitNo) (sl : Slot) : Slot :=
  if s.minOff u = 0 then .free else sl.enterResting (s.minOff u)

/-- What the entry into STOPPING leaves of a slot (R31). -/
def State.stopped (s : State) (u : UnitNo) (sl : Slot) : Slot :=
  if isWired u then s.rested u sl else sl.enterStopping s.site.complianceTimeout

theorem State.restSlot_slots (i j : SlotNo) :
    (s.restSlot u i).slots[j] = if j = i then s.rested u s.slots[i] else s.slots[j] := by
  unfold State.restSlot State.rested
  split
  · simp only [s.freeSlot_slots, getElem_set_eq]
  · exact s.slots_modifySlot i j _

theorem State.stopSlot_slots (i j : SlotNo) :
    (s.stopSlot u i).slots[j] = if j = i then s.stopped u s.slots[i] else s.slots[j] := by
  unfold State.stopSlot State.stopped
  split
  · exact s.restSlot_slots u i j
  · exact s.slots_modifySlot i j _

/-- A slot that rests is FREE, or holds its permit in RESTING. -/
theorem State.rested_permit (sl : Slot) : (s.rested u sl).permit =
    if s.minOff u = 0 then none else sl.permit.map fun p => { p with state := .resting, rotationDue := false } := by
  unfold State.rested
  split
  · rfl
  · exact sl.enterResting_permit _

/-! ### Which records a stop can remove -/

theorem State.completeRetirement_units (v : UnitNo) :
    (s.completeRetirement u).units[v] = if v = u then .blank else s.units[v] := by
  unfold State.completeRetirement State.onChannelOf
  split <;> exact getElem_set_eq _ u v _

/-- Freeing a slot leaves the records, but for a retirement that it completes (R17). -/
theorem State.freeSlot_units (i : SlotNo) (v : UnitNo) : (s.freeSlot u i).units[v] = s.units[v] ∨
    v = u ∧ (s.status u).state = .retiring ∧ (s.freeSlot u i).units[v] = .blank
      ∧ (s.freeSlot u i).hasPermit u = false := by
  unfold State.freeSlot State.retireIfEmpty
  split
  · next h =>
    obtain ⟨hr, hno⟩ := Bool.and_eq_true_iff.mp h
    rw [State.completeRetirement_units]
    by_cases hv : v = u
    · refine .inr ⟨hv, of_decide_eq_true hr, if_pos hv, ?_⟩
      have hno := (Bool.not_eq_true' _).mp hno
      rw [State.hasPermit] at hno ⊢
      unfold State.holds at hno ⊢
      rw [State.completeRetirement_slots]
      exact hno
    · exact .inl (if_neg hv)
  · exact .inl rfl

/-- The minimum off is kept by a stop, since only a minimum off of 0 frees the slot that completes a retirement. -/
theorem State.restSlot_minOff (i : SlotNo) : (s.restSlot u i).minOff u = s.minOff u := by
  unfold State.restSlot
  split
  · next h =>
    rcases s.freeSlot_units u i u with hu | ⟨-, -, hu, -⟩ <;> simp only [State.minOff, State.record] at h ⊢ <;> rw [hu]
    exact h.symm
  · rfl

theorem State.stopSlot_minOff (i : SlotNo) : (s.stopSlot u i).minOff u = s.minOff u := by
  unfold State.stopSlot
  split
  · exact s.restSlot_minOff u i
  · rfl

theorem State.rested_congr {s t : State} (h : t.minOff u = s.minOff u) : t.rested u = s.rested u := by
  funext sl; simp only [State.rested, h]

theorem State.stopped_congr {s t : State} (h : t.minOff u = s.minOff u) (hs : t.site = s.site) :
    t.stopped u = s.stopped u := by
  funext sl; simp only [State.stopped, State.rested_congr u h, hs]

/-- Resting the slots of a list rests each of them once (R34). -/
theorem State.restAll_slots (l : List SlotNo) : ∀ s : State, l.Nodup → ∀ j : SlotNo,
    (s.restAll u l).slots[j] = if j ∈ l then s.rested u s.slots[j] else s.slots[j] := by
  induction l with
  | nil => intro s _ j; simp [State.restAll]
  | cons a l ih =>
    intro s hl j
    obtain ⟨hal, hl⟩ := List.nodup_cons.mp hl
    have := ih (s.restSlot u a) hl j
    rw [State.rested_congr u (s.restSlot_minOff u a), s.restSlot_slots] at this
    rw [State.restAll, List.foldl_cons]
    refine Eq.trans this ?_
    by_cases hja : j = a
    · subst hja; simp only [hal, if_true, if_false, List.mem_cons, true_or]
    · simp only [hja, if_false, List.mem_cons, false_or]

theorem State.restAll_minOff (l : List SlotNo) : ∀ s : State, (s.restAll u l).minOff u = s.minOff u := by
  induction l with
  | nil => exact fun s => rfl
  | cons a l ih => exact fun s => (ih _).trans (s.restSlot_minOff u a)

/-! ### Counting the permits of a unit -/

theorem length_filter_eq_sum {α : Type} (p : α → Bool) (l : List α) :
    (l.filter p).length = (l.map fun a => (p a).toNat).sum := by
  induction l with
  | nil => rfl
  | cons a l ih => cases h : p a <;> simp [h, ih, Nat.add_comm]

theorem State.holds_eq_any (f : Permit → Bool) (i : SlotNo) :
    s.holds u f i = s.slots[i].permit.any fun p => decide (p.unit = u) && f p := by
  unfold State.holds
  cases s.slots[i].permit <;> rfl

theorem State.holds_congr {s t : State} {i j : SlotNo} (h : t.slots[j].permit = s.slots[i].permit) (f : Permit → Bool) :
    t.holds u f j = s.holds u f i := by
  rw [State.holds_eq_any, State.holds_eq_any, h]

theorem State.slotsOf_congr {s t : State} {f : Permit → Bool} (h : ∀ i : SlotNo, t.holds u f i = s.holds u f i) :
    t.slotsOf u f = s.slotsOf u f := List.filter_congr fun i _ => h i

/-- A change of one slot changes the number of a unit's permits with a property by that slot's part. -/
theorem State.slotsOf_length_add {s t : State} {f : Permit → Bool} {i : SlotNo}
    (h : ∀ j : SlotNo, j ≠ i → t.holds u f j = s.holds u f j) :
    (t.slotsOf u f).length + (s.holds u f i).toNat = (s.slotsOf u f).length + (t.holds u f i).toNat := by
  have count (r : State) : (r.slotsOf u f).length
      = (r.holds u f i).toNat + ∑ j ∈ Finset.univ.erase i, (r.holds u f j).toNat := by
    rw [State.slotsOf, allSlots, length_filter_eq_sum, ← Fin.sum_univ_def]
    exact (Finset.add_sum_erase _ _ (Finset.mem_univ i)).symm
  have rest : ∑ j ∈ Finset.univ.erase i, (t.holds u f j).toNat = ∑ j ∈ Finset.univ.erase i, (s.holds u f j).toNat :=
    Finset.sum_congr rfl fun j hj => by rw [h j (Finset.ne_of_mem_erase hj)]
  rw [count t, count s, rest]
  omega

theorem State.level_congr {s t : State} (h : ∀ i : SlotNo, t.slots[i].permit = s.slots[i].permit) : t.level u = s.level u :=
  congrArg List.length (State.slotsOf_congr u fun i => State.holds_congr u (h i) _)

/-- The commanded level falls by 1 where one commanded-on permit of the unit goes off (R24). -/
theorem State.level_of_off {s t : State} {i : SlotNo} (h : ∀ j : SlotNo, j ≠ i → t.slots[j].permit = s.slots[j].permit)
    (hon : s.holds u (·.state.commandedOn) i = true) (hoff : t.holds u (·.state.commandedOn) i = false) :
    t.level u + 1 = s.level u := by
  have := State.slotsOf_length_add u (f := (·.state.commandedOn)) (i := i) fun j hj => State.holds_congr u (h j hj) _
  rw [hon, hoff] at this
  exact this

/-- The commanded level rises by 1 where one permit of the unit comes on (R24). -/
theorem State.level_of_on {s t : State} {i : SlotNo} (h : ∀ j : SlotNo, j ≠ i → t.slots[j].permit = s.slots[j].permit)
    (hoff : s.holds u (·.state.commandedOn) i = false) (hon : t.holds u (·.state.commandedOn) i = true) :
    t.level u = s.level u + 1 :=
  (State.level_of_off u (fun j hj => (h j hj).symm) hon hoff).symm

theorem State.hasPermit_eq_false_iff : s.hasPermit u = false ↔ ∀ (i : SlotNo) (p : Permit),
    s.slots[i].permit = some p → p.unit ≠ u := by
  rw [State.hasPermit, List.any_eq_false]
  refine ⟨fun h i p hp hu => h i (List.mem_finRange i) ((s.holds_iff u _ i).mpr ⟨p, hp, hu, rfl⟩), fun h i _ hi => ?_⟩
  obtain ⟨p, hp, hu, -⟩ := (s.holds_iff u _ i).mp hi
  exact h i p hp hu

theorem State.slotsOf_of_noPermit (h : s.hasPermit u = false) (f : Permit → Bool) : s.slotsOf u f = [] := by
  refine List.eq_nil_iff_forall_not_mem.mpr fun i hi => ?_
  obtain ⟨p, hp, hu, -⟩ := (s.mem_slotsOf u f i).mp hi
  exact (s.hasPermit_eq_false_iff u).mp h i p hp hu

theorem State.level_of_noPermit (h : s.hasPermit u = false) : s.level u = 0 :=
  congrArg List.length (s.slotsOf_of_noPermit u h _)

end

end Sys2Proof.Machine


/-! A unit whose permits stand in order (R23, R24): which stages hold a permit, and how far the descent of top order goes
(R30). -/

namespace Sys2Proof.Machine

section

variable (s : State) (u : UnitNo)

/-! ### A unit's stages in order -/

/-- No two permits of the unit share a stage, and its commanded-on permits are those below its commanded level. -/
structure State.InOrder (u : UnitNo) (s : State) : Prop where
  distinct : ∀ {i j : SlotNo} {p q : Permit}, s.slots[i].permit = some p → s.slots[j].permit = some q →
    p.unit = u → q.unit = u → p.stage = q.stage → i = j
  on_iff : ∀ {i : SlotNo} {p : Permit}, s.slots[i].permit = some p → p.unit = u →
    (p.state.commandedOn = true ↔ p.stage < s.level u)

theorem State.inOrder_of_sound (hd : s.stagesDistinct) (hl : s.levelsSound) (u : UnitNo) : s.InOrder u where
  distinct hp hq hpu hqu h := hd _ _ _ hp _ hq (hpu.trans hqu.symm) h
  on_iff hp hpu := by
    rw [hl _ _ hp, hpu]
    exact decide_eq_true_iff

theorem State.sound_of_inOrder (h : ∀ u : UnitNo, s.InOrder u) : s.stagesDistinct ∧ s.levelsSound :=
  ⟨fun _ _ _ hp _ hq hu hk => (h _).distinct hp hq hu rfl hk,
   fun _ _ hp => by rw [Bool.eq_iff_iff, (h _).on_iff hp rfl, decide_eq_true_iff]⟩

variable {s u}

/-- The stage of the permit in a slot. -/
def Slot.stage (sl : Slot) : Nat := sl.permit.elim 0 Permit.stage

theorem Slot.stage_of {sl : Slot} {p : Permit} (h : sl.permit = some p) : sl.stage = p.stage := by rw [Slot.stage, h]; rfl

/-- Every stage below the commanded level holds a commanded-on permit (R24). -/
theorem State.InOrder.exists_on (h : s.InOrder u) {k : Nat} (hk : k < s.level u) : ∃ (i : SlotNo) (p : Permit),
    s.slots[i].permit = some p ∧ p.unit = u ∧ p.stage = k ∧ p.state.commandedOn = true := by
  have hon {i : SlotNo} (hi : i ∈ s.slotsOf u (·.state.commandedOn)) := (s.mem_slotsOf u _ i).mp hi
  have hmaps : Set.MapsTo (fun i : SlotNo => s.slots[i].stage) ↑(s.slotsOf u (·.state.commandedOn)).toFinset
      ↑(Finset.range (s.level u)) := by
    intro i hi
    obtain ⟨p, hp, hu, hs⟩ := hon (List.mem_toFinset.mp hi)
    simp only [Slot.stage_of hp, Finset.coe_range, Set.mem_Iio]
    exact (h.on_iff hp hu).mp hs
  have hinj : Set.InjOn (fun i : SlotNo => s.slots[i].stage) ↑(s.slotsOf u (·.state.commandedOn)).toFinset := by
    intro i hi j hj hij
    obtain ⟨p, hp, hpu, -⟩ := hon (List.mem_toFinset.mp hi)
    obtain ⟨q, hq, hqu, -⟩ := hon (List.mem_toFinset.mp hj)
    simp only [Slot.stage_of hp, Slot.stage_of hq] at hij
    exact h.distinct hp hq hpu hqu hij
  have hcard : (Finset.range (s.level u)).card ≤ (s.slotsOf u (·.state.commandedOn)).toFinset.card := by
    rw [Finset.card_range, List.toFinset_card_of_nodup (s.slotsOf_nodup u _)]
    exact le_refl _
  obtain ⟨i, hi, hik⟩ := Finset.surjOn_of_injOn_of_card_le _ hmaps hinj hcard (Finset.mem_coe.mpr (Finset.mem_range.mpr hk))
  obtain ⟨p, hp, hu, hs⟩ := hon (List.mem_toFinset.mp hi)
  simp only [Slot.stage_of hp] at hik
  exact ⟨i, p, hp, hu, hik, hs⟩

/-- The slot found at a stage is the one that holds its permit. -/
theorem State.InOrder.slotAt_eq (h : s.InOrder u) {i : SlotNo} {p : Permit} (hp : s.slots[i].permit = some p)
    (hu : p.unit = u) : s.slotAt u p.stage = some i := by
  cases hs : s.slotAt u p.stage with
  | none =>
    refine absurd (List.find?_eq_none.mp hs i (List.mem_finRange i)) (not_not.mpr ?_)
    exact (s.holds_iff u _ i).mpr ⟨p, hp, hu, decide_eq_true rfl⟩
  | some j =>
    obtain ⟨q, hq, hqu, hk⟩ := s.slotAt_some u hs
    rw [h.distinct hq hp hqu hu hk]

theorem State.slotAt_none_iff {k : Nat} : s.slotAt u k = none ↔
    ∀ (i : SlotNo) (p : Permit), s.slots[i].permit = some p → p.unit = u → p.stage ≠ k := by
  refine ⟨fun h i p hp hu hk => ?_, fun h => ?_⟩
  · refine List.find?_eq_none.mp h i (List.mem_finRange i) ((s.holds_iff u _ i).mpr ⟨p, hp, hu, decide_eq_true hk⟩)
  · refine List.find?_eq_none.mpr fun i _ hi => ?_
    obtain ⟨p, hp, hu, hk⟩ := (s.holds_iff u _ i).mp hi
    exact h i p hp hu (of_decide_eq_true hk)

/-- The slot of the top stage is the one that holds the permit at stage L − 1 (R30). -/
theorem State.InOrder.topSlot_eq (h : s.InOrder u) {i : SlotNo} {p : Permit} (hp : s.slots[i].permit = some p)
    (hu : p.unit = u) (hk : p.stage + 1 = s.level u) : s.topSlot u = some i := by
  have hon : p.state.commandedOn = true := (h.on_iff hp hu).mpr (by omega)
  unfold State.topSlot
  split
  · next h0 => omega
  · next l hl =>
    have hfound : (s.holds u fun p => decide (p.stage = l) && p.state.commandedOn) i = true :=
      (s.holds_iff u _ i).mpr ⟨p, hp, hu, by rw [hon, Bool.and_true]; exact decide_eq_true (by omega)⟩
    cases hs : allSlots.find? (s.holds u fun p => decide (p.stage = l) && p.state.commandedOn) with
    | none => exact absurd hfound (List.find?_eq_none.mp hs i (List.mem_finRange i))
    | some j =>
      obtain ⟨q, hq, hqu, hqs⟩ := (s.holds_iff u _ j).mp (List.find?_some hs)
      have hqk := of_decide_eq_true (Bool.and_eq_true_iff.mp hqs).1
      rw [h.distinct hq hp hqu hu (by omega)]

/-- A commanded-on permit that goes off, the top one, leaves the unit's stages in order at one level less. -/
theorem State.InOrder.of_top_off {t : State} (h : s.InOrder u) {i : SlotNo} {p : Permit} (hp : s.slots[i].permit = some p)
    (hu : p.unit = u) (hk : p.stage + 1 = s.level u)
    (hrest : ∀ j : SlotNo, j ≠ i → t.slots[j].permit = s.slots[j].permit)
    (hi : ∀ q, t.slots[i].permit = some q → q.unit = u → q.stage = p.stage ∧ q.state.commandedOn = false) :
    t.level u + 1 = s.level u ∧ t.InOrder u := by
  have hon : p.state.commandedOn = true := (h.on_iff hp hu).mpr (by omega)
  have hlevel : t.level u + 1 = s.level u := by
    refine State.level_of_off u hrest ((s.holds_iff u _ i).mpr ⟨p, hp, hu, hon⟩) ?_
    refine Bool.eq_false_iff.mpr fun hh => ?_
    obtain ⟨q, hq, hqu, hqs⟩ := (t.holds_iff u _ i).mp hh
    rw [(hi q hq hqu).2] at hqs
    cases hqs
  have hback {j : SlotNo} {q : Permit} (hq : t.slots[j].permit = some q) (hqu : q.unit = u) :
      ∃ r, s.slots[j].permit = some r ∧ r.unit = u ∧ r.stage = q.stage := by
    by_cases hj : j = i
    · subst hj
      exact ⟨p, hp, hu, (hi q hq hqu).1.symm⟩
    · exact ⟨q, (hrest j hj) ▸ hq, hqu, rfl⟩
  refine ⟨hlevel, ⟨fun {j k p1 p2} h1 h2 hu1 hu2 hs => ?_, fun {j q} hq hqu => ?_⟩⟩
  · obtain ⟨r1, hr1, hru1, hrs1⟩ := hback h1 hu1
    obtain ⟨r2, hr2, hru2, hrs2⟩ := hback h2 hu2
    exact h.distinct hr1 hr2 hru1 hru2 (by omega)
  · by_cases hj : j = i
    · subst hj
      obtain ⟨hqk, hqoff⟩ := hi q hq hqu
      rw [hqoff]
      exact ⟨fun hh => absurd hh Bool.false_ne_true, fun hh => by omega⟩
    · have hq' := (hrest j hj) ▸ hq
      have hne : q.stage ≠ p.stage := fun hh => hj (h.distinct hq' hp hqu hu hh)
      rw [h.on_iff hq' hqu]
      omega

/-! ### The descent (R30) -/

theorem Slot.enterResting_off {sl : Slot} {v : Nat} {p q : Permit} (hp : sl.permit = some p)
    (hq : (sl.enterResting v).permit = some q) :
    q.stage = p.stage ∧ q.state.commandedOn = false ∧ q.unit = p.unit := by
  rw [sl.enterResting_permit, hp] at hq
  cases hq
  exact ⟨rfl, rfl, rfl⟩

/-- A permit that is stopped is off, at its stage. -/
theorem State.stopped_off {sl : Slot} {p q : Permit} (hp : sl.permit = some p) (hq : (s.stopped u sl).permit = some q) :
    q.stage = p.stage ∧ q.state.commandedOn = false ∧ q.unit = p.unit := by
  unfold State.stopped at hq
  split at hq
  · unfold State.rested at hq
    split at hq
    · cases hq
    · exact Slot.enterResting_off hp hq
  · rw [sl.enterStopping_permit, hp] at hq
    cases hq
    exact ⟨rfl, rfl, rfl⟩

/-- The permits that a descent carries on: DRAINING with the minimum run met (R30). -/
def Permit.descends (p : Permit) : Bool := decide (p.state = .draining) && p.minRunMet

/-- What a descent leaves of each slot: as it was, or stopped, which reaches permits of the unit alone that are DRAINING with
min-run met (R30). -/
theorem State.descend_slots (n : Nat) : ∀ (s : State) (i : SlotNo), (s.descend n u).slots[i] = s.slots[i]
    ∨ s.holds u Permit.descends i = true ∧ (s.descend n u).slots[i] = s.stopped u s.slots[i] := by
  induction n with
  | zero => exact fun s i => .inl rfl
  | succ n ih =>
    intro s i
    rcases s.descend_cases u n with h | ⟨j, p, -, hp, hu, hst, hmet, h⟩
    · rw [h]; exact .inl rfl
    · rw [h]
      have hsame : (s.stopSlot u j).stopped u = s.stopped u :=
        State.stopped_congr u (s.stopSlot_minOff u j) (s.stopSlot_base u j).site
      by_cases hij : i = j
      · subst hij
        have hi : s.holds u Permit.descends i = true :=
          (s.holds_iff u _ i).mpr ⟨p, hp, hu, by rw [Permit.descends, hst, hmet]; rfl⟩
        refine .inr ⟨hi, ?_⟩
        rcases ih (s.stopSlot u i) i with h1 | ⟨h1, -⟩
        · rw [h1, s.stopSlot_slots, if_pos rfl]
        · obtain ⟨q, hq, -, hqd⟩ := (State.holds_iff _ u _ i).mp h1
          rw [s.stopSlot_slots, if_pos rfl] at hq
          have := (State.stopped_off hp hq).2.1
          rw [Permit.descends, Bool.and_eq_true_iff] at hqd
          rw [of_decide_eq_true hqd.1] at this
          cases this
      · rcases ih (s.stopSlot u j) i with h1 | ⟨h1, h2⟩
        · exact .inl (by rw [h1, s.stopSlot_slots, if_neg hij])
        · have hslot : (s.stopSlot u j).slots[i] = s.slots[i] := by rw [s.stopSlot_slots, if_neg hij]
          refine .inr ⟨?_, by rw [h2, hslot, hsame]⟩
          rw [← h1]
          exact (State.holds_congr u (congrArg Slot.permit hslot) _).symm

theorem State.descend_of_descends (n : Nat) {i : SlotNo} {p : Permit} (ht : s.topSlot u = some i)
    (hp : s.slots[i].permit = some p) (hd : p.descends = true) : s.descend (n + 1) u = (s.stopSlot u i).descend n u := by
  rw [State.descend, ht]
  simp only [hp]
  exact if_pos hd

theorem State.descend_of_not_descends (n : Nat) {i : SlotNo} {p : Permit} (ht : s.topSlot u = some i)
    (hp : s.slots[i].permit = some p) (hd : p.descends = false) : s.descend n u = s := by
  cases n with
  | zero => rfl
  | succ n =>
    rw [State.descend, ht]
    simp only [hp]
    exact if_neg (Bool.eq_false_iff.mp hd)

theorem State.descend_of_level_zero (n : Nat) (h : s.level u = 0) : s.descend n u = s := by
  cases n with
  | zero => rfl
  | succ n =>
    have : s.topSlot u = none := by unfold State.topSlot; rw [h]
    rw [State.descend, this]

/-- The descent over a unit whose stages are in order leaves them in order, and ends above the first stage that is not
DRAINING with min-run met, or out of turns (R30). -/
theorem State.InOrder.descend (n : Nat) : ∀ {s : State}, s.InOrder u →
    (s.descend n u).InOrder u ∧ (s.descend n u).level u ≤ s.level u
    ∧ (s.level u ≤ n → ∀ (i : SlotNo) (p : Permit), s.slots[i].permit = some p → p.unit = u →
        p.stage + 1 = (s.descend n u).level u → p.descends = false) := by
  induction n with
  | zero =>
    intro s h
    refine ⟨h, le_refl _, fun h0 i p _ _ hk => ?_⟩
    have : (s.descend 0 u).level u = s.level u := rfl
    omega
  | succ n ih =>
    intro s h
    rcases Nat.eq_zero_or_pos (s.level u) with h0 | hpos
    · rw [State.descend_of_level_zero _ h0]
      exact ⟨h, le_refl _, fun _ i p _ _ hk => by omega⟩
    · obtain ⟨i, p, hp, hu, hk, -⟩ := h.exists_on (k := s.level u - 1) (by omega)
      have htop := h.topSlot_eq hp hu (by omega)
      cases hd : p.descends with
      | false =>
        rw [State.descend_of_not_descends _ htop hp hd]
        refine ⟨h, le_refl _, fun _ j q hq hqu hqk => ?_⟩
        obtain rfl := h.distinct hq hp hqu hu (by omega)
        cases hp.symm.trans hq
        exact hd
      | true =>
        rw [State.descend_of_descends n htop hp hd]
        have hslots (j : SlotNo) (hj : j ≠ i) : (s.stopSlot u i).slots[j] = s.slots[j] := by
          rw [s.stopSlot_slots, if_neg hj]
        obtain ⟨hlevel, horder⟩ := h.of_top_off (t := s.stopSlot u i) hp hu (by omega)
          (fun j hj => congrArg Slot.permit (hslots j hj)) fun q hq _ => by
            rw [s.stopSlot_slots, if_pos rfl] at hq
            exact ⟨(State.stopped_off hp hq).1, (State.stopped_off hp hq).2.1⟩
        obtain ⟨hend, hle, hstop⟩ := ih horder
        refine ⟨hend, by omega, fun hn j q hq hqu hqk => ?_⟩
        have hj : j ≠ i := by
          rintro rfl
          cases hp.symm.trans hq
          omega
        exact hstop (by omega) j q ((hslots j hj).symm ▸ hq) hqu hqk

/-- What the descent leaves of the commanded-on stages of a unit whose stages are in order: those below the new level as
they were, those from it up stopped (R30). -/
theorem State.InOrder.descend_slots (h : s.InOrder u) (n : Nat) {i : SlotNo} {p : Permit} (hp : s.slots[i].permit = some p)
    (hu : p.unit = u) : (p.stage < (s.descend n u).level u → (s.descend n u).slots[i] = s.slots[i])
      ∧ ((s.descend n u).level u ≤ p.stage → p.stage < s.level u →
        p.descends = true ∧ (s.descend n u).slots[i] = s.stopped u s.slots[i]) := by
  obtain ⟨hend, -, -⟩ := h.descend n
  have hback {j : SlotNo} {q : Permit} (hq : (s.descend n u).slots[j].permit = some q) :
      ∃ r, s.slots[j].permit = some r ∧ r.stage = q.stage ∧ r.unit = q.unit := by
    rcases State.descend_slots (u := u) n s j with h1 | ⟨hd, h1⟩
    · exact ⟨q, h1 ▸ hq, rfl, rfl⟩
    · obtain ⟨r, hr, hru, -⟩ := (s.holds_iff u _ j).mp hd
      rw [h1] at hq
      obtain ⟨hk, -, hqu⟩ := State.stopped_off hr hq
      exact ⟨r, hr, hk.symm, hqu.symm⟩
  refine ⟨fun hk => ?_, fun hk hk' => ?_⟩
  · rcases State.descend_slots (u := u) n s i with h1 | ⟨hd, h1⟩
    · exact h1
    · obtain ⟨j, q, hq, hqu, hqk, hqs⟩ := hend.exists_on hk
      obtain ⟨r, hr, hrk, hru⟩ := hback hq
      obtain rfl := h.distinct hr hp (hru.trans hqu) hu (by omega)
      rw [h1] at hq
      rw [(State.stopped_off hp hq).2.1] at hqs
      cases hqs
  · rcases State.descend_slots (u := u) n s i with h1 | ⟨hd, h1⟩
    · have hp' : (s.descend n u).slots[i].permit = some p := h1 ▸ hp
      have hon := (h.on_iff hp hu).mpr hk'
      have := (hend.on_iff hp' hu).mp hon
      omega
    · obtain ⟨q, hq, -, hqd⟩ := (s.holds_iff u _ i).mp hd
      cases hp.symm.trans hq
      exact ⟨hqd, h1⟩

end

end Sys2Proof.Machine


/-! What the operations over one unit's permits leave: the queue, the gates, the Shed Controller, the records of every other
unit and the channels that are not its own. What a pass of the queue leaves: every record, and the Shed Controller. -/

namespace Sys2Proof.Machine

/-! ### Operations over one unit -/

/-- Two states that differ in the permits of a unit, in its record, on the urgent list, in its channel and in the notices. -/
structure State.Aside (u : UnitNo) (s t : State) : Prop where
  base : s.SameBase t
  queue : t.queue = s.queue
  startGate : t.startGate = s.startGate
  openingDue : t.openingDue = s.openingDue
  shedGate : t.shedGate = s.shedGate
  shed : t.shed = s.shed
  link : { t.link with urgent := s.link.urgent } = s.link
  channels : ∀ c : ChannelNo, channelUnit c ≠ u → t.channels[c] = s.channels[c]
  units : ∀ v : UnitNo, v ≠ u → t.units[v] = s.units[v]

theorem State.Aside.refl (u : UnitNo) (s : State) : s.Aside u s :=
  ⟨.refl s, rfl, rfl, rfl, rfl, rfl, rfl, fun _ _ => rfl, fun _ _ => rfl⟩

theorem State.Aside.trans {u : UnitNo} {s t r : State} (h : State.Aside u s t) (k : State.Aside u t r) :
    State.Aside u s r where
  base := h.base.trans k.base
  queue := k.queue.trans h.queue
  startGate := k.startGate.trans h.startGate
  openingDue := k.openingDue.trans h.openingDue
  shedGate := k.shedGate.trans h.shedGate
  shed := k.shed.trans h.shed
  link := by rw [← h.link, ← k.link]
  channels c hc := (k.channels c hc).trans (h.channels c hc)
  units v hv := (k.units v hv).trans (h.units v hv)

/-- A fold of operations over one unit is one. -/
theorem State.Aside.foldl {α : Type} {u : UnitNo} {f : State → α → State} (hf : ∀ (t : State) (a : α), t.Aside u (f t a))
    (l : List α) : ∀ s : State, s.Aside u (l.foldl f s) := by
  induction l with
  | nil => exact fun s => .refl u s
  | cons a l ih => exact fun s => (hf s a).trans (ih (f s a))

section

variable (s : State) (u : UnitNo)

theorem State.raise_aside (n : Notice) : s.Aside u (s.raise n) :=
  ⟨s.raise_base n, rfl, rfl, rfl, rfl, rfl, rfl, fun _ _ => rfl, fun _ _ => rfl⟩

theorem State.raiseIf_aside (c : Bool) (n : Notice) : s.Aside u (s.raiseIf c n) := by
  unfold State.raiseIf; split
  · exact s.raise_aside u n
  · exact .refl u s

theorem State.modifySlot_aside (i : SlotNo) (f : Slot → Slot) : s.Aside u (s.modifySlot i f) :=
  ⟨s.modifySlot_base i f, rfl, rfl, rfl, rfl, rfl, rfl, fun _ _ => rfl, fun _ _ => rfl⟩

theorem State.withSlots_aside (v : Vector Slot 96) : s.Aside u (s.withSlots v) :=
  ⟨⟨rfl, rfl, rfl, rfl, rfl, rfl, rfl, rfl, rfl, rfl⟩, rfl, rfl, rfl, rfl, rfl, rfl, fun _ _ => rfl, fun _ _ => rfl⟩

theorem State.mapSlots_aside (c : SlotNo → Bool) (f : Slot → Slot) : s.Aside u (s.mapSlots c f) := s.withSlots_aside u _

theorem State.units_modifyStatus (f : UnitStatus → UnitStatus) (v : UnitNo) : (s.modifyStatus u f).units[v]
    = if v = u then { s.units[u] with status := f s.units[u].status } else s.units[v] := getElem_set_eq _ u v _

theorem State.modifyStatus_aside (f : UnitStatus → UnitStatus) : s.Aside u (s.modifyStatus u f) :=
  ⟨s.modifyStatus_base u f, rfl, rfl, rfl, rfl, rfl, rfl, fun _ _ => rfl,
   fun v hv => (s.units_modifyStatus u f v).trans (if_neg hv)⟩

/-- A wired unit's channel is the one whose unit it is (R1). -/
theorem channelOf_eq_some_iff {u : UnitNo} {c : ChannelNo} : channelOf u = some c ↔ channelUnit c = u := by
  unfold channelOf channelUnit
  split
  · rw [Option.some.injEq, Fin.ext_iff, Fin.ext_iff]
    dsimp only
    omega
  · rw [Fin.ext_iff]
    dsimp only
    exact ⟨fun h => absurd h (by simp), fun h => by omega⟩

@[simp] theorem channelOf_channelUnit (c : ChannelNo) : channelOf (channelUnit c) = some c := channelOf_eq_some_iff.mpr rfl

@[simp] theorem isWired_channelUnit (c : ChannelNo) : isWired (channelUnit c) = true :=
  decide_eq_true (Nat.le_add_right 32 c.val)

theorem channelOf_of_linked {u : UnitNo} (h : isWired u = false) : channelOf u = none :=
  dif_neg (of_decide_eq_false h)

theorem exists_channel_of_wired {u : UnitNo} (h : isWired u = true) : ∃ c : ChannelNo, channelUnit c = u ∧ channelOf u = some c := by
  have h32 : 32 ≤ u.val := of_decide_eq_true h
  have : channelOf u = some ⟨u.val - 32, by omega⟩ := dif_pos h32
  exact ⟨_, channelOf_eq_some_iff.mp this, this⟩

theorem State.onChannelOf_channels (f : Channel → Channel) (c : ChannelNo) : (s.onChannelOf u f).channels[c]
    = if channelUnit c = u then f s.channels[c] else s.channels[c] := by
  unfold State.onChannelOf
  split
  · next d hd =>
    rw [channelOf_eq_some_iff] at hd
    have hcd : channelUnit c = u ↔ c = d := by
      rw [← hd, ← channelOf_eq_some_iff, channelOf_channelUnit, Option.some.injEq, eq_comm]
    simp only [State.modifyChannel_channels, getElem_set_eq, hcd]
    split
    · next h => rw [h]
    · rfl
  · next h =>
    rw [if_neg]
    intro hc
    rw [channelOf_eq_some_iff.mpr hc] at h
    cases h

theorem State.onChannelOf_aside (f : Channel → Channel) : s.Aside u (s.onChannelOf u f) := by
  refine ⟨s.onChannelOf_base u f, ?_, ?_, ?_, ?_, ?_, ?_, fun c hc => ?_, fun v _ => ?_⟩
  iterate 6 unfold State.onChannelOf; split <;> rfl
  · exact (s.onChannelOf_channels u f c).trans (if_neg hc)
  · unfold State.onChannelOf; split <;> rfl

theorem State.joinUrgent_aside : s.Aside u (s.joinUrgent u) := by
  unfold State.joinUrgent; split
  · exact .refl u s
  · exact ⟨⟨rfl, rfl, rfl, rfl, rfl, rfl, rfl, rfl, rfl, rfl⟩, rfl, rfl, rfl, rfl, rfl, rfl, fun _ _ => rfl, fun _ _ => rfl⟩

theorem State.handOver_aside (n : Nat) : s.Aside u (s.handOver u n) := by
  unfold State.handOver; split
  · exact .refl u s
  · exact s.joinUrgent_aside u

theorem State.completeRetirement_aside : s.Aside u (s.completeRetirement u) := by
  unfold State.completeRetirement
  refine State.Aside.trans ?_ (State.raise_aside _ u _)
  refine State.Aside.trans ?_ (State.onChannelOf_aside _ u _)
  exact ⟨⟨rfl, rfl, rfl, rfl, rfl, rfl, rfl, rfl, rfl, rfl⟩, rfl, rfl, rfl, rfl, rfl, rfl, fun _ _ => rfl,
    fun v hv => (getElem_set_eq _ u v _).trans (if_neg hv)⟩

theorem State.retireIfEmpty_aside : s.Aside u (s.retireIfEmpty u) := by
  unfold State.retireIfEmpty; split
  · exact s.completeRetirement_aside u
  · exact .refl u s

theorem State.freeSlot_aside (i : SlotNo) : s.Aside u (s.freeSlot u i) := by
  unfold State.freeSlot
  refine State.Aside.trans ?_ (State.retireIfEmpty_aside _ u)
  exact ⟨⟨rfl, rfl, rfl, rfl, rfl, rfl, rfl, rfl, rfl, rfl⟩, rfl, rfl, rfl, rfl, rfl, rfl, fun _ _ => rfl, fun _ _ => rfl⟩

theorem State.restSlot_aside (i : SlotNo) : s.Aside u (s.restSlot u i) := by
  unfold State.restSlot; split
  · exact s.freeSlot_aside u i
  · exact s.modifySlot_aside u i _

theorem State.stopSlot_aside (i : SlotNo) : s.Aside u (s.stopSlot u i) := by
  unfold State.stopSlot; split
  · exact s.restSlot_aside u i
  · exact s.modifySlot_aside u i _

theorem State.restAll_aside (l : List SlotNo) : s.Aside u (s.restAll u l) :=
  State.Aside.foldl (fun t i => t.restSlot_aside u i) l s

theorem State.settleCompliance_aside : s.Aside u (s.settleCompliance u) := by
  unfold State.settleCompliance; split
  · exact .refl u s
  · exact s.modifyStatus_aside u _

theorem State.descend_aside (n : Nat) : ∀ s : State, s.Aside u (s.descend n u) := by
  induction n with
  | zero => exact fun s => .refl u s
  | succ n ih =>
    intro s
    rcases s.descend_cases u n with h | ⟨i, -, -, -, -, -, -, h⟩ <;> rw [h]
    · exact .refl u s
    · exact (s.stopSlot_aside u i).trans (ih _)

theorem State.topOrder_aside : s.Aside u (s.topOrder u) := State.descend_aside u 4 s

theorem State.enterStop_aside (r : StopReason) (stages : Nat → Bool) : s.Aside u (s.enterStop u r stages) := by
  rw [State.enterStop_eq]
  exact State.Aside.trans (s.mapSlots_aside u _ _) (State.topOrder_aside _ u)

theorem State.takeFree_aside {sl : Slot} {t : State} (h : s.takeFree sl = some t) : s.Aside u t := by
  unfold State.takeFree at h
  split at h
  · cases h
  · cases h
    exact ⟨⟨rfl, rfl, rfl, rfl, rfl, rfl, rfl, rfl, rfl, rfl⟩, rfl, rfl, rfl, rfl, rfl, rfl, fun _ _ => rfl, fun _ _ => rfl⟩

theorem State.trip_aside : s.Aside u (s.trip u) := by
  unfold State.trip
  dsimp only
  refine State.Aside.trans ?_ (State.handOver_aside _ u _)
  refine State.Aside.trans ?_ (State.topOrder_aside _ u)
  refine State.Aside.trans ?_ (State.settleCompliance_aside _ u)
  refine State.Aside.trans ?_ (State.restAll_aside _ u _)
  exact State.Aside.foldl (fun t i => t.modifySlot_aside u i _) _ s

theorem State.complete_aside (r : Nat) : s.Aside u (s.complete u r) :=
  (s.restAll_aside u _).trans (State.settleCompliance_aside _ u)

theorem State.adopt_aside (l : List Nat) : ∀ s : State, s.Aside u (s.adopt u l) := by
  induction l with
  | nil => exact fun s => .refl u s
  | cons k l ih =>
    intro s
    unfold State.adopt
    split
    · exact (s.modifySlot_aside u _ _).trans (ih _)
    · dsimp only
      split
      · next t h => exact (s.takeFree_aside u h).trans (ih t)
      · exact s.raise_aside u _

theorem State.recordUnpermitted_aside (k : Nat) : s.Aside u (s.recordUnpermitted u k).1 := by
  unfold State.recordUnpermitted
  extract_lets stop
  split
  · split
    · exact State.modifySlot_aside s u _ stop
    · exact .refl u s
  · split
    · next t h => exact s.takeFree_aside u h
    · exact .refl u s

theorem State.recordAllUnpermitted_aside (l : List Nat) : ∀ s : State, s.Aside u (s.recordAllUnpermitted u l).1 := by
  induction l with
  | nil => exact fun s => .refl u s
  | cons k l ih => exact fun s => (s.recordUnpermitted_aside u k).trans (ih _)

theorem State.unpermitted_aside (l : List Nat) : s.Aside u (s.unpermitted u l) :=
  ((s.recordAllUnpermitted_aside u l).trans (State.raiseIf_aside _ u _ _)).trans (State.raise_aside _ u _)

/-- What stops the stages that a LOCKED or RETIRING unit adopts (R44). -/
def State.stopAdopted (u : UnitNo) (l : Nat) (s : State) : State :=
  match (s.status u).state.stopReason with
  | some reason => s.enterStop u reason fun k => decide (l ≤ k)
  | none => s

theorem State.adoptStages_eq (l r : Nat) : s.adoptStages u l r =
    let t := (s.adopt u ((List.range r).drop l)).settleCompliance u
    if t.level u = l then t.stopAdopted u l else (t.stopAdopted u l).joinUrgent u := rfl

theorem State.stopAdopted_aside (l : Nat) : s.Aside u (s.stopAdopted u l) := by
  unfold State.stopAdopted; split
  · exact s.enterStop_aside u _ _
  · exact .refl u s

theorem State.adoptStages_aside (l r : Nat) : s.Aside u (s.adoptStages u l r) := by
  rw [State.adoptStages_eq]
  have h := ((s.adopt_aside u ((List.range r).drop l)).trans (State.settleCompliance_aside _ u)).trans
    (State.stopAdopted_aside _ u l)
  dsimp only
  split
  · exact h
  · exact h.trans (State.joinUrgent_aside _ u)

/-- What a report's running stages above the commanded level come to (R42, R45). -/
def State.findRunning (u : UnitNo) (r : Nat) (s : State) : State :=
  if s.level u < r then
    (if (s.status u).window = .opened then s.adoptStages u (s.level u) r
     else s.unpermitted u ((List.range r).drop (s.level u)))
  else s

theorem State.applyRunning_eq : s.applyRunning u =
    let t := s.complete u (s.runningLevel u)
    if t.configured u then (t.findRunning u (s.runningLevel u)).closeWindow u else t := rfl

theorem State.findRunning_aside (r : Nat) : s.Aside u (s.findRunning u r) := by
  unfold State.findRunning
  split
  · split
    · exact s.adoptStages_aside u _ _
    · exact s.unpermitted_aside u _
  · exact .refl u s

theorem State.applyRunning_aside : s.Aside u (s.applyRunning u) := by
  rw [State.applyRunning_eq]
  have h := s.complete_aside u (s.runningLevel u)
  dsimp only
  split
  · exact (h.trans (State.findRunning_aside _ u _)).trans (State.modifyStatus_aside _ u _)
  · exact h

theorem State.releaseFrom_aside (d : Nat) : s.Aside u (s.releaseFrom u d) := by
  unfold State.releaseFrom
  dsimp only
  split
  · exact (s.enterStop_aside u _ _).trans (State.handOver_aside _ u _)
  · exact .refl u s

theorem State.restoreBelow_aside (d : Nat) : s.Aside u (s.restoreBelow u d) := by
  rw [State.restoreBelow_eq]
  exact s.mapSlots_aside u _ _

theorem State.applyDesired_aside : s.Aside u (s.applyDesired u) := by
  unfold State.applyDesired
  split
  · exact (s.restoreBelow_aside u _).trans (State.releaseFrom_aside _ u _)
  · exact .refl u s

/-- A request event before its desire step (R9). -/
def State.requested (u : UnitNo) (desired running : Nat) (c : Condition) (s : State) : State :=
  let s1 := s.recordRequest u desired running c
  let s2 := if c = .tripped then s1.trip u else s1
  let s3 := if s2.configured u then s2.applyRunning u else s2
  s3.applyDesired u

theorem State.requestEvent_eq (d r : Nat) (c : Condition) :
    s.requestEvent u d r c = (s.requested u d r c).desireStep u := rfl

theorem State.requested_aside (d r : Nat) (c : Condition) : s.Aside u (s.requested u d r c) := by
  unfold State.requested
  extract_lets s1 s2 s3
  have h1 : s.Aside u s1 := s.modifyStatus_aside u _
  have h2 : s.Aside u s2 := by
    dsimp only [s2]; split
    · exact h1.trans (s1.trip_aside u)
    · exact h1
  have h3 : s.Aside u s3 := by
    dsimp only [s3]; split
    · exact h2.trans (s2.applyRunning_aside u)
    · exact h2
  exact h3.trans (s3.applyDesired_aside u)

theorem State.hear_aside : s.Aside u (s.hear u) := by
  unfold State.hear
  dsimp only
  split
  · exact ((s.modifyStatus_aside u _).trans (State.modifyStatus_aside _ u _)).trans (State.raise_aside _ u _)
  · exact s.modifyStatus_aside u _

theorem State.replaceDraining_aside (r : StopReason) : s.Aside u (s.replaceDraining u r) := by
  rw [State.replaceDraining_eq]
  exact s.mapSlots_aside u _ _

theorem State.spareClassZero_aside : s.Aside u (s.spareClassZero u) := by
  rw [State.spareClassZero_eq]
  exact s.mapSlots_aside u _ _

/-- LOCK and RETIRE UNIT before their desire step (R15, R17). -/
def State.woundDown (u : UnitNo) (st : UnitState) (r : StopReason) (s : State) : State :=
  (((s.modifyStatus u fun x => { x with state := st }).replaceDraining u r).enterStop u r fun _ => true).handOver u (s.level u)

theorem State.windDown_eq (st : UnitState) (r : StopReason) : s.windDown u st r = (s.woundDown u st r).desireStep u := rfl

theorem State.woundDown_aside (st : UnitState) (r : StopReason) : s.Aside u (s.woundDown u st r) :=
  (((s.modifyStatus_aside u _).trans (State.replaceDraining_aside _ u _)).trans (State.enterStop_aside _ u _ _)).trans
    (State.handOver_aside _ u _)

theorem State.forceRelease_aside : s.Aside u (s.forceRelease u) := by
  unfold State.forceRelease
  dsimp only
  refine State.Aside.trans ?_ (State.settleCompliance_aside _ u)
  refine (s.restAll_aside u _).trans (State.Aside.foldl (fun t i => ?_) _ _)
  exact (t.modifySlot_aside u i _).trans (State.stopSlot_aside _ u _)

end

end Sys2Proof.Machine


/-! The admission pass: its checks in order, what it leaves where it grants nothing, and what a grant makes (R90 to R102). -/

namespace Sys2Proof.Machine

/-! ### The checks in order (R91 to R98) -/

theorem State.slotAt_eq_find (s : State) (u : UnitNo) (k : Nat) : s.slotAt u k = (List.finRange 96).find? fun i : SlotNo =>
    s.slots[i].permit.any fun p => decide (p.unit = u) && decide (p.stage = k) :=
  congrArg (List.find? · allSlots) (funext fun i => s.holds_eq_any u _ i)

theorem channelOf_any (u : UnitNo) (f : ChannelNo → Bool) :
    (channelOf u).any f = (List.finRange 4).any fun c => decide (channelUnit c = u) && f c := by
  rw [Bool.eq_iff_iff, Option.any_eq_true, List.any_eq_true]
  constructor
  · rintro ⟨c, hc, hf⟩
    exact ⟨c, List.mem_finRange c, by rw [decide_eq_true (channelOf_eq_some_iff.mp hc), hf]; rfl⟩
  · rintro ⟨c, -, h⟩
    obtain ⟨hc, hf⟩ := Bool.and_eq_true_iff.mp h
    exact ⟨c, channelOf_eq_some_iff.mpr (of_decide_eq_true hc), hf⟩

/-- The CYCLE check over the fields of the channel's unit (R94, R166). -/
theorem State.cycleHolds_eq (s : State) (c : ChannelNo) : s.cycleHolds c = (s.wiredFields c).any fun w =>
    (decide (w.cyclingMode = .always) || decide (s.shed.demand = .overload) || s.shed.threshold.isSome)
      && decide (0 < w.onLimit) && decide (w.onLimit < w.cyclePeriod) && s.channels[c].grantRecorded
      && decide (s.channels[c].cycleCounter < w.cyclePeriod * 60) := by
  unfold State.cycleHolds State.cyclingApplies
  cases s.wiredFields c with
  | none => simp only [Bool.false_and, Option.any_none]
  | some w => simp only [Option.any_some]

/-- The demand test fails with BUDGET in FALLBACK and with DEMAND in the other regimes (R83). -/
theorem State.demandObstacle_eq (s : State) (extra : Nat) : s.demandObstacle extra =
    if decide (s.regime = .fallback) && decide (s.site.budget < s.committed + extra) then some .budget
    else if decide (s.regime ≠ .fallback) && decide (s.demandObstacle extra ≠ none) then some .demand else none := by
  cases hr : s.regime with
  | fallback =>
    by_cases h : s.committed + extra ≤ s.site.budget
    · simp [State.demandObstacle, hr, h]
    · simp [State.demandObstacle, hr, h, Nat.not_le.mp h]
  | warming => by_cases h : s.steadyTest extra <;> simp [State.demandObstacle, hr, h]
  | full => by_cases h : (s.windowTest extra && s.steadyTest extra) <;> simp [State.demandObstacle, hr, h]

/-- The first of a list of checks that holds, one branch for each. -/
theorem firstCheck_cons {α : Type} (b : Bool) (x : α) (l : List (Bool × α)) :
    (((b, x) :: l).find? fun c => c.1).map (fun c => c.2) = if b then some x else (l.find? fun c => c.1).map fun c => c.2 := by
  cases b <;> rfl

/-- Settles O37: each check of the list is one branch of the obstacle's test, in the same order. -/
theorem checksAreMadeInOrder : Obligations.ChecksAreMadeInOrder := by
  intro s e
  have hrest : s.restingAt e.unit (s.level e.unit) = ((List.finRange 96).find? fun i : SlotNo =>
      s.slots[i].permit.any fun p => decide (p.unit = e.unit) && decide (p.stage = s.level e.unit)).map
        fun i => s.slots[i].remaining := by rw [State.restingAt, State.slotAt_eq_find]
  have hcycle : ((List.finRange 4).any fun c : ChannelNo => decide (channelUnit c = e.unit)
      && (s.wiredFields c).any fun w =>
        (decide (w.cyclingMode = .always) || decide (s.shed.demand = .overload) || s.shed.threshold.isSome)
          && decide (0 < w.onLimit) && decide (w.onLimit < w.cyclePeriod) && s.channels[c].grantRecorded
          && decide (s.channels[c].cycleCounter < w.cyclePeriod * 60)) = (channelOf e.unit).any s.cycleHolds := by
    rw [channelOf_any]
    simp only [State.cycleHolds_eq]
  intro stage rating at_
  rw [hcycle]
  simp only [firstCheck_cons, List.find?_nil, Option.map_none]
  unfold State.obstacle State.holdRunning
  rw [hrest]
  refine ite_congr rfl (fun _ => rfl) fun _ => ite_congr rfl (fun _ => rfl) fun _ => ite_congr rfl (fun _ => rfl) fun _ => ?_
  change (match at_.map fun i => s.slots[i].remaining with
    | some left => some (WaitReason.resting, left)
    | none => _) = _
  cases at_ with
  | some i => rfl
  | none =>
    refine Eq.trans (ite_congr rfl (fun _ => rfl) fun _ => ?_) (if_neg Bool.false_ne_true).symm
    have hdemand := s.demandObstacle_eq rating
    split_ifs at hdemand with hbudget hother
    · rw [if_pos hbudget, hdemand]
    · rw [if_neg hbudget, if_pos hother, hdemand]
    · rw [if_neg hbudget, if_neg hother, hdemand]
      by_cases hg : s.startGate = .opened <;> simp [hg]

/-! ### The walk of a pass (R90, R91, R101, R102) -/

section

variable (s : State)

/-- An entry as the walk writes it where a check holds for it. -/
def State.blocked (s : State) (f : QueueEntry) : QueueEntry :=
  match s.obstacle f with
  | some o => { f with reason := o.1, remaining := o.2 }
  | none => f

/-- A check reads the unit of an entry alone. -/
theorem State.obstacle_congr {e f : QueueEntry} (h : f.unit = e.unit) : s.obstacle f = s.obstacle e := by
  unfold State.obstacle; rw [h]

/-- A state with another queue. -/
def State.withQueue (s : State) (q : List QueueEntry) : State := { s with queue := q }

theorem State.obstacle_withQueue (q : List QueueEntry) (e : QueueEntry) : (s.withQueue q).obstacle e = s.obstacle e := rfl

theorem State.blocked_withQueue (q : List QueueEntry) : (s.withQueue q).blocked = s.blocked := rfl

theorem State.withQueue_withQueue (q r : List QueueEntry) : (s.withQueue q).withQueue r = s.withQueue r := rfl

theorem State.blocked_sameBut (f : QueueEntry) : f.sameBut (s.blocked f) := by
  unfold State.blocked
  split <;> exact ⟨rfl, rfl, rfl, rfl⟩

theorem State.obstacle_blocked (f : QueueEntry) : s.obstacle (s.blocked f) = s.obstacle f :=
  s.obstacle_congr (s.blocked_sameBut f).1

theorem State.blocked_of_obstacle {f : QueueEntry} {o : WaitReason × Nat} (h : s.obstacle f = some o) :
    s.blocked f = { f with reason := o.1, remaining := o.2 } := by
  unfold State.blocked; rw [h]

theorem State.blocked_blocked (f : QueueEntry) : s.blocked (s.blocked f) = s.blocked f := by
  cases h : s.obstacle f with
  | none =>
    have : s.blocked f = f := by unfold State.blocked; rw [h]
    rw [this, this]
  | some o => rw [s.blocked_of_obstacle ((s.obstacle_blocked f).trans h), s.blocked_of_obstacle h]

/-- An entry that the walk passes by: a check holds for it, and it is no barrier. -/
def State.passesBy (s : State) (f : QueueEntry) : Prop := s.obstacle f ≠ none ∧ f.skips < s.site.skipLimit

theorem State.passesBy_blocked {f : QueueEntry} (h : s.passesBy f) : s.passesBy (s.blocked f) :=
  ⟨(s.obstacle_blocked f).symm ▸ h.1, (s.blocked_sameBut f).2.2.2.symm ▸ h.2⟩

theorem State.walk_cons_passedBy {f : QueueEntry} (h : s.passesBy f) (rest : List QueueEntry) :
    s.walk (f :: rest) = { s.walk rest with front := s.blocked f :: (s.walk rest).front } := by
  obtain ⟨o, ho⟩ := Option.ne_none_iff_exists'.mp h.1
  have hb : s.isBarrier f = false := decide_eq_false (Nat.not_le.mpr h.2)
  rw [State.walk, ho, s.blocked_of_obstacle ho]
  simp only [hb, Bool.false_eq_true, if_false]

theorem State.walk_cons_barrier {f : QueueEntry} (h : s.obstacle f ≠ none) (hb : s.site.skipLimit ≤ f.skips)
    (rest : List QueueEntry) : s.walk (f :: rest) =
      { front := [s.blocked f], granted := none, behind := rest.map (QueueEntry.untested .barrier) } := by
  obtain ⟨o, ho⟩ := Option.ne_none_iff_exists'.mp h
  have hb : s.isBarrier f = true := decide_eq_true hb
  rw [State.walk, ho, s.blocked_of_obstacle ho]
  simp only [hb, if_true]

theorem State.walk_cons_granted {f : QueueEntry} (h : s.obstacle f = none) (rest : List QueueEntry) : s.walk (f :: rest) =
    { front := [], granted := some f, behind := rest.map (QueueEntry.untested .gate) } := by
  rw [State.walk, h]

/-- The walk goes on behind the entries that it passes by. -/
theorem State.walk_append {front : List QueueEntry} (h : ∀ f ∈ front, s.passesBy f) (rest : List QueueEntry) :
    s.walk (front ++ rest) = { s.walk rest with front := front.map s.blocked ++ (s.walk rest).front } := by
  induction front with
  | nil => rfl
  | cons f front ih =>
    rw [List.cons_append, s.walk_cons_passedBy (h f List.mem_cons_self), ih fun g hg => h g (List.mem_cons_of_mem f hg)]
    rfl

/-- A pass that passes every entry by (R91). -/
theorem State.admissionPass_of_passesBy (h : ∀ f ∈ s.queue, s.passesBy f) :
    s.admissionPass = s.withQueue (s.queue.map s.blocked) := by
  have hw : s.walk s.queue = { front := s.queue.map s.blocked, granted := none, behind := [] } := by
    have := s.walk_append h []
    rw [List.append_nil] at this
    rw [this, State.walk, List.append_nil]
  unfold State.admissionPass
  rw [hw]
  dsimp only
  rw [List.append_nil]
  rfl

/-- A pass that ends at a barrier which is not granted (R102). -/
theorem State.admissionPass_of_barrier {front behind : List QueueEntry} {e : QueueEntry}
    (hq : s.queue = front ++ e :: behind) (h : ∀ f ∈ front, s.passesBy f) (he : s.obstacle e ≠ none)
    (hb : s.site.skipLimit ≤ e.skips) : s.admissionPass =
      s.withQueue (front.map s.blocked ++ s.blocked e :: behind.map (QueueEntry.untested .barrier)) := by
  have hw : s.walk s.queue = ⟨front.map s.blocked ++ [s.blocked e], none,
      behind.map (QueueEntry.untested .barrier)⟩ := by
    rw [hq, s.walk_append h, s.walk_cons_barrier he hb]
  unfold State.admissionPass
  rw [hw]
  dsimp only
  rw [List.append_assoc]
  rfl

/-- A pass that grants an entry (R99, R101). -/
theorem State.admissionPass_of_grant {front behind : List QueueEntry} {e : QueueEntry}
    (hq : s.queue = front ++ e :: behind) (h : ∀ f ∈ front, s.passesBy f) (he : s.obstacle e = none) :
    s.admissionPass = { s.createGrant e.unit with
      queue := (front.map s.blocked).map QueueEntry.passedOver ++ (s.createGrant e.unit).grantedEntry e
        ++ behind.map (QueueEntry.untested .gate) } := by
  have hw : s.walk s.queue = ⟨front.map s.blocked, some e,
      behind.map (QueueEntry.untested .gate)⟩ := by
    rw [hq, s.walk_append h, s.walk_cons_granted he, List.append_nil]
  unfold State.admissionPass
  rw [hw]

end

/-- Settles O38: the walk passes by every entry, or ends at the barrier; what it writes it writes again. -/
theorem passWithoutAGrantRewritesReasons : Obligations.PassWithoutAGrantRewritesReasons := by
  intro s
  refine ⟨fun h => ?_, fun front behind e hq hfront he hb => ?_⟩
  · have hpass := s.admissionPass_of_passesBy h
    refine ⟨hpass, ?_⟩
    rw [hpass, (s.withQueue _).admissionPass_of_passesBy fun f hf => ?_, State.withQueue_withQueue, State.blocked_withQueue]
    · refine congrArg s.withQueue ?_
      rw [State.withQueue, List.map_map]
      simp only [Function.comp_def, State.blocked_blocked]
    · obtain ⟨g, hg, rfl⟩ := List.mem_map.mp hf
      exact s.passesBy_blocked (h g hg)
  · have hpass := s.admissionPass_of_barrier hq hfront he hb
    refine ⟨hpass, ?_⟩
    have hagain := (s.withQueue (front.map s.blocked ++ s.blocked e :: behind.map (QueueEntry.untested .barrier)))
      |>.admissionPass_of_barrier (e := s.blocked e) rfl
        (fun f hf => by
          obtain ⟨g, hg, rfl⟩ := List.mem_map.mp hf
          exact s.passesBy_blocked (hfront g hg))
        (by rw [State.obstacle_withQueue, s.obstacle_blocked]; exact he)
        (by rw [(s.blocked_sameBut e).2.2.2]; exact hb)
    rw [hpass, hagain, State.withQueue_withQueue, State.blocked_withQueue]
    refine congrArg s.withQueue ?_
    rw [List.map_map, List.map_map, s.blocked_blocked]
    exact congrArg₂ _ (List.map_congr_left fun f _ => s.blocked_blocked f) rfl

/-! ### The grant (R99) -/

section

variable (s : State) (u : UnitNo)

theorem State.joinUrgent_eq (h : s.configured u = true) : s.joinUrgent u = { s with
    link := if isWired u = true ∨ u ∈ s.link.urgent then s.link else { s.link with urgent := s.link.urgent ++ [u] } } := by
  unfold State.joinUrgent
  by_cases hw : isWired u = true
  · simp [hw]
  · by_cases hm : u ∈ s.link.urgent <;> simp [hw, hm, h]

theorem State.onChannelOf_eq (f : Channel → Channel) : s.onChannelOf u f = { s with
    channels := match channelOf u with
      | some c => s.channels.set c (f s.channels[c])
      | none => s.channels } := by
  unfold State.onChannelOf
  cases channelOf u <;> rfl

/-- A STARTING permit's slot at its grant, with a settle time that is not 0 (R25). -/
theorem Slot.granted_eq {k rating settle minRun rot : Nat} (h : settle ≠ 0) : Slot.granted u k rating settle minRun rot = {
    permit := some { unit := u, stage := k, rating := rating, state := .starting, origin := .granted, minRunMet := false
                     rotationDue := false, reason := none }
    counter := 0, aValue := settle, aArmed := true, pValue := 0, pArmed := false } := by
  unfold Slot.granted
  rw [if_neg h]
  simp [Slot.loadA, Slot.newPermit, Slot.free, Nat.pos_of_ne_zero h]

/-- A granted permit is commanded on, at its stage, whatever the settle time. -/
theorem Slot.granted_permit (k rating settle minRun rot : Nat) : ∃ p, (Slot.granted u k rating settle minRun rot).permit = some p
    ∧ p.unit = u ∧ p.stage = k ∧ p.rating = rating ∧ p.state.commandedOn = true := by
  unfold Slot.granted
  dsimp only
  split
  · exact ⟨_, rfl, rfl, rfl, rfl, rfl⟩
  · exact ⟨_, rfl, rfl, rfl, rfl, rfl⟩

/-- A grant's permit in the head slot of the free list, with the gate closed behind it (R99). -/
def State.placeGrant (u : UnitNo) (i : SlotNo) (rest : List SlotNo) (s : State) : State :=
  { s with
    startGate := .counting (s.site.startSpacing + 1)
    freeList := rest
    slots := s.slots.set i (Slot.granted u (s.level u) ((s.rating u (s.level u)).getD 0) s.site.settleTime (s.minRun u)
      (s.rotation u)) }

theorem State.createGrant_nil (h : s.freeList = []) : s.createGrant u = s := by
  unfold State.createGrant State.takeFree
  rw [h]

theorem State.createGrant_cons {i : SlotNo} {rest : List SlotNo} (h : s.freeList = i :: rest) :
    s.createGrant u = ((s.placeGrant u i rest).joinUrgent u).onChannelOf u Channel.recordGrant := by
  unfold State.createGrant State.takeFree
  rw [h]
  rfl

/-- A grant raises the unit's commanded level by 1 (R24, R99). -/
theorem State.createGrant_level {i : SlotNo} {rest : List SlotNo} (h : s.freeList = i :: rest)
    (hi : s.slots[i].permit = none) : (s.createGrant u).level u = s.level u + 1 := by
  have hslots := (s.createGrant_slots u h).1
  obtain ⟨p, hp, hu, -, -, hon⟩ := Slot.granted_permit u (s.level u) ((s.rating u (s.level u)).getD 0) s.site.settleTime
    (s.minRun u) (s.rotation u)
  refine State.level_of_on u (i := i) (fun j hj => ?_) ?_ ?_
  · rw [hslots, getElem_set_eq, if_neg hj]
  · rw [State.holds_eq_any, hi]; rfl
  · refine (State.holds_iff _ u _ i).mpr ⟨p, ?_, hu, hon⟩
    rw [hslots, getElem_set_eq, if_pos rfl]
    exact hp

/-- The grant of a configured unit's next stage, with a settle time that is not 0 (R99). -/
theorem State.createGrant_eq {i : SlotNo} {rest : List SlotNo} (h : s.freeList = i :: rest)
    (hsettle : s.site.settleTime ≠ 0) (hc : s.configured u = true) : s.createGrant u = { s with
      startGate := .counting (s.site.startSpacing + 1)
      freeList := rest
      slots := s.slots.set i {
        permit := some { unit := u, stage := s.level u, rating := (s.rating u (s.level u)).getD 0, state := .starting
                         origin := .granted, minRunMet := false, rotationDue := false, reason := none }
        counter := 0, aValue := s.site.settleTime, aArmed := true, pValue := 0, pArmed := false }
      link := if isWired u = true ∨ u ∈ s.link.urgent then s.link else { s.link with urgent := s.link.urgent ++ [u] }
      channels := match channelOf u with
        | some c => s.channels.set c s.channels[c].recordGrant
        | none => s.channels } := by
  rw [s.createGrant_cons u h, State.joinUrgent_eq (s.placeGrant u i rest) u hc, State.onChannelOf_eq]
  dsimp only [State.placeGrant]
  rw [Slot.granted_eq u hsettle] <;> rfl

end

/-- Settles O39: the walk passes by the entries in front, and the first that meets no check is granted. -/
theorem passGrantsTheFirstEntryThatMeetsNoCheck : Obligations.PassGrantsTheFirstEntryThatMeetsNoCheck := by
  intro s c hold due front behind e i rest o hr hc hq hfront he hfree hi hsettle hconf
  have hexec : exec c s = .next (State.admissionPass { o with openingDue := due }) := by
    rcases hc with ⟨rfl, hdue, hgate, rfl, rfl⟩ | ⟨rfl, hhold, rfl, rfl⟩
    · refine congrArg Host.Outcome.next ((State.live_of_running hr _).trans ?_)
      rw [State.openStartGate, if_pos hdue]
      exact congrArg State.admissionPass (show _ = ({ s with startGate := .opened, openingDue := false } : State) by
        rw [← hgate])
    · refine congrArg Host.Outcome.next ((State.live_of_running hr _).trans ?_)
      rw [State.endHold, if_pos hhold]
  let t : State := { o with openingDue := due }
  have hpass : t.admissionPass = _ := t.admissionPass_of_grant hq hfront he
  have hlevel := t.createGrant_level e.unit hfree hi
  have hwritten : front.map (QueueEntry.passedOver ∘ t.blocked) = front.map fun f =>
      match o.obstacle f with
      | some (r, left) => { f with
          reason := r
          remaining := left
          skips := if r = .budget ∨ r = .demand then min 15 (f.skips + 1) else f.skips }
      | none => f := by
    refine List.map_congr_left fun f hf => ?_
    obtain ⟨⟨r, left⟩, ho⟩ := Option.ne_none_iff_exists'.mp (hfront f hf).1
    rw [Function.comp_apply, t.blocked_of_obstacle (o := (r, left)) ho, ho, QueueEntry.passedOver]
    by_cases hrd : r = .budget ∨ r = .demand
    · rcases hrd with rfl | rfl <;> rfl
    · simp only [hrd, if_false]
      rw [not_or] at hrd
      simp only [hrd.1, hrd.2, decide_false, Bool.or_false, Bool.false_eq_true, if_false]
  have hentry : (t.createGrant e.unit).grantedEntry e =
      if s.level e.unit + 1 = e.wanted then [] else [{ e with skips := 0, reason := .gate, remaining := 0 }] := by
    unfold State.grantedEntry
    rw [hlevel]
    rfl
  rw [hexec, hpass, hentry, t.createGrant_eq e.unit hfree hsettle hconf, List.map_map, hwritten]
  rfl

end Sys2Proof.Machine


/-! The Wait Queue (R109 to R116): what the desire step leaves, its cases, and the commands that come to it alone. -/

namespace Sys2Proof.Machine

section

variable (s : State) (u : UnitNo)

/-! ### What a pass and the desire step leave -/

/-- Two states that differ in what a pass of the queue changes: slots, free list, start gate, queue, urgent list, channels
and the notice QUEUE FULL. -/
structure State.Passed (s t : State) : Prop where
  base : s.SameBase t
  units : t.units = s.units
  openingDue : t.openingDue = s.openingDue
  shedGate : t.shedGate = s.shedGate
  shed : t.shed = s.shed
  link : { t.link with urgent := s.link.urgent } = s.link

theorem State.Passed.refl (s : State) : s.Passed s := ⟨.refl s, rfl, rfl, rfl, rfl, rfl⟩

theorem State.Passed.trans {s t r : State} (h : s.Passed t) (k : t.Passed r) : s.Passed r where
  base := h.base.trans k.base
  units := k.units.trans h.units
  openingDue := k.openingDue.trans h.openingDue
  shedGate := k.shedGate.trans h.shedGate
  shed := k.shed.trans h.shed
  link := by rw [← h.link, ← k.link]

theorem State.withQueue_passed (q : List QueueEntry) : s.Passed (s.withQueue q) :=
  ⟨s.withQueue_base q, rfl, rfl, rfl, rfl, rfl⟩

theorem State.raise_passed (n : Notice) : s.Passed (s.raise n) := ⟨s.raise_base n, rfl, rfl, rfl, rfl, rfl⟩

theorem State.joinUrgent_passed : s.Passed (s.joinUrgent u) := by
  unfold State.joinUrgent
  split
  · exact .refl s
  · exact ⟨⟨rfl, rfl, rfl, rfl, rfl, rfl, rfl, rfl, rfl, rfl⟩, rfl, rfl, rfl, rfl, rfl⟩

theorem State.onChannelOf_passed (f : Channel → Channel) : s.Passed (s.onChannelOf u f) := by
  unfold State.onChannelOf
  split
  · exact ⟨s.modifyChannel_base _ f, rfl, rfl, rfl, rfl, rfl⟩
  · exact .refl s

theorem State.createGrant_passed : s.Passed (s.createGrant u) := by
  cases h : s.freeList with
  | nil => rw [s.createGrant_nil u h]; exact .refl s
  | cons i rest =>
    rw [s.createGrant_cons u h]
    have hplaced : s.Passed (s.placeGrant u i rest) :=
      ⟨⟨rfl, rfl, rfl, rfl, rfl, rfl, rfl, rfl, rfl, rfl⟩, rfl, rfl, rfl, rfl, rfl⟩
    exact (hplaced.trans (State.joinUrgent_passed _ u)).trans (State.onChannelOf_passed _ u _)

theorem State.admissionPass_passed : s.Passed s.admissionPass := by
  unfold State.admissionPass
  dsimp only
  split
  · exact s.withQueue_passed _
  · exact (s.createGrant_passed _).trans (State.withQueue_passed _ _)

theorem State.enqueue_eq (d : Nat) :
    s.enqueue u d = (s.withQueue (insertByClass (.new u d (s.cls u)) s.queue)).admissionPass := rfl

theorem State.rewant_eq (d : Nat) : s.rewant u d =
    (s.withQueue (s.queue.map fun e => if e.unit = u then { e with wanted := d } else e)).admissionPass := rfl

theorem State.dequeue_eq : s.dequeue u = s.withQueue (s.queue.filter fun e => decide (e.unit ≠ u)) := rfl

/-- The full-queue rule, by the last entry (R116). -/
theorem State.enqueueFull_eq (d : Nat) : s.enqueueFull u d =
    if s.queue.getLast?.any fun l => decide (s.cls u < l.cls) then
      ((s.raise .queueFull).withQueue (insertByClass (.new u d (s.cls u)) s.queue.dropLast)).admissionPass
    else s.raise .queueFull := by
  unfold State.enqueueFull
  dsimp only [State.raise_queue]
  cases s.queue.getLast? with
  | none => rfl
  | some l =>
    rw [Option.any_some]
    by_cases h : s.cls u < l.cls
    · exact (if_pos h).trans (if_pos (decide_eq_true h)).symm
    · exact (if_neg h).trans (if_neg (by simpa using h)).symm

theorem State.desireStep_passed : s.Passed (s.desireStep u) := by
  unfold State.desireStep
  dsimp only
  split
  · split
    · split
      · exact .refl s
      · exact (s.withQueue_passed _).trans (State.admissionPass_passed _)
    · split
      · exact (s.withQueue_passed _).trans (State.admissionPass_passed _)
      · rw [State.enqueueFull_eq]
        split
        · exact ((s.raise_passed _).trans (State.withQueue_passed _ _)).trans (State.admissionPass_passed _)
        · exact s.raise_passed _
  · exact s.withQueue_passed _

/-- Whether the desire step asks for the queue (R12). -/
def State.wants (s : State) (u : UnitNo) : Bool := s.eligible u && decide (s.level u < s.effectiveDesired u)

theorem State.desireStep_of_not_wants (h : s.wants u = false) : s.desireStep u = s.dequeue u :=
  if_neg (Bool.eq_false_iff.mp h)

theorem State.desireStep_of_entry (h : s.wants u = true) {e : QueueEntry} (he : s.entryOf u = some e) : s.desireStep u =
    if e.wanted = s.effectiveDesired u then s else s.rewant u (s.effectiveDesired u) := by
  refine (if_pos h).trans ?_
  rw [he]

theorem State.desireStep_of_noEntry (h : s.wants u = true) (he : s.entryOf u = none) : s.desireStep u =
    if s.queue.length < Config.queueCapacity then s.enqueue u (s.effectiveDesired u)
    else s.enqueueFull u (s.effectiveDesired u) := by
  refine (if_pos h).trans ?_
  rw [he]

theorem State.entryOf_eq_none_iff : s.entryOf u = none ↔ s.queued u = false := by
  unfold State.entryOf State.queued
  rw [List.find?_eq_none, List.any_eq_false]

/-- A unit that is not ACTIVE, not NORMAL, or linked and SILENT is not eligible (R12). -/
theorem State.eligible_iff : s.eligible u = true ↔ (s.status u).state = .active
    ∧ (isWired u = true ∨ (s.status u).link = .heard) ∧ (s.status u).condition = .normal := by
  simp only [State.eligible, Bool.and_eq_true, Bool.or_eq_true, decide_eq_true_eq, and_assoc]

theorem State.wants_of_not_active (h : (s.status u).state ≠ .active) : s.wants u = false := by
  rw [State.wants, State.eligible, decide_eq_false h]; rfl

/-! ### The port's panel and a pass -/

theorem State.walk_congr {s t : State} (ho : ∀ e, t.obstacle e = s.obstacle e) (hs : t.site = s.site) (q : List QueueEntry) :
    t.walk q = s.walk q := by
  induction q with
  | nil => rfl
  | cons e q ih =>
    by_cases hn : s.obstacle e = none
    · rw [t.walk_cons_granted ((ho e).trans hn), s.walk_cons_granted hn]
    · have hb : t.blocked e = s.blocked e := by unfold State.blocked; rw [ho e]
      rcases Nat.lt_or_ge e.skips s.site.skipLimit with hlt | hge
      · rw [t.walk_cons_passedBy ⟨(ho e).symm ▸ hn, hs.symm ▸ hlt⟩, s.walk_cons_passedBy ⟨hn, hlt⟩, ih, hb]
      · rw [t.walk_cons_barrier ((ho e).symm ▸ hn) (hs.symm ▸ hge), s.walk_cons_barrier hn hge, hb]

/-- A state with another panel port. -/
def State.withPanel (s : State) (p : PanelPort) : State := { s with panel := p }

theorem State.withPanel_joinUrgent (p : PanelPort) : (s.withPanel p).joinUrgent u = (s.joinUrgent u).withPanel p := by
  by_cases h : (isWired u || !s.configured u || s.link.urgent.contains u) = true
  · have h' : (isWired u || !(s.withPanel p).configured u || (s.withPanel p).link.urgent.contains u) = true := h
    rw [State.joinUrgent, State.joinUrgent, if_pos h, if_pos h']
  · have h' : ¬(isWired u || !(s.withPanel p).configured u || (s.withPanel p).link.urgent.contains u) = true := h
    rw [State.joinUrgent, State.joinUrgent, if_neg h, if_neg h']
    rfl

theorem State.withPanel_onChannelOf (p : PanelPort) (f : Channel → Channel) :
    (s.withPanel p).onChannelOf u f = (s.onChannelOf u f).withPanel p := by
  unfold State.onChannelOf
  cases channelOf u <;> rfl

theorem State.withPanel_createGrant (p : PanelPort) : (s.withPanel p).createGrant u = (s.createGrant u).withPanel p := by
  cases h : s.freeList with
  | nil => rw [s.createGrant_nil u h, (s.withPanel p).createGrant_nil u h]
  | cons i rest =>
    rw [s.createGrant_cons u h, (s.withPanel p).createGrant_cons u h]
    exact (congrArg (State.onChannelOf u Channel.recordGrant) ((s.placeGrant u i rest).withPanel_joinUrgent u p)).trans
      (State.withPanel_onChannelOf _ u p _)

/-- A pass neither reads nor writes the panel port. -/
theorem State.withPanel_admissionPass (p : PanelPort) : (s.withPanel p).admissionPass = s.admissionPass.withPanel p := by
  have hw : (s.withPanel p).walk (s.withPanel p).queue = s.walk s.queue :=
    State.walk_congr (s := s) (t := s.withPanel p) (fun _ => rfl) rfl s.queue
  unfold State.admissionPass
  rw [hw]
  dsimp only
  cases (s.walk s.queue).granted with
  | none => rfl
  | some e =>
    dsimp only
    rw [State.withPanel_createGrant]
    rfl

end

/-! ### UNLOCK UNIT (R19) -/

/-- The queue's entries but for what a pass writes into them: reason and remaining seconds. -/
def QueueEntry.key (e : QueueEntry) : UnitNo × Nat × Nat × Nat := (e.unit, e.wanted, e.cls, e.skips)

theorem map_key_of_sameBut {p q : List QueueEntry} (h : List.Forall₂ QueueEntry.sameBut p q) :
    q.map QueueEntry.key = p.map QueueEntry.key := by
  induction h with
  | nil => rfl
  | cons hab _ ih =>
    obtain ⟨h1, h2, h3, h4⟩ := hab
    rw [List.map_cons, List.map_cons, ih, QueueEntry.key, QueueEntry.key, h1, h2, h3, h4]

/-- A pass that grants nothing keeps every entry's unit, wanted level, class copy and skip count (R91). -/
theorem State.admissionPass_keys_of_closed {s : State} (h : s.holdRunning = true ∨ s.startGate ≠ .opened) :
    s.admissionPass = s.withQueue s.admissionPass.queue
      ∧ s.admissionPass.queue.map QueueEntry.key = s.queue.map QueueEntry.key := by
  have hpass := s.admissionPass_closed h
  refine ⟨by rw [hpass]; rfl, ?_⟩
  have hnone : (s.walk s.queue).granted = none := by
    refine Option.eq_none_iff_forall_ne_some.mpr fun e he => ?_
    have hopen := s.obstacle_none (s.walk_granted he).2
    rcases h with h | h
    · rw [hopen.1] at h; cases h
    · exact h hopen.2.1
  have hentries := s.walk_entries s.queue
  rw [Walk.entries, hnone, Option.toList_none, List.append_nil] at hentries
  rw [hpass]
  exact map_key_of_sameBut hentries

/-- The unit as UNLOCK UNIT makes it ACTIVE. -/
def State.unlocked (u : UnitNo) (s : State) : State := s.modifyStatus u fun x => { x with state := .active }

theorem State.unlocked_level (u : UnitNo) (s : State) : (s.unlocked u).level u = s.level u := rfl

theorem State.unlocked_status (u : UnitNo) (s : State) : (s.unlocked u).status u = { s.status u with state := .active } :=
  s.status_modifyStatus_same u _

theorem State.unlocked_cls (u : UnitNo) (s : State) : (s.unlocked u).cls u = s.cls u := by
  rw [State.cls, State.unlocked, s.record_modifyStatus]; rfl

theorem State.unlocked_wants (u : UnitNo) (s : State) : (s.unlocked u).wants u = true ↔
    (isWired u = true ∨ (s.status u).link = .heard)
      ∧ s.level u < if (s.status u).condition = .normal then (s.status u).desired else 0 := by
  rw [State.wants, Bool.and_eq_true, State.eligible_iff, decide_eq_true_iff, State.effectiveDesired, s.unlocked_status,
    s.unlocked_level]
  refine ⟨fun ⟨⟨_, hl, _⟩, hd⟩ => ⟨hl, hd⟩, fun ⟨hl, hd⟩ => ⟨⟨rfl, hl, ?_⟩, hd⟩⟩
  by_contra hn
  rw [if_neg hn] at hd
  exact Nat.not_lt_zero _ hd

/-- A pass leaves the panel port as it was. -/
theorem State.admissionPass_panel (s : State) : s.admissionPass.panel = s.panel := by
  have h := congrArg State.panel (s.withPanel_admissionPass s.panel)
  exact h

/-- A state whose panel holds the bytes of the write, with the response latched. -/
theorem State.withPanel_latch (t : State) (bytes : List Byte) (r : Response) :
    (t.withPanel { t.panel with buffer := bytes }).latch r = t.answered bytes r := rfl

/-- A pass behind a write is answered as the pass is (R171). -/
theorem State.admissionPass_latch (t : State) (bytes : List Byte) (r : Response) :
    (t.withPanel { t.panel with buffer := bytes }).admissionPass.latch r = t.admissionPass.answered bytes r := by
  rw [t.withPanel_admissionPass, ← State.withPanel_latch, t.admissionPass_panel]

/-- UNLOCK UNIT of a LOCKED unit takes the desire step of the unit made ACTIVE (R19). -/
theorem exec_unlockUnit_locked {s : State} {b : Byte} {u : UnitNo} (hb : names b u) (hopen : s.portShut = false)
    (h : (s.status u).state = .locked) : exec (.unlockUnit b) s = .next
      ((((s.unlocked u).withPanel { s.panel with buffer := [0x14#8, b] }).desireStep u).latch (.bare .ok)) := by
  refine congrArg Host.Outcome.next ((State.serve_withUnit hopen (by simp [Config.bufferCapacity]) hb _).trans ?_)
  have : (s.buffered [0x14#8, b]).unlockUnit u = (((s.buffered [0x14#8, b]).unlocked u).desireStep u, .bare .ok) := by
    unfold State.unlockUnit
    rw [State.buffered_status, h]
    rfl
  rw [this]
  rfl

/-- A newcomer among entries that stand by class (R111). -/
def placedEntry (e : QueueEntry) (q : List QueueEntry) : List QueueEntry :=
  q.filter (fun f => decide (f.cls ≤ e.cls)) ++ e :: q.filter fun f => decide (e.cls < f.cls)

/-- The desire step of a newcomer to a queue that stands by class (R112, R116). -/
theorem State.desireStep_of_newcomer {s : State} {u : UnitNo} (hw : s.wants u = true) (hq : s.queued u = false)
    (hsorted : (s.queue.map QueueEntry.cls).Pairwise (· ≤ ·)) : s.desireStep u =
      let e := QueueEntry.new u (s.effectiveDesired u) (s.cls u)
      if s.queue.length < 16 then (s.withQueue (placedEntry e s.queue)).admissionPass
      else if s.queue.getLast?.any fun l => decide (s.cls u < l.cls) then
        ((s.raise .queueFull).withQueue (placedEntry e s.queue.dropLast)).admissionPass
      else s.raise .queueFull := by
  have hdrop : (s.queue.dropLast.map QueueEntry.cls).Pairwise (· ≤ ·) :=
    hsorted.sublist ((List.dropLast_sublist s.queue).map _)
  rw [s.desireStep_of_noEntry u hw ((s.entryOf_eq_none_iff u).mpr hq), State.enqueueFull_eq, State.enqueue_eq,
    insertByClass_eq _ hsorted, insertByClass_eq _ hdrop]
  rfl

/-- Settles O28: the desire step of the unit made ACTIVE, by whether it wants more and whether the queue is full. -/
theorem unlockQueuesAUnitThatWantsMore : Obligations.UnlockQueuesAUnitThatWantsMore := by
  intro s b u hb hopen hlocked d t0 key entry placed answered
  have hexec := exec_unlockUnit_locked hb hopen hlocked
  let s1 := (s.unlocked u).withPanel { s.panel with buffer := [0x14#8, b] }
  have hwants : s1.wants u = true ↔ (isWired u = true ∨ (s.status u).link = .heard) ∧ s.level u < d := s.unlocked_wants u
  have hd : s1.effectiveDesired u = d := by
    show (s.unlocked u).effectiveDesired u = d
    rw [State.effectiveDesired, s.unlocked_status]
  have hcls : s1.cls u = s.cls u := s.unlocked_cls u
  refine ⟨fun h => ?_, fun hlt hlink hq hsorted => ?_⟩
  · have hno : s1.wants u = false := Bool.eq_false_iff.mpr fun hw => by
      obtain ⟨hl, hd⟩ := hwants.mp hw
      rcases h with h | ⟨hw, hs⟩
      · omega
      · rcases hl with hl | hl
        · rw [hw] at hl; cases hl
        · rw [hs] at hl; cases hl
    rw [hexec, s1.desireStep_of_not_wants u hno]
    rfl
  · have hstep : s1.desireStep u = _ := State.desireStep_of_newcomer (hwants.mpr ⟨hlink, hlt⟩) hq hsorted
    rw [hd, hcls] at hstep
    let fits : State := t0.withQueue (placed s.queue)
    let ousts : State := (t0.raise .queueFull).withQueue (placed s.queue.dropLast)
    have hres : exec (.unlockUnit b) s = .next (if s.queue.length < 16 then answered fits.admissionPass
        else if s.queue.getLast?.any fun l => decide (s.cls u < l.cls) then answered ousts.admissionPass
        else answered (t0.raise .queueFull)) := by
      rw [hexec, hstep]
      refine congrArg Host.Outcome.next ?_
      dsimp only
      by_cases hlen : s.queue.length < 16
      · rw [if_pos (show s1.queue.length < 16 from hlen), if_pos hlen]
        exact fits.admissionPass_latch _ _
      · rw [if_neg (show ¬ s1.queue.length < 16 from hlen), if_neg hlen]
        cases hl : s.queue.getLast?.any fun l => decide (s.cls u < l.cls) with
        | true =>
          rw [if_pos (show (s1.queue.getLast?.any fun l => decide (s.cls u < l.cls)) = true from hl), if_pos rfl]
          exact ousts.admissionPass_latch _ _
        | false =>
          have hl' : ¬(s1.queue.getLast?.any fun l => decide (s.cls u < l.cls)) = true := Bool.eq_false_iff.mp hl
          rw [if_neg hl', if_neg Bool.false_ne_true]
          rfl
    have hkeys {q : List QueueEntry} {t : State} (hold : s.hold ≠ .ended) (ht : t.hold = s.hold) :
        ∃ r, (t.withQueue q).admissionPass = t.withQueue r ∧ r.map key = q.map key := by
      have := (t.withQueue q).admissionPass_keys_of_closed (.inl (decide_eq_true (ht.symm ▸ hold)))
      exact ⟨_, this.1, this.2⟩
    refine ⟨fun hlen => ?_, fun l hlen hl => ?_, fun hold => ?_⟩
    · rw [hres, if_pos hlen]
      rfl
    · rw [hres, if_neg (Nat.not_lt.mpr hlen), hl, Option.any_some]
      by_cases hc : s.cls u < l.cls
      · rw [if_pos (decide_eq_true hc), if_pos hc]
        rfl
      · rw [if_neg (by rw [decide_eq_false hc]; decide), if_neg hc]
    · by_cases hlen : s.queue.length < 16
      · obtain ⟨r, hr, hrk⟩ := hkeys (q := placed s.queue) (t := t0) hold rfl
        rw [if_pos hlen] at hres
        refine ⟨_, hres, ?_, rfl, fun _ => ?_, fun h => absurd h (Nat.not_le.mpr hlen)⟩
        · rw [hr]; rfl
        · rw [hr]; exact ⟨hrk, rfl⟩
      · obtain ⟨l, hl⟩ : ∃ l, s.queue.getLast? = some l :=
          Option.isSome_iff_exists.mp (List.getLast?_isSome.mpr (by intro h; rw [h] at hlen; exact hlen (by decide)))
        have hfull : (t0.raise .queueFull).raised .queueFull = true := by
          rw [State.raised_raise, decide_eq_true rfl, Bool.or_true]
        rw [if_neg hlen, hl, Option.any_some] at hres
        by_cases hc : s.cls u < l.cls
        · obtain ⟨r, hr, hrk⟩ := hkeys (q := placed s.queue.dropLast) (t := t0.raise .queueFull) hold rfl
          rw [if_pos (decide_eq_true hc)] at hres
          refine ⟨_, hres, ?_, rfl, fun h => absurd h hlen, fun _ => ⟨?_, fun m hm => ?_⟩⟩
          · rw [hr]; rfl
          · rw [hr]; exact hfull
          · cases hl.symm.trans hm
            rw [hr, if_pos hc]
            exact hrk
        · rw [if_neg (by rw [decide_eq_false hc]; decide)] at hres
          refine ⟨_, hres, rfl, rfl, fun h => absurd h hlen, fun _ => ⟨hfull, fun m hm => ?_⟩⟩
          cases hl.symm.trans hm
          rw [if_neg hc]
          rfl

end Sys2Proof.Machine


/-! Commands and events of one unit: the records of the others (R4 to R19), the retirement of a unit without permits (R17),
the compliance and minimum-off expiries (R33, R35), and shed actions that find no victim (R126). -/

namespace Sys2Proof.Machine

/-! ### The records of the other units -/

/-- Two states with the same records of every unit but one. -/
def State.KeepsOthers (u : UnitNo) (s t : State) : Prop := ∀ v : UnitNo, v ≠ u → t.units[v] = s.units[v]

theorem State.KeepsOthers.refl (u : UnitNo) (s : State) : s.KeepsOthers u s := fun _ _ => rfl

theorem State.KeepsOthers.trans {u : UnitNo} {s t r : State} (h : State.KeepsOthers u s t) (k : State.KeepsOthers u t r) :
    State.KeepsOthers u s r := fun v hv => (k v hv).trans (h v hv)

theorem State.KeepsOthers.of_units {u : UnitNo} {s t : State} (h : t.units = s.units) : State.KeepsOthers u s t :=
  fun v _ => by rw [h]

theorem State.Aside.keepsOthers {u : UnitNo} {s t : State} (h : State.Aside u s t) : State.KeepsOthers u s t := h.units

theorem State.Passed.keepsOthers {u : UnitNo} {s t : State} (h : s.Passed t) : State.KeepsOthers u s t :=
  .of_units h.units

section

variable (s : State) (u : UnitNo)

theorem State.desireStep_keepsOthers : s.KeepsOthers u (s.desireStep u) := (s.desireStep_passed u).keepsOthers

theorem State.requestEvent_keepsOthers (d r : Nat) (c : Condition) : s.KeepsOthers u (s.requestEvent u d r c) :=
  (s.requested_aside u d r c).keepsOthers.trans (State.desireStep_keepsOthers _ u)

theorem State.windDown_keepsOthers (st : UnitState) (r : StopReason) : s.KeepsOthers u (s.windDown u st r) :=
  (s.woundDown_aside u st r).keepsOthers.trans (State.desireStep_keepsOthers _ u)

theorem State.settleLevel_keepsOthers (n : Nat) : s.KeepsOthers u (s.settleLevel u n) := by
  unfold State.settleLevel
  dsimp only
  split
  · exact (s.handOver_aside u n).keepsOthers.trans (State.desireStep_keepsOthers _ u)
  · exact (s.handOver_aside u n).keepsOthers

theorem State.lockUnit_keepsOthers : s.KeepsOthers u (s.lockUnit u).1 := by
  cases hst : (s.status u).state with
  | active => simpa only [State.lockUnit, hst] using s.windDown_keepsOthers u .locked .locked
  | locked => simpa only [State.lockUnit, hst] using State.KeepsOthers.refl u s
  | retiring => simpa only [State.lockUnit, refusedWith, hst] using State.KeepsOthers.refl u s
  | unconfigured => simpa only [State.lockUnit, refusedWith, hst] using State.KeepsOthers.refl u s

theorem State.unlockUnit_keepsOthers : s.KeepsOthers u (s.unlockUnit u).1 := by
  unfold State.unlockUnit
  split
  · exact (s.modifyStatus_aside u _).keepsOthers.trans (State.desireStep_keepsOthers _ u)
  all_goals exact .refl u s

theorem State.retireUnit_keepsOthers : s.KeepsOthers u (s.retireUnit u).1 := by
  have h := (s.windDown_keepsOthers u .retiring .retired).trans (State.retireIfEmpty_aside _ u).keepsOthers
  cases hst : (s.status u).state with
  | active => simpa only [State.retireUnit, hst] using h
  | locked => simpa only [State.retireUnit, hst] using h
  | retiring => simpa only [State.retireUnit, refusedWith, hst] using State.KeepsOthers.refl u s
  | unconfigured => simpa only [State.retireUnit, refusedWith, hst] using State.KeepsOthers.refl u s

theorem State.releaseUnit_keepsOthers : s.KeepsOthers u (s.releaseUnit u).1 := by
  unfold State.releaseUnit
  split
  · exact (s.forceRelease_aside u).keepsOthers.trans (State.settleLevel_keepsOthers _ u _)
  · exact .refl u s

theorem State.nextTransaction_units : s.nextTransaction.units = s.units := by
  unfold State.nextTransaction
  dsimp only
  split <;> rfl

theorem State.wakeLine_units : s.wakeLine.units = s.units := by
  unfold State.wakeLine
  split
  · exact s.nextTransaction_units
  · rfl

theorem State.install_units (r : UnitRecord) :
    (s.install u r).units = s.units.set u { record := some r, status := .fresh } := by
  unfold State.install State.onChannelOf
  split <;> rfl

theorem State.install_keepsOthers (r : UnitRecord) : s.KeepsOthers u (s.install u r) := fun v hv => by
  rw [s.install_units, getElem_set_eq, if_neg hv]

theorem State.configureUnit_keepsOthers (r : UnitRecord) : s.KeepsOthers u (s.configureUnit u r) := by
  have hinstall := s.install_keepsOthers u r
  unfold State.configureUnit
  dsimp only
  split
  · next c hc =>
    have hevent := State.requestEvent_keepsOthers ((s.install u r).modifyChannel c fun ch => { ch with
      calling := (s.install u r).callState c, callDue := false }) (channelUnit c)
      (if (s.install u r).callState c then 1 else 0) ((s.install u r).level (channelUnit c)) .normal
    rw [channelOf_eq_some_iff] at hc
    rw [hc] at hevent
    rw [State.callEvent, hc]
    exact hinstall.trans hevent
  · exact hinstall.trans (.of_units (State.wakeLine_units _))

theorem State.moveByClass_units (c : Nat) : (s.moveByClass u c).units = s.units := by
  unfold State.moveByClass
  split <;> rfl

theorem State.changeRecord_keepsOthers (old new : UnitRecord) : s.KeepsOthers u (s.changeRecord u old new) := by
  have hreplace : s.KeepsOthers u (s.replaceRecord u new) := fun v hv => (getElem_set_eq _ u v _).trans (if_neg hv)
  have hclass : s.KeepsOthers u ((s.replaceRecord u new).changeClass u old.cls new.cls) := by
    unfold State.changeClass
    dsimp only
    split
    · exact hreplace
    · refine State.KeepsOthers.trans ?_ (.of_units (State.moveByClass_units _ u _))
      split
      · exact hreplace.trans (State.spareClassZero_aside _ u).keepsOthers
      · exact hreplace
  unfold State.changeRecord State.clampWanted
  split
  · split
    · exact hclass.trans (State.admissionPass_passed _).keepsOthers
    · exact hclass
  · exact hclass

theorem State.setUnitRecord_keepsOthers (r : UnitRecord) : s.KeepsOthers u (s.setUnitRecord u r).1 := by
  unfold State.setUnitRecord
  split
  · exact s.configureUnit_keepsOthers u r
  · split
    · exact .refl u s
    · split
      · exact .refl u s
      · exact s.changeRecord_keepsOthers u _ r

theorem State.missOf_keepsOthers : s.KeepsOthers u (s.missOf u) := by
  unfold State.missOf State.miss
  dsimp only
  split
  · split
    · refine State.KeepsOthers.trans ?_ (State.desireStep_keepsOthers _ u)
      exact (((s.modifyStatus_aside u _).trans (State.modifyStatus_aside _ u _)).trans
        (State.raise_aside _ u _)).keepsOthers
    · exact (s.modifyStatus_aside u _).keepsOthers
  · exact .refl u s

theorem State.report_keepsOthers (l : List Byte) : s.KeepsOthers u (s.report u l) := by
  unfold State.report
  split
  · exact (s.hear_aside u).keepsOthers.trans (State.requestEvent_keepsOthers _ u _ _ _)
  · exact .refl u s

/-- A command served at the port keeps the records that its effect keeps. -/
theorem State.serve_keepsOthers (bytes : List Byte) {f : State → Reply} (hf : ∀ t : State, t.KeepsOthers u (f t).1) :
    s.KeepsOthers u (s.serve bytes f) := by
  unfold State.serve
  split
  · exact .refl u s
  · exact hf _

/-- An event of the part keeps the records that its effect keeps. -/
theorem State.live_keepsOthers {f : State → State} (hf : s.KeepsOthers u (f s)) : s.KeepsOthers u (s.live f) := by
  unfold State.live
  split
  · exact .refl u s
  · exact hf

variable {s u}

theorem State.endReply_keepsOthers (hp : s.polled = some u) : s.KeepsOthers u s.endReply := by
  unfold State.endReply
  simp only [hp]
  split
  · split
    · exact State.report_keepsOthers s.beginGap u _
    · exact State.missOf_keepsOthers s.beginGap u
  · exact .refl u s

theorem State.endBroken_keepsOthers (hp : s.polled = some u) : s.KeepsOthers u s.endBroken := by
  unfold State.endBroken
  simp only [hp]
  split
  · exact State.missOf_keepsOthers s.beginGap u
  · exact .refl u s

theorem State.endTimeout_keepsOthers (hp : s.polled = some u) : s.KeepsOthers u s.endTimeout := by
  unfold State.endTimeout
  simp only [hp]
  split
  · exact State.missOf_keepsOthers s.beginGap u
  · exact .refl u s

end

/-- Settles O8: what each command to a unit does, it does to that unit's own records. -/
theorem unitCommandsKeepOtherUnits : Obligations.UnitCommandsKeepOtherUnits := by
  intro c s t u v hv hc ht
  have hserve {b : Byte} (hb : names b u) (bytes : List Byte) {f : UnitNo → State → Reply}
      (hf : ∀ t : State, t.KeepsOthers u (f u t).1) : s.KeepsOthers u (s.serve bytes (withUnit b f)) :=
    s.serve_keepsOthers u bytes fun t => by rw [withUnit_of_names hb]; exact hf t
  rcases hc with ⟨b, hb, rfl | rfl | rfl | rfl⟩ | ⟨r, hr, rfl⟩ | ⟨hp, rfl | rfl | rfl⟩ <;> cases ht
  · exact hserve hb _ (fun t => t.lockUnit_keepsOthers u) v hv
  · exact hserve hb _ (fun t => t.unlockUnit_keepsOthers u) v hv
  · exact hserve hb _ (fun t => t.retireUnit_keepsOthers u) v hv
  · exact hserve hb _ (fun t => t.releaseUnit_keepsOthers u) v hv
  · refine s.serve_keepsOthers u _ (fun t => ?_) v hv
    rw [State.setUnit_encode hr]
    exact t.setUnitRecord_keepsOthers u r
  · exact s.live_keepsOthers u (State.endReply_keepsOthers hp) v hv
  · exact s.live_keepsOthers u (State.endBroken_keepsOthers hp) v hv
  · exact s.live_keepsOthers u (State.endTimeout_keepsOthers hp) v hv

/-! ### Retirement (R17) -/

section

variable (s : State) (u : UnitNo)

/-- The completion of a retirement, field by field (R17). -/
theorem State.completeRetirement_eq : s.completeRetirement u = State.raise .unitRetired { s with
    units := s.units.set u UnitEntry.blank
    link := { s.link with urgent := s.link.urgent.filter fun v => decide (v ≠ u) }
    channels := match channelOf u with
      | some c => s.channels.set c s.channels[c].dropUnit
      | none => s.channels } := by
  unfold State.completeRetirement
  rw [State.onChannelOf_eq] <;> rfl

theorem State.retireIfEmpty_of_noPermit (hr : (s.status u).state = .retiring) (h : s.hasPermit u = false) :
    s.retireIfEmpty u = s.completeRetirement u := by
  unfold State.retireIfEmpty
  rw [hr, h]
  rfl

theorem State.retireIfEmpty_of_not_retiring (h : (s.status u).state ≠ .retiring) : s.retireIfEmpty u = s := by
  unfold State.retireIfEmpty
  rw [decide_eq_false h]
  rfl

theorem State.retireIfEmpty_of_hasPermit (h : s.hasPermit u = true) : s.retireIfEmpty u = s := by
  unfold State.retireIfEmpty
  rw [h, Bool.not_true, Bool.and_false]
  rfl

/-- LOCK and RETIRE UNIT find nothing to stop in a unit without permits (R15, R17). -/
theorem State.woundDown_of_noPermit (h : s.hasPermit u = false) (st : UnitState) (r : StopReason) :
    s.woundDown u st r = s.modifyStatus u fun x => { x with state := st } := by
  let t := s.modifyStatus u fun x => { x with state := st }
  have hno : t.hasPermit u = false := h
  have hlevel : t.level u = 0 := t.level_of_noPermit u hno
  have hdraining : t.replaceDraining u r = t := by
    unfold State.replaceDraining
    rw [t.slotsOf_of_noPermit u hno]
    rfl
  have hstop : t.enterStop u r (fun _ => true) = t := by
    unfold State.enterStop State.stoppable
    rw [t.slotsOf_of_noPermit u hno]
    exact State.descend_of_level_zero 4 hlevel
  have hand : t.handOver u (s.level u) = t := if_pos rfl
  show ((t.replaceDraining u r).enterStop u r fun _ => true).handOver u (s.level u) = t
  rw [hdraining, hstop, hand]

end

/-- Settles O27: there is nothing to stop, the entry leaves, and the retirement completes. -/
theorem retirementWithoutPermitsCompletesAtOnce : Obligations.RetirementWithoutPermitsCompletesAtOnce := by
  intro s b u hb hopen hst hno
  let t := s.buffered [0x15#8, b]
  let retiring := t.modifyStatus u fun x => { x with state := .retiring }
  have hretiring : (retiring.status u).state = .retiring := by
    rw [t.status_modifyStatus_same]
  have hwind : t.windDown u .retiring .retired = retiring.dequeue u := by
    rw [State.windDown_eq, t.woundDown_of_noPermit u hno]
    exact retiring.desireStep_of_not_wants u (retiring.wants_of_not_active u (by rw [hretiring]; decide))
  have hret : t.retireUnit u = ((retiring.dequeue u).completeRetirement u, .bare .ok) := by
    have h : (t.windDown u .retiring .retired).retireIfEmpty u = (retiring.dequeue u).completeRetirement u := by
      rw [hwind]
      exact (retiring.dequeue u).retireIfEmpty_of_noPermit u hretiring hno
    rw [← h]
    rcases hst with hst | hst <;> simp only [State.retireUnit, t, State.buffered_status, hst]
  refine congrArg Host.Outcome.next ((State.serve_withUnit hopen (by simp [Config.bufferCapacity]) hb _).trans ?_)
  have hunits : (retiring.dequeue u).units.set u UnitEntry.blank = s.units.set u UnitEntry.blank := Vector.set_set ..
  rw [show (s.buffered [0x15#8, b]).retireUnit u = _ from hret, State.completeRetirement_eq, hunits]
  rfl

/-! ### Compliance and minimum-off expiries (R33, R35) -/

/-- The slot freed at a minimum-off expiry, before any retirement (R35). -/
theorem State.freeSlot_eq (s : State) (u : UnitNo) (i : SlotNo) : s.freeSlot u i =
    State.retireIfEmpty u { s with slots := s.slots.set i .free, freeList := s.freeList ++ [i] } := rfl

/-- Settles O44: the expiry's own write, and the retirement that the freed slot may complete. -/
theorem complianceAndMinOffExpiries : Obligations.ComplianceAndMinOffExpiries := by
  intro s i p hr hp ha hv
  refine ⟨fun hs => ?_, fun hs => ?_⟩
  · refine congrArg Host.Outcome.next ((State.live_of_running hr _).trans ?_)
    rw [State.complianceExpiry, State.expired_some hp hs ha hv]
    rfl
  · intro t
    have hexec : exec (.minOffExpiry i) s = .next (t.retireIfEmpty p.unit) := by
      refine congrArg Host.Outcome.next ((State.live_of_running hr _).trans ?_)
      rw [State.minOffExpiry, State.expired_some hp hs ha hv]
      rfl
    have hslots (j : SlotNo) : t.slots[j] = if j = i then .free else s.slots[j] := getElem_set_eq s.slots i j .free
    refine ⟨fun h => ?_, fun hst hall => ?_⟩
    · rw [hexec]
      refine congrArg Host.Outcome.next ?_
      rcases h with h | ⟨j, hj, q, hq, hqu⟩
      · exact t.retireIfEmpty_of_not_retiring p.unit h
      · refine t.retireIfEmpty_of_hasPermit p.unit (Bool.not_eq_false _ |>.mp fun hno => ?_)
        refine (t.hasPermit_eq_false_iff p.unit).mp hno j q ?_ hqu
        rw [hslots, if_neg hj]
        exact hq
    · have hno : t.hasPermit p.unit = false := (t.hasPermit_eq_false_iff p.unit).mpr fun j q hq => by
        rw [hslots] at hq
        split at hq
        · cases hq
        · next hj => exact hall j hj q hq
      rw [hexec, t.retireIfEmpty_of_noPermit p.unit hst hno, State.completeRetirement_eq]
      rfl

/-! ### Shed actions without a victim (R126, R132) -/

theorem State.victimPermit_some {s : State} {i : SlotNo} {p : Permit} : s.victimPermit i = some p ↔
    s.slots[i].permit = some p ∧ p.state = .running ∧ p.stage + 1 = s.level p.unit ∧ s.cls p.unit ≠ 0 := by
  unfold State.victimPermit
  cases s.slots[i].permit with
  | none => simp
  | some q =>
    dsimp only
    split
    · next h =>
      simp only [Bool.and_eq_true, decide_eq_true_eq] at h
      constructor
      · rintro h'
        cases h'
        exact ⟨rfl, h.1.1, h.1.2, h.2⟩
      · exact fun h' => h'.1
    · next h =>
      simp only [Bool.and_eq_true, decide_eq_true_eq] at h
      refine ⟨fun h' => absurd h' (by simp), fun ⟨h', h1, h2, h3⟩ => ?_⟩
      cases h'
      exact absurd ⟨⟨h1, h2⟩, h3⟩ h

/-- The victims of a kind are the slots of RUNNING top permits of a class other than 0 that are of it (R128). -/
theorem State.mem_victims {s : State} {f : Permit → Bool} {i : SlotNo} : i ∈ s.victims f ↔
    ∃ p, s.slots[i].permit = some p ∧ p.state = .running ∧ p.stage + 1 = s.level p.unit ∧ s.cls p.unit ≠ 0
      ∧ f p = true := by
  unfold State.victims
  rw [List.mem_filter, Option.any_eq_true]
  refine ⟨fun ⟨_, p, hp, hf⟩ => ?_, fun ⟨p, hp, h1, h2, h3, hf⟩ => ?_⟩
  · obtain ⟨h0, h1, h2, h3⟩ := State.victimPermit_some.mp hp
    exact ⟨p, h0, h1, h2, h3, hf⟩
  · exact ⟨List.mem_finRange i, p, State.victimPermit_some.mpr ⟨hp, h1, h2, h3⟩, hf⟩

theorem State.victims_eq_nil {s : State} {f : Permit → Bool} (h : ∀ (i : SlotNo) (p : Permit), s.slots[i].permit = some p →
    p.state = .running → p.stage + 1 = s.level p.unit → s.cls p.unit ≠ 0 → f p = false) : s.victims f = [] := by
  refine List.eq_nil_iff_forall_not_mem.mpr fun i hi => ?_
  obtain ⟨p, hp, h1, h2, h3, hf⟩ := State.mem_victims.mp hi
  rw [h i p hp h1 h2 h3] at hf
  cases hf

theorem State.rotationChoice_eq_none {s : State} {q : List QueueEntry}
    (h : ∀ e ∈ q, e.reason ≠ .demand ∧ e.reason ≠ .budget) : s.rotationChoice q = none := by
  induction q with
  | nil => rfl
  | cons e q ih =>
    obtain ⟨h1, h2⟩ := h e List.mem_cons_self
    rw [State.rotationChoice, if_neg (by simp [h1, h2])]
    exact ih fun f hf => h f (List.mem_cons_of_mem e hf)

/-- The opening of the shed gate takes the shed action at the OPEN gate (R62, R126). -/
theorem exec_shedGateOpening {s : State} (hr : s.resetHeld = false) (hg : s.shedGate = .counting 0) :
    exec .shedGateOpening s = .next (State.shedAction { s with shedGate := .opened }) := by
  refine congrArg Host.Outcome.next ((State.live_of_running hr _).trans ?_)
  rw [State.openShedGate, if_pos hg]

/-- Settles O33: the list of victims, and that of entries to rotate for, is empty. -/
theorem shedActionWithoutAVictim : Obligations.ShedActionWithoutAVictim := by
  intro s hr hg
  let t : State := { s with shedGate := .opened }
  refine ⟨fun hover hno => ?_, fun hnormal hq hno => ?_⟩
  · have hnil : t.victims (fun _ => true) = [] := State.victims_eq_nil fun i p hp h1 h2 h3 => absurd (hno i p hp h1 h2) h3
    rw [exec_shedGateOpening hr hg]
    refine congrArg Host.Outcome.next ?_
    show t.shedAction = _
    rw [State.shedAction, if_pos (show t.shed.demand = .overload from hover), hnil]
    rfl
  · have hcurtail : t.curtailVictim = none := by
      unfold State.curtailVictim
      cases hc : t.shed.threshold with
      | none => rfl
      | some c =>
        have hnil : t.victims (fun p => decide (c ≤ t.cls p.unit)) = [] := State.victims_eq_nil fun i p hp h1 h2 h3 => by
          rcases hno c hc i p hp h1 h2 with h | h
          · exact decide_eq_false (Nat.not_le.mpr h)
          · exact absurd h h3
        simp only [hnil]
        rfl
    have hrotation : t.rotationChoice t.queue = none := State.rotationChoice_eq_none hq
    rw [exec_shedGateOpening hr hg]
    refine congrArg Host.Outcome.next ?_
    show t.shedAction = _
    rw [State.shedAction, if_neg (show ¬ t.shed.demand = .overload by rw [show t.shed.demand = .normal from hnormal]; decide),
      hcurtail, hrotation]

end Sys2Proof.Machine


/-! The roof link (R146 to R157): the frame at the end of the gap, the arbiter's choice, what the receiver takes from the
line, and the misses; SET UNIT of a linked unit, which may wake the line (R3). -/

namespace Sys2Proof.Machine

/-! ### The end of the gap (R149 to R152) -/

/-- The line as the end of the gap leaves it, by the arbiter's choice (R152, R155). -/
theorem State.nextTransaction_link (s : State) : s.nextTransaction = { s with link :=
    let chosen : RoofLink := { s.link with
      urgent := s.choose.urgent, ringPosition := s.choose.position, silentRound := s.choose.round }
    match s.choose.unit with
    | none => { chosen with line := .idle, transaction := none }
    | some u => { chosen with
        line := .sending
        transaction := some { unit := u, speed := s.site.linkSpeed, timeout := s.site.replyTimeout, frame := s.pollFrame u }
        bitDivider := 0
        lineBits := 0
        receiver := s.link.receiver.deafened
        reply := []
        replyTimer := 0
        replyBroken := false } } := by
  unfold State.nextTransaction
  dsimp only
  cases s.choose.unit <;> rfl

theorem exec_linkGapEnd {s : State} (hr : s.resetHeld = false) (hl : s.link.line = .gap ∨ s.link.line = .idle) :
    exec .linkGapEnd s = .next s.nextTransaction := by
  refine congrArg Host.Outcome.next ((State.live_of_running hr _).trans ?_)
  refine if_pos ?_
  rw [Bool.or_eq_true, decide_eq_true_iff, decide_eq_true_iff]
  exact hl

theorem pollFrame_length (s : State) (u : UnitNo) : (s.pollFrame u).length = 10 := rfl

/-- The answer's three characters and its four bytes, by the first case that applies (R149, R151). -/
theorem State.answer_bytes (s : State) (u : UnitNo) :
    [(s.answer u).1.code, (s.answer u).2.1, (s.answer u).2.2 / 256, (s.answer u).2.2] =
      if (s.status u).state = .locked ∨ (s.status u).state = .retiring then [3, 0, 0, 0]
      else if s.effectiveDesired u ≤ s.level u then [0, 0, 0, 0]
      else (s.entryOf u).elim [2, 0, 0, 0] fun e => [1, e.reason.pollCode, e.remaining / 256, e.remaining] := by
  unfold State.answer
  simp only [Bool.or_eq_true, decide_eq_true_eq]
  split
  · rfl
  · split
    · rfl
    · cases s.entryOf u <;> rfl

/-- Settles O49: the frame's first nine characters are its fields, and the check closes it. -/
theorem gapEndBeginsATransaction : Obligations.GapEndBeginsATransaction := by
  intro s hr hl desired answer chars
  refine ⟨s.nextTransaction, exec_linkGapEnd hr hl, by rw [s.nextTransaction_link], ?_⟩
  rw [s.nextTransaction_link]
  cases hc : s.choose.unit with
  | none => exact .inl ⟨rfl, rfl⟩
  | some u =>
    refine .inr ⟨u, s.pollFrame u, rfl, rfl, rfl, ?_, rfl, pollFrame_length s u, frameSum_withCheck _, ?_⟩
    · show (if s.resetHeld then none else _) = _
      rw [hr]
      rfl
    · have hanswer : answer u = _ := Eq.trans (by
        refine ite_congr rfl (fun _ => rfl) fun _ => ite_congr rfl (fun _ => rfl) fun _ => ?_
        show _ = (s.entryOf u).elim [2, 0, 0, 0] fun e => [1, e.reason.pollCode, e.remaining / 256, e.remaining]
        unfold State.entryOf
        cases s.queue.find? fun e => decide (e.unit = u) with
        | none => rfl
        | some e => cases hr : e.reason <;> simp only [Option.elim_some, WaitReason.pollCode, hr]) (s.answer_bytes u).symm
      have hflags : s.siteFlags = (if s.shed.demand = .overload then 1 else 0)
          + (if s.shed.threshold.isSome = true then 2 else 0) + (if s.hold ≠ .ended then 4 else 0) := by
        simp only [State.siteFlags, State.holdRunning, decide_eq_true_eq]
      simp only [chars, hanswer, ← hflags]
      rfl

/-! ### The arbiter (R155 to R157) -/

/-- The first element with a property of a list in ascending order is the least with it. -/
theorem find?_of_least {n : Nat} {l : List (Fin n)} (hl : l.Pairwise (· < ·)) {p : Fin n → Bool} {a : Fin n} (ha : a ∈ l)
    (hp : p a = true) (hleast : ∀ b ∈ l, p b = true → a ≤ b) : l.find? p = some a := by
  induction l with
  | nil => cases ha
  | cons x l ih =>
    obtain ⟨hx, hl⟩ := List.pairwise_cons.mp hl
    rcases List.mem_cons.mp ha with rfl | hal
    · rw [List.find?_cons, hp]
    · have hpx : p x = false := Bool.eq_false_iff.mpr fun h =>
        absurd (hx a hal) (Fin.not_lt.mpr (hleast x List.mem_cons_self h))
      rw [List.find?_cons, hpx]
      exact ih hl hal fun b hb => hleast b (List.mem_cons_of_mem x hb)

/-- A configured linked unit of a link condition (R155). -/
def State.waits (s : State) (l : LinkCondition) (u : UnitNo) : Bool :=
  !isWired u && s.configured u && decide ((s.status u).link = l)

theorem State.waits_iff {s : State} {l : LinkCondition} {u : UnitNo} :
    s.waits l u = true ↔ isWired u = false ∧ s.configured u = true ∧ (s.status u).link = l := by
  simp only [State.waits, Bool.and_eq_true, Bool.not_eq_true', decide_eq_true_eq, and_assoc]

theorem State.pollRing_eq (s : State) : s.pollRing = allUnits.filter (s.waits .heard) := rfl
theorem State.silentList_eq (s : State) : s.silentList = allUnits.filter (s.waits .silent) := rfl

/-- The lowest unit of a link condition from a number up. -/
def State.lowest (s : State) (l : LinkCondition) (least : Nat) (u : UnitNo) : Prop :=
  s.waits l u = true ∧ least ≤ u.val ∧ ∀ v : UnitNo, s.waits l v = true → least ≤ v.val → u.val ≤ v.val

theorem State.lowest.find? {s : State} {l : LinkCondition} {least : Nat} {u : UnitNo} (h : s.lowest l least u) :
    (allUnits.filter (s.waits l)).find? (fun v => decide (least ≤ v.val)) = some u := by
  obtain ⟨hw, hle, hmin⟩ := h
  rw [List.find?_filter]
  refine find?_of_least (List.pairwise_lt_finRange 36) (List.mem_finRange u) ?_ fun v _ hv => ?_
  · exact decide_eq_true ⟨hw, decide_eq_true hle⟩
  · obtain ⟨h1, h2⟩ := of_decide_eq_true hv
    exact hmin v h1 (of_decide_eq_true h2)

theorem State.lowest.head? {s : State} {l : LinkCondition} {u : UnitNo} (h : s.lowest l 0 u) :
    (allUnits.filter (s.waits l)).head? = some u := by
  obtain ⟨hw, -, hmin⟩ := h
  rw [List.head?_filter]
  exact find?_of_least (List.pairwise_lt_finRange 36) (List.mem_finRange u) hw fun v _ hv => hmin v hv (Nat.zero_le _)

theorem State.find?_waits_eq_none {s : State} {l : LinkCondition} {p : UnitNo → Bool}
    (h : ∀ v, s.waits l v = true → p v = false) : (allUnits.filter (s.waits l)).find? p = none := by
  refine List.find?_eq_none.mpr fun v hv => ?_
  rw [h v (List.mem_filter.mp hv).2]
  exact Bool.false_ne_true

theorem State.head?_waits_eq_none {s : State} {l : LinkCondition} (h : ∀ v, s.waits l v = false) :
    (allUnits.filter (s.waits l)).head? = none := by
  rw [List.head?_filter]
  exact List.find?_eq_none.mpr fun v _ => by rw [h v]; exact Bool.false_ne_true

/-- What the end of the gap makes of a choice that names a unit. -/
theorem polls_of_choose {s : State} (hr : s.resetHeld = false) (hl : s.link.line = .gap ∨ s.link.line = .idle) {u : UnitNo}
    {urgent : List UnitNo} {position : Nat} {round : Option UnitNo}
    (hc : s.choose = { unit := some u, urgent := urgent, position := position, round := round }) :
    ∃ t, exec .linkGapEnd s = .next t ∧ t.link.transaction.map Transaction.unit = some u ∧ t.link.urgent = urgent
      ∧ t.link.ringPosition = position ∧ t.link.silentRound = round := by
  refine ⟨_, exec_linkGapEnd hr hl, ?_⟩
  rw [s.nextTransaction_link, hc]
  exact ⟨rfl, rfl, rfl, rfl⟩

theorem idles_of_choose {s : State} (hr : s.resetHeld = false) (hl : s.link.line = .gap ∨ s.link.line = .idle)
    (hc : s.choose.unit = none) : ∃ t, exec .linkGapEnd s = .next t ∧ t.link.line = .idle := by
  refine ⟨_, exec_linkGapEnd hr hl, ?_⟩
  rw [s.nextTransaction_link, hc]

/-- The arbiter's choice with an empty urgent list, in a running silent round. -/
theorem State.choose_of_round {s : State} (hu : s.link.urgent = []) {last : UnitNo} (hround : s.link.silentRound = some last) :
    s.choose = match s.silentList.find? fun u => decide (last.val + 1 ≤ u.val) with
      | some u => { unit := some u, urgent := [], position := s.link.ringPosition, round := some u }
      | none => s.chooseRoundEnd := by
  unfold State.choose
  rw [hu, hround] <;> rfl

/-- The arbiter's choice with an empty urgent list and no silent round. -/
theorem State.choose_of_noRound {s : State} (hu : s.link.urgent = []) (hround : s.link.silentRound = none) :
    s.choose = match s.pollRing.find? fun u => decide (s.link.ringPosition ≤ u.val) with
      | some u => { unit := some u, urgent := [], position := u.val + 1, round := none }
      | none => s.chooseWrap := by
  unfold State.choose
  rw [hu, hround] <;> rfl

/-- Settles O50: the arbiter's choice, case by case of its rules. -/
theorem arbiterTakesTheFirstClaim : Obligations.ArbiterTakesTheFirstClaim := by
  intro s hr hl waits lowest polls
  have hlow {l : LinkCondition} {least : Nat} {u : UnitNo} (h : lowest l least u) : s.lowest l least u :=
    ⟨State.waits_iff.mpr h.1, h.2.1, fun v hv => h.2.2 v (State.waits_iff.mp hv)⟩
  have hnone {l : LinkCondition} (h : ∀ v, ¬ waits l v) (v : UnitNo) : s.waits l v = false :=
    Bool.eq_false_iff.mpr fun hv => h v (State.waits_iff.mp hv)
  have hround_end {last : UnitNo} (h : ∀ v : UnitNo, waits .silent v → v.val ≤ last.val) :
      (s.silentList.find? fun u => decide (last.val + 1 ≤ u.val)) = none :=
    State.find?_waits_eq_none fun v hv => decide_eq_false (Nat.not_le.mpr (Nat.lt_succ_of_le (h v (State.waits_iff.mp hv))))
  have hring_end (h : ∀ v : UnitNo, waits .heard v → v.val < s.link.ringPosition) :
      (s.pollRing.find? fun u => decide (s.link.ringPosition ≤ u.val)) = none :=
    State.find?_waits_eq_none fun v hv => decide_eq_false (Nat.not_le.mpr (h v (State.waits_iff.mp hv)))
  refine ⟨fun u rest hu => polls_of_choose hr hl (by unfold State.choose; rw [hu]), fun hu => ⟨fun last u hround h => ?_,
    fun last u hround hend h => ?_, fun last hround hend hring => ⟨fun u h => ?_, fun hsilent => ?_⟩, fun hround =>
    ⟨fun u h => ?_, fun hwrap => ⟨fun u h => ?_, fun hsilent => ⟨fun u h => ?_, fun hring => ?_⟩⟩⟩⟩⟩
  · refine polls_of_choose hr hl ?_
    rw [State.choose_of_round hu hround, s.silentList_eq, (hlow h).find?]
  · refine polls_of_choose hr hl ?_
    rw [State.choose_of_round hu hround, hround_end hend, State.chooseRoundEnd, s.pollRing_eq, (hlow h).head?, hu]
  · refine polls_of_choose hr hl ?_
    rw [State.choose_of_round hu hround, hround_end hend, State.chooseRoundEnd, s.pollRing_eq,
      State.head?_waits_eq_none (hnone hring), s.silentList_eq, (hlow h).head?, hu]
  · refine idles_of_choose hr hl ?_
    rw [State.choose_of_round hu hround, hround_end hend, State.chooseRoundEnd, s.pollRing_eq,
      State.head?_waits_eq_none (hnone hring), s.silentList_eq, State.head?_waits_eq_none (hnone hsilent)]
  · refine polls_of_choose hr hl ?_
    rw [State.choose_of_noRound hu hround, s.pollRing_eq, (hlow h).find?]
  · refine polls_of_choose hr hl ?_
    rw [State.choose_of_noRound hu hround, hring_end hwrap, State.chooseWrap, s.silentList_eq, (hlow h).head?, hu]
  · refine polls_of_choose hr hl ?_
    rw [State.choose_of_noRound hu hround, hring_end hwrap, State.chooseWrap, s.silentList_eq,
      State.head?_waits_eq_none (hnone hsilent), State.chooseRingStart, s.pollRing_eq, (hlow h).head?, hu]
  · refine idles_of_choose hr hl ?_
    rw [State.choose_of_noRound hu hround, hring_end hwrap, State.chooseWrap, s.silentList_eq,
      State.head?_waits_eq_none (hnone hsilent), State.chooseRingStart, s.pollRing_eq,
      State.head?_waits_eq_none (hnone hring)]

/-! ### Misses (R13, R152 to R154) -/

theorem State.polled_of_awaiting {s : State} {u : UnitNo} {trans : Transaction} (hl : s.link.line = .awaiting)
    (ht : s.link.transaction = some trans) (hu : trans.unit = u) : s.polled = some u := by
  rw [State.polled, if_pos hl, ht, Option.map_some, hu]

/-- The tests of a reply, by its characters (R153). -/
theorem goodReply_of_length {u : UnitNo} {reply : List Byte} (h : reply.length = 8) : goodReply u reply = true ↔
    frameSum reply = 0#8 ∧ reply[1]? = some 5#8 ∧ reply[2]? = some 0xB2#8 ∧ reply[0]? = some 0#8
      ∧ reply[3]? = some (BitVec.ofNat 8 (u.val + 1)) := by
  obtain ⟨a, n, k, ua, d, r, c, x, rfl⟩ : ∃ a n k ua d r c x, reply = [a, n, k, ua, d, r, c, x] := by
    match reply, h with
    | [a, n, k, ua, d, r, c, x], _ => exact ⟨a, n, k, ua, d, r, c, x, rfl⟩
  have hua : ua.toNat = roofAddress u ↔ ua = BitVec.ofNat 8 (u.val + 1) := by
    have hu := u.isLt
    rw [roofAddress, BitVec.toNat_eq, BitVec.toNat_ofNat, Nat.mod_eq_of_lt (by omega)]
  simp [goodReply, hua, and_assoc]

/-- A unit's entry with another status. -/
theorem State.modifyStatus_modifyStatus (s : State) (u : UnitNo) (f g : UnitStatus → UnitStatus) :
    (s.modifyStatus u f).modifyStatus u g = s.modifyStatus u fun st => g (f st) := by
  have h : (s.modifyStatus u f).units[u] = { s.units[u] with status := f s.units[u].status } :=
    (s.units_modifyStatus u f u).trans (if_pos rfl)
  unfold State.modifyStatus at h ⊢
  dsimp only at h ⊢
  rw [h, Vector.set_set]

/-- Settles O52: each way ends in the miss of the polled unit. -/
theorem missesAreCounted : Obligations.MissesAreCounted := by
  intro s c u trans hr hl ht hu hlinked hc n gap
  have hpolled := State.polled_of_awaiting hl ht hu
  have hexec : exec c s = .next (gap.missOf u) := by
    rcases hc with ⟨rfl, hto, hlen⟩ | ⟨rfl, hb⟩ | ⟨rfl, hlen, hb, hbad⟩
    · refine congrArg Host.Outcome.next ((State.live_of_running hr _).trans ?_)
      have : s.timedOut = true := by simp only [State.timedOut, ht, Option.any_some, hto, hlen, decide_true, Bool.and_self]
      simp only [State.endTimeout, hpolled, this, if_true]
      rfl
    · refine congrArg Host.Outcome.next ((State.live_of_running hr _).trans ?_)
      simp only [State.endBroken, hpolled, hb, if_true]
      rfl
    · refine congrArg Host.Outcome.next ((State.live_of_running hr _).trans ?_)
      have : goodReply u s.link.reply = false := Bool.eq_false_iff.mpr fun h => hbad ((goodReply_of_length hlen).mp h)
      simp only [State.endReply, hpolled, hlen, hb, this, decide_true, Bool.not_false, Bool.and_self, if_true,
        Bool.false_eq_true, if_false]
      rfl
  rw [hexec]
  refine congrArg Host.Outcome.next ?_
  by_cases hconf : (s.status u).state = .unconfigured
  · rw [if_pos hconf]
    exact if_neg (by rw [State.configured, show gap.status u = s.status u from rfl, hconf]; decide)
  · rw [if_neg hconf]
    have hc : gap.configured u = true := decide_eq_true hconf
    rw [State.missOf, if_pos hc, State.miss]
    dsimp only
    rw [gap.status_modifyStatus_same, gap.modifyStatus_modifyStatus]
    by_cases hsilent : (s.status u).link = .heard ∧ s.site.silenceCount ≤ n
    · refine (if_pos ?_).trans (Eq.trans ?_ (if_pos hsilent).symm)
      · exact Bool.and_eq_true_iff.mpr ⟨decide_eq_true hsilent.1, decide_eq_true hsilent.2⟩
      refine (State.desireStep_of_not_wants _ u (Bool.eq_false_iff.mpr fun hw => ?_)).trans rfl
      obtain ⟨-, hheard, -⟩ := (State.eligible_iff _ u).mp (Bool.and_eq_true_iff.mp hw).1
      rw [State.status, State.raise_units, ← State.status, gap.status_modifyStatus_same, hlinked] at hheard
      rcases hheard with h | h <;> cases h
    · refine (if_neg fun h => hsilent ?_).trans (Eq.trans rfl (if_neg hsilent).symm)
      obtain ⟨h1, h2⟩ := Bool.and_eq_true_iff.mp h
      exact ⟨of_decide_eq_true h1, of_decide_eq_true h2⟩

/-! ### SET UNIT of a linked unit (R3) -/

theorem State.setUnitRecord_of_none {s : State} {u : UnitNo} {r : UnitRecord} (h : s.record u = none) :
    s.setUnitRecord u r = (s.configureUnit u r, .bare .ok) := by
  rw [State.setUnitRecord, h]

theorem State.install_of_linked {s : State} {u : UnitNo} (r : UnitRecord) (hl : isWired u = false) :
    s.install u r = { s with units := s.units.set u { record := some r, status := .fresh } } := by
  unfold State.install State.onChannelOf
  rw [channelOf_of_linked hl]

theorem State.configureUnit_of_linked {s : State} {u : UnitNo} (r : UnitRecord) (hl : isWired u = false) :
    s.configureUnit u r = (s.install u r).wakeLine := by
  unfold State.configureUnit
  rw [channelOf_of_linked hl]

theorem State.install_entry (s : State) (u : UnitNo) (r : UnitRecord) :
    (s.install u r).units[u] = { record := some r, status := .fresh } := by
  rw [s.install_units, getElem_set_eq, if_pos rfl]

/-- The one unit that the arbiter can poll is the one it chooses (R155 to R157). -/
theorem State.choose_of_only {s : State} {u : UnitNo} (hu : s.link.urgent = []) (hround : s.link.silentRound = none)
    (hwaits : s.waits .heard u = true) (honly : ∀ (l : LinkCondition) (v : UnitNo), s.waits l v = true → v = u ∧ l = .heard) :
    s.choose.unit = some u := by
  have hlow (least : Nat) (h : least ≤ u.val) : s.lowest .heard least u :=
    ⟨hwaits, h, fun v hv _ => by rw [(honly _ v hv).1]⟩
  rw [State.choose_of_noRound hu hround]
  by_cases hp : s.link.ringPosition ≤ u.val
  · rw [s.pollRing_eq, (hlow _ hp).find?]
  · have hring : s.pollRing.find? (fun v => decide (s.link.ringPosition ≤ v.val)) = none :=
      State.find?_waits_eq_none fun v hv => by rw [(honly _ v hv).1]; exact decide_eq_false hp
    have hsilent (v : UnitNo) : s.waits .silent v = false := Bool.eq_false_iff.mpr fun hv => by
      cases (honly _ v hv).2
    rw [hring, State.chooseWrap, s.silentList_eq, State.head?_waits_eq_none hsilent, State.chooseRingStart, s.pollRing_eq,
      (hlow 0 (Nat.zero_le _)).head?]

/-- Settles O22: the record is installed, and an IDLE line is woken to poll the unit. -/
theorem setUnitConfiguresALinkedUnit : Obligations.SetUnitConfiguresALinkedUnit := by
  intro s u r hopen hl hnone hr t
  let installed := (s.buffered (0x10#8 :: r.encode u)).install u r
  have hexec : exec (.setUnit (r.encode u)) s = .next (installed.wakeLine.latch (.bare .ok)) := by
    rw [exec_setUnit_encode hopen hr, State.setUnitRecord_of_none (s := s.buffered (0x10#8 :: r.encode u)) hnone,
      State.configureUnit_of_linked r hl]
  have hentry : installed.units[u] = _ := State.install_entry _ u r
  have ht : t = installed.latch (.bare .ok) := by
    show _ = ((s.buffered (0x10#8 :: r.encode u)).install u r).latch (.bare .ok)
    rw [State.install_of_linked r hl]
    rfl
  have htu : t.units[u] = { record := some r, status := .fresh } := by rw [ht]; exact hentry
  have hlink : installed.link = s.link := (congrArg State.link ht).symm
  refine ⟨?_, ?_, ?_, fun hline => ?_, fun hline hurgent hround hnobody => ?_⟩
  · rw [t.pollRing_eq]
    refine List.mem_filter.mpr ⟨List.mem_finRange u, State.waits_iff.mpr ⟨hl, ?_, ?_⟩⟩
    · rw [State.configured, State.status, htu]; rfl
    · rw [State.status, htu]; rfl
  · rw [State.cls, State.record, htu]; rfl
  · rw [State.stageCount, State.record, htu]; rfl
  · have : installed.wakeLine = installed := by
      unfold State.wakeLine
      rw [hlink, decide_eq_false hline]
      rfl
    rw [hexec, this, ht]
  · have hwaits : installed.waits .heard u = true := State.waits_iff.mpr
      ⟨hl, by rw [State.configured, State.status, hentry]; rfl, by rw [State.status, hentry]; rfl⟩
    have honly (l : LinkCondition) (v : UnitNo) (hv : installed.waits l v = true) : v = u ∧ l = .heard := by
      obtain ⟨hvl, hvc, hvh⟩ := State.waits_iff.mp hv
      by_cases hvu : v = u
      · subst hvu
        rw [State.status, hentry] at hvh
        exact ⟨rfl, hvh.symm⟩
      · have : installed.configured v = s.configured v := by
          rw [State.configured, State.status, State.install_keepsOthers _ u r v hvu]
          rfl
        rw [this, hnobody v hvl] at hvc
        cases hvc
    have hchoose : installed.choose.unit = some u :=
      State.choose_of_only (hlink ▸ hurgent) (hlink ▸ hround) hwaits honly
    have hwake : installed.wakeLine = installed.nextTransaction := if_pos (by
      rw [hlink, hline, State.unitToPoll, hchoose]; rfl)
    refine ⟨_, hexec, ?_, ?_, ?_⟩ <;> rw [hwake, installed.nextTransaction_link, hchoose]
    · rw [ht, ← hlink]
      rfl
    · rfl
    · rfl

end Sys2Proof.Machine


/-! The receiver sample by sample (R146, R147): what the samples of a driven character, of a low pulse and of a low stop bit
come to. -/

namespace Sys2Proof.Machine

/-! ### The receiver's commands -/

section

variable {l : RoofLink}

theorem RoofLink.receive_deaf (h : l.line = .sending ∨ l.receiver = .waitingHigh) (data : Byte) (mark : Bool) :
    l.receive data mark = l := if_pos (by rcases h with h | h <;> simp [h])

theorem RoofLink.receive_listening (h : l.line ≠ .sending) (hr : l.receiver ≠ .waitingHigh) (data : Byte) (mark : Bool) :
    l.receive data mark = { l.takeCharacter data mark with receiver := .waitingStart, lineWasHigh := true } :=
  if_neg (by simp [h, hr])

theorem RoofLink.framingError_listening (h : l.line ≠ .sending) (hr : l.receiver ≠ .waitingHigh) (mark : Bool) :
    l.framingError mark = l.takeFramingError mark := if_neg (by simp [h, hr])

/-- A character is taken into the reply, whatever the receiver's own marks hold (R153). -/
theorem RoofLink.takeCharacter_eq (data : Byte) (mark : Bool) : l.takeCharacter data mark = { l with
    reply := (l.takeCharacter data mark).reply, replyBroken := (l.takeCharacter data mark).replyBroken } := by
  unfold RoofLink.takeCharacter
  split_ifs <;> rfl

/-- What a character does to the reply (R153). -/
theorem RoofLink.takeCharacter_cases (data : Byte) (mark : Bool) : l.takeCharacter data mark =
    if l.line ≠ .awaiting ∨ l.replyBroken = true ∨ 8 ≤ l.reply.length then l
    else if l.reply = [] then (if mark = true then { l with reply := [data] } else l)
    else if mark = true ∧ l.reply.length < 7 then { l with replyBroken := true }
    else { l with reply := l.reply ++ [data] } := by
  unfold RoofLink.takeCharacter RoofLink.receiving
  refine if_congr ?_ rfl (if_congr List.isEmpty_iff rfl (if_congr ?_ rfl rfl))
  · cases l.replyBroken <;> simp
  · rw [Bool.and_eq_true, decide_eq_true_iff]

theorem RoofLink.lineHigh_of_waiting (h : l.line ≠ .sending) (hr : l.receiver = .waitingHigh) :
    l.lineHigh = { l with receiver := .waitingStart, lineWasHigh := true } := if_pos (by simp [h, hr])

/-- The receiver's marks. -/
def RoofLink.marked (r : Receiver) (high : Bool) (l : RoofLink) : RoofLink := { l with receiver := r, lineWasHigh := high }

theorem RoofLink.marked_takeCharacter (r : Receiver) (high : Bool) (data : Byte) (mark : Bool) :
    (l.marked r high).takeCharacter data mark = (l.takeCharacter data mark).marked r high := by
  unfold RoofLink.takeCharacter RoofLink.marked RoofLink.receiving
  dsimp only
  split_ifs <;> rfl

theorem RoofLink.takeFramingError_marked (r : Receiver) (high : Bool) (mark : Bool) :
    (l.marked r high).takeFramingError mark = l.takeFramingError mark := rfl

theorem RoofLink.takeCharacter_line (data : Byte) (mark : Bool) : (l.takeCharacter data mark).line = l.line := by
  rw [RoofLink.takeCharacter_eq]

theorem RoofLink.marked_receive (h : l.line ≠ .sending) (w : Bool) (data : Byte) (mark : Bool) :
    (l.marked .waitingStart w).receive data mark = (l.takeCharacter data mark).marked .waitingStart true := by
  rw [RoofLink.receive_listening (l := l.marked .waitingStart w) h (by simp [RoofLink.marked]), RoofLink.marked_takeCharacter]
  rfl

theorem RoofLink.marked_framingError (h : l.line ≠ .sending) (w : Bool) (mark : Bool) :
    (l.marked .waitingStart w).framingError mark = (l.takeFramingError mark).marked .waitingHigh false := by
  rw [RoofLink.framingError_listening (l := l.marked .waitingStart w) h (by simp [RoofLink.marked])]
  rfl

/-! ### One sample (R147) -/

/-- A high sample while the receiver waits for a start bit behind a high one. -/
theorem RoofLink.sampleLine_quiet (hl : l.line ≠ .sending) : (l.marked .waitingStart true).sampleLine true
    = l.marked .waitingStart true := by
  rw [RoofLink.sampleLine, if_neg (show ¬ (l.marked .waitingStart true).line = .sending from hl)]
  rfl

/-- A low sample while the receiver waits for the line to return high. -/
theorem RoofLink.sampleLine_stillLow (hl : l.line ≠ .sending) : (l.marked .waitingHigh false).sampleLine false
    = l.marked .waitingHigh false := by
  rw [RoofLink.sampleLine, if_neg (show ¬ (l.marked .waitingHigh false).line = .sending from hl)]
  rfl

/-- A start bit begins at the first low sample after a high one. -/
theorem RoofLink.sampleLine_start (hl : l.line ≠ .sending) : (l.marked .waitingStart true).sampleLine false
    = l.marked (.inCharacter [false]) false := by
  rw [RoofLink.sampleLine, if_neg (show ¬ (l.marked .waitingStart true).line = .sending from hl)]
  rfl

theorem RoofLink.sampleLine_inCharacter (hl : l.line ≠ .sending) (xs : List Bool) (w high : Bool) :
    (l.marked (.inCharacter xs) w).sampleLine high
      = { (l.marked (.inCharacter xs) w).takeSamples (xs ++ [high]) with lineWasHigh := high } := by
  rw [RoofLink.sampleLine, if_neg (show ¬ (l.marked (.inCharacter xs) w).line = .sending from hl)]
  rfl

/-- Whether a start bit of these samples reads high: it is dropped as noise with its ninth sample. -/
def isNoise (samples : List Bool) : Bool := decide (samples.length = 9) && sampledBit samples

theorem RoofLink.takeSamples_noise {xs : List Bool} (h : isNoise xs = true) (r : Receiver) (w : Bool) :
    (l.marked r w).takeSamples xs = l.marked .waitingStart w := if_pos h

theorem RoofLink.takeSamples_more {xs : List Bool} (h : isNoise xs = false) (hlen : xs.length < 169) (r : Receiver)
    (w : Bool) : (l.marked r w).takeSamples xs = l.marked (.inCharacter xs) w :=
  (if_neg (Bool.eq_false_iff.mp h)).trans (if_pos hlen)

theorem RoofLink.takeSamples_read {xs : List Bool} (hlen : xs.length = 169) (r : Receiver) (w : Bool) :
    (l.marked r w).takeSamples xs = match readSamples xs with
      | .noise => l.marked .waitingStart w
      | .framingError mark => (l.marked .waitingStart w).framingError mark
      | .character data mark => (l.marked .waitingStart w).receive data mark := by
  have h : isNoise xs = false := by rw [isNoise, hlen]; rfl
  refine ((if_neg (Bool.eq_false_iff.mp h)).trans (if_neg ?_)).trans ?_
  · rw [hlen]; decide
  · cases readSamples xs <;> rfl

/-! ### The samples of a character -/

/-- Samples within a character are collected, as long as its start bit is not dropped and its stop bit not reached. -/
theorem RoofLink.foldl_inCharacter (hl : l.line ≠ .sending) (ys : List Bool) : ∀ (xs : List Bool) (w : Bool),
    (xs ++ ys).length < 169 → (xs ++ ys).length < 9 ∨ 9 ≤ xs.length ∨ sampledBit ((xs ++ ys).take 9) = false →
    ∃ w', ys.foldl (fun k x => k.sampleLine x) (l.marked (.inCharacter xs) w) = l.marked (.inCharacter (xs ++ ys)) w' := by
  induction ys with
  | nil => exact fun xs w _ _ => ⟨w, by rw [List.append_nil]; rfl⟩
  | cons y ys ih =>
    intro xs w hlen h9
    have happ : xs ++ y :: ys = (xs ++ [y]) ++ ys := by rw [List.append_assoc]; rfl
    rw [happ] at hlen h9 ⊢
    have hnoise : isNoise (xs ++ [y]) = false := by
      by_cases hn : (xs ++ [y]).length = 9
      · rw [isNoise, decide_eq_true hn, Bool.true_and]
        rcases h9 with h9 | h9 | h9
        · rw [List.length_append] at h9; omega
        · rw [List.length_append] at hn; simp at hn; omega
        · rw [List.take_left' hn] at h9
          exact h9
      · rw [isNoise, decide_eq_false hn, Bool.false_and]
    have hstep : (l.marked (.inCharacter xs) w).sampleLine y = l.marked (.inCharacter (xs ++ [y])) y := by
      rw [RoofLink.sampleLine_inCharacter hl, RoofLink.takeSamples_more hnoise (by rw [List.length_append] at hlen; omega)]
      rfl
    rw [List.foldl_cons, hstep]
    refine ih _ _ hlen ?_
    rcases h9 with h9 | h9 | h9
    · exact .inl h9
    · exact .inr (.inl (by rw [List.length_append]; omega))
    · exact .inr (.inr h9)

theorem RoofLink.foldl_fixed {k : RoofLink} {x : Bool} (h : k.sampleLine x = k) (n : Nat) :
    (List.replicate n x).foldl (fun k x => k.sampleLine x) k = k := by
  induction n with
  | zero => rfl
  | succ n ih => rw [List.replicate_succ, List.foldl_cons, h, ih]

/-- A low pulse shorter than the majority of samples 7, 8 and 9 comes to nothing (R147). -/
theorem RoofLink.foldl_pulse (hl : l.line ≠ .sending) {n : Nat} (hn : n ≤ 7) :
    (List.replicate n false ++ List.replicate (16 - n) true).foldl (fun k x => k.sampleLine x)
      (l.marked .waitingStart true) = l.marked .waitingStart true := by
  cases n with
  | zero => exact RoofLink.foldl_fixed (RoofLink.sampleLine_quiet hl) 16
  | succ n =>
    have hsplit : List.replicate (n + 1) false ++ List.replicate (16 - (n + 1)) true
        = false :: ((List.replicate n false ++ List.replicate (7 - n) true) ++ true :: List.replicate 7 true) := by
      have hrest : List.replicate (16 - (n + 1)) true = List.replicate (7 - n) true ++ true :: List.replicate 7 true := by
        rw [show 16 - (n + 1) = (7 - n) + 8 by omega, List.replicate_add]
        rfl
      rw [hrest, List.replicate_succ, List.cons_append, List.append_assoc]
    have hlen : ([false] ++ (List.replicate n false ++ List.replicate (7 - n) true)).length = 8 := by
      simp only [List.length_append, List.length_replicate, List.length_singleton]; omega
    obtain ⟨w, hw⟩ := RoofLink.foldl_inCharacter hl (List.replicate n false ++ List.replicate (7 - n) true) [false] false
      (by omega) (.inl (by omega))
    have hnoise : isNoise ([false] ++ (List.replicate n false ++ List.replicate (7 - n) true) ++ [true]) = true := by
      have : n = 0 ∨ n = 1 ∨ n = 2 ∨ n = 3 ∨ n = 4 ∨ n = 5 ∨ n = 6 := by omega
      rcases this with rfl | rfl | rfl | rfl | rfl | rfl | rfl <;> decide
    rw [hsplit, List.foldl_cons, RoofLink.sampleLine_start hl, List.foldl_append, hw, List.foldl_cons,
      RoofLink.sampleLine_inCharacter hl, RoofLink.takeSamples_noise hnoise]
    exact RoofLink.foldl_fixed (RoofLink.sampleLine_quiet hl) 7

/-- Within bit b of a list of bits sent sixteen samples each, every sample is the bit (R146). -/
theorem getElem?_sixteen (bits : List Bool) (b j : Nat) (hj : j < 16) :
    (bits.flatMap (List.replicate 16))[16 * b + j]? = bits[b]? := by
  induction bits generalizing b with
  | nil => simp
  | cons x bits ih =>
    rw [List.flatMap_cons]
    cases b with
    | zero =>
      rw [List.getElem?_append_left (by rw [List.length_replicate]; omega), Nat.mul_zero, Nat.zero_add,
        List.getElem?_replicate, if_pos hj]
      rfl
    | succ b =>
      rw [List.getElem?_append_right (by rw [List.length_replicate]; omega), List.length_replicate,
        show 16 * (b + 1) + j - 16 = 16 * b + j by omega, ih]
      rfl

/-- The eleven bits of a character, with the stop bit given. -/
def bitsWithStop (data : Byte) (mark stop : Bool) : List Bool :=
  false :: (List.range 8).map (fun i => data.getLsbD i) ++ [mark, stop]

theorem bitsWithStop_length (data : Byte) (mark stop : Bool) : (bitsWithStop data mark stop).length = 11 := rfl

theorem byteOfBits_eq (data : Byte) : byteOfBits ((List.range 8).map fun i => data.getLsbD i) = data := by
  revert data
  decide

theorem majority_self (b : Bool) : majority b b b = b := by cases b <;> rfl

/-- A bit read within the samples of a frame of bits, of which at least nine samples have come (R147). -/
theorem sampledBit_of_samples {bits samples : List Bool} {n b : Nat}
    (hs : samples = (bits.flatMap (List.replicate 16)).take n) (hn : 16 * b + 9 ≤ n) :
    sampledBit ((samples.drop (16 * b)).take 16) = bits.getD b false := by
  have hget (j : Nat) (hj : j < 9) : ((samples.drop (16 * b)).take 16).getD j false = bits.getD b false := by
    rw [List.getD_eq_getElem?_getD, List.getD_eq_getElem?_getD, List.getElem?_take, if_pos (by omega), List.getElem?_drop, hs,
      List.getElem?_take, if_pos (by omega), getElem?_sixteen _ _ _ (by omega)]
  rw [sampledBit, hget 6 (by omega), hget 7 (by omega), hget 8 (by omega), majority_self]

/-- The samples of a character up to the ninth of its stop bit read as the character (R147). -/
theorem readSamples_of_bits (data : Byte) (mark stop : Bool) :
    readSamples (((bitsWithStop data mark stop).flatMap (List.replicate 16)).take 169) =
      if stop then .character data mark else .framingError mark := by
  have hbits : ((List.range 11).map fun b => sampledBit
      (((((bitsWithStop data mark stop).flatMap (List.replicate 16)).take 169).drop (16 * b)).take 16))
      = bitsWithStop data mark stop := by
    refine List.ext_getElem? fun b => ?_
    rw [List.getElem?_map]
    by_cases hb : b < 11
    · rw [List.getElem?_range hb, Option.map_some, sampledBit_of_samples rfl (by omega), List.getD_eq_getElem?_getD,
        List.getElem?_eq_getElem hb, Option.getD_some]
    · rw [List.getElem?_eq_none (by rw [List.length_range]; omega), List.getElem?_eq_none (Nat.not_lt.mp hb)]
      rfl
  rw [readSamples, show Config.bitsPerCharacter = 11 from rfl, hbits]
  have hdata : ((bitsWithStop data mark stop).drop 1).take 8 = (List.range 8).map fun i => data.getLsbD i := rfl
  rw [readBits, hdata, byteOfBits_eq]
  cases stop <;> rfl

/-- The samples of a character: its start bit's, those of the bits between, its stop bit's. -/
theorem samples_of_bits (data : Byte) (mark stop : Bool) : ∃ between : List Bool, between.length = 144 ∧
    (bitsWithStop data mark stop).flatMap (List.replicate 16)
      = List.replicate 16 false ++ (between ++ List.replicate 16 stop) := by
  refine ⟨((List.range 8).map (fun i => data.getLsbD i) ++ [mark]).flatMap (List.replicate 16), ?_, ?_⟩
  · simp [List.length_flatMap, Function.comp_def]
  · rw [bitsWithStop, show ([mark, stop] : List Bool) = [mark] ++ [stop] from rfl, List.cons_append, List.flatMap_cons,
      ← List.append_assoc, List.flatMap_append, List.flatMap_singleton]

/-- The samples of a whole character come to what the receiver makes of its reading (R147). -/
theorem RoofLink.foldl_character (hl : l.line ≠ .sending) (data : Byte) (mark stop : Bool) :
    ((bitsWithStop data mark stop).flatMap (List.replicate 16)).foldl (fun k x => k.sampleLine x) (l.marked .waitingStart true)
      = if stop then (l.marked .waitingStart true).receive data mark else (l.marked .waitingStart true).framingError mark := by
  obtain ⟨between, hlen, hsamples⟩ := samples_of_bits data mark stop
  let heard := List.replicate 15 false ++ (between ++ List.replicate 8 stop)
  have hheard : ([false] ++ heard).length = 168 := by
    simp only [heard, List.length_append, List.length_replicate, List.length_singleton, hlen]
  have hsplit : (bitsWithStop data mark stop).flatMap (List.replicate 16)
      = false :: (heard ++ stop :: List.replicate 7 stop) := by
    rw [hsamples, show List.replicate 16 stop = List.replicate 8 stop ++ stop :: List.replicate 7 stop from rfl,
      List.replicate_succ, List.cons_append]
    simp only [heard, List.append_assoc]
  have hread : ((bitsWithStop data mark stop).flatMap (List.replicate 16)).take 169 = [false] ++ heard ++ [stop] := by
    rw [hsplit, show false :: (heard ++ stop :: List.replicate 7 stop) = ([false] ++ heard ++ [stop]) ++ List.replicate 7 stop
      by simp only [List.append_assoc, List.cons_append, List.nil_append]]
    exact List.take_left' (by rw [List.length_append, hheard]; rfl)
  obtain ⟨w, hw⟩ := RoofLink.foldl_inCharacter hl heard [false] false (by omega) (.inr (.inr (by rfl)))
  rw [hsplit, List.foldl_cons, RoofLink.sampleLine_start hl, List.foldl_append, hw, List.foldl_cons,
    RoofLink.sampleLine_inCharacter hl, ← hread, RoofLink.takeSamples_read (by rw [hread, List.length_append, hheard]; rfl),
    readSamples_of_bits]
  cases stop with
  | true =>
    have hquiet := RoofLink.sampleLine_quiet (l := l.takeCharacter data mark) ((l.takeCharacter_line data mark).symm ▸ hl)
    simp only [if_true, RoofLink.marked_receive hl]
    exact RoofLink.foldl_fixed hquiet 7
  | false =>
    have hlow := RoofLink.sampleLine_stillLow (l := l.takeFramingError mark) hl
    simp only [Bool.false_eq_true, if_false, RoofLink.marked_framingError hl]
    exact RoofLink.foldl_fixed hlow 7

end

/-- The samples of the line at the part are those of its link (R147). -/
theorem State.foldl_sampleLine {s : State} (hr : s.resetHeld = false) (xs : List Bool) :
    xs.foldl State.sampleLine s = { s with link := xs.foldl (fun k x => k.sampleLine x) s.link } := by
  induction xs generalizing s with
  | nil => rfl
  | cons x xs ih =>
    have hstep : s.sampleLine x = { s with link := s.link.sampleLine x } := State.live_of_running hr _
    rw [List.foldl_cons, hstep]
    exact ih (s := { s with link := s.link.sampleLine x }) hr

/-- Settles O51: each event's own write, and the samples folded through the link. -/
theorem charactersAreTakenIntoTheReply : Obligations.CharactersAreTakenIntoTheReply := by
  intro s hr
  have hlive (f : RoofLink → RoofLink) : s.live (State.modifyLink f) = { s with link := f s.link } :=
    State.live_of_running hr _
  have hsample (high : Bool) : s.sampleLine high = { s with link := s.link.sampleLine high } := hlive _
  have hlink {l m : RoofLink} (h : l = m) : ({ s with link := l } : State) = { s with link := m } := by rw [h]
  refine ⟨fun hl => ?_, fun data mark => ⟨fun h => ?_, fun hl hw => ?_⟩, fun hl hw mark => ?_, fun hl hw => ⟨?_, ?_, ?_⟩,
    fun hl hw => ?_, fun hl high => ?_, fun hl hw hhigh => ?_⟩
  · exact congrArg Host.Outcome.next ((hlive _).trans (hlink (if_pos hl)))
  · exact congrArg Host.Outcome.next ((hlive _).trans (hlink (RoofLink.receive_deaf h data mark)))
  · refine congrArg Host.Outcome.next ((hlive _).trans (hlink ?_))
    rw [RoofLink.receive_listening hl hw, RoofLink.takeCharacter_cases]
    split_ifs <;> rfl
  · refine congrArg Host.Outcome.next ((hlive _).trans (hlink ?_))
    rw [RoofLink.framingError_listening hl hw, RoofLink.takeFramingError]
    have hbroken : (decide (s.link.line = .awaiting) && (mark || !s.link.reply.isEmpty) && decide (s.link.reply.length < 8))
        = decide (s.link.line = .awaiting ∧ (mark = true ∨ s.link.reply ≠ []) ∧ s.link.reply.length < 8) := by
      rw [Bool.eq_iff_iff]
      simp [and_assoc]
    rw [hbroken]
  · exact congrArg Host.Outcome.next ((hlive _).trans (hlink (RoofLink.lineHigh_of_waiting hl hw)))
  · refine congrArg Host.Outcome.next ((hlive _).trans (Eq.trans (hlink ?_) (hsample true).symm))
    rw [RoofLink.sampleLine, if_neg hl, hw]
    dsimp only
    rw [if_pos rfl, RoofLink.lineHigh_of_waiting hl hw]
  · refine (hsample false).trans (hlink ?_)
    rw [RoofLink.sampleLine, if_neg hl, hw]
    rfl
  · refine (hsample false).trans (hlink ?_)
    rw [RoofLink.sampleLine, if_neg hl, hw]
    cases hh : s.link.lineWasHigh <;> simp [hw]
  · exact (hsample high).trans (hlink (s.link.sampleLine_sending high hl))
  · have hwaiting : s.link = s.link.marked .waitingStart true := by rw [RoofLink.marked, ← hw, ← hhigh]
    refine ⟨fun data mark => ?_, fun n hn => ?_, fun data mark => ?_⟩
    · refine congrArg Host.Outcome.next ((hlive _).trans (Eq.trans (hlink ?_) (State.foldl_sampleLine hr _).symm))
      rw [hwaiting]
      exact (RoofLink.foldl_character hl data mark true).symm
    · refine (State.foldl_sampleLine hr _).trans (hlink ?_)
      rw [hwaiting]
      exact RoofLink.foldl_pulse hl hn
    · refine congrArg Host.Outcome.next ((hlive _).trans (Eq.trans (hlink ?_) (State.foldl_sampleLine hr _).symm))
      rw [hwaiting]
      exact (RoofLink.foldl_character hl data mark false).symm

end Sys2Proof.Machine


/-! The entry into a stop (R36) over a unit whose stages are in order: what it drains, how far top order carries it on, and
what becomes of a unit that retires in it. -/

namespace Sys2Proof.Machine

/-! ### The part of a permit in the commanded level -/

/-- What the commanded level and the order of stages read of a permit. -/
def Permit.role (p : Permit) : UnitNo × Nat × Bool := (p.unit, p.stage, p.state.commandedOn)

/-- Two states whose slots hold permits of the same roles. -/
def State.SameRoles (s t : State) : Prop :=
  ∀ i : SlotNo, t.slots[i].permit.map Permit.role = s.slots[i].permit.map Permit.role

theorem State.SameRoles.symm {s t : State} (h : s.SameRoles t) : t.SameRoles s := fun i => (h i).symm

theorem State.SameRoles.exists {s t : State} (h : s.SameRoles t) {i : SlotNo} {q : Permit}
    (hq : t.slots[i].permit = some q) : ∃ p, s.slots[i].permit = some p ∧ p.unit = q.unit ∧ p.stage = q.stage
      ∧ p.state.commandedOn = q.state.commandedOn := by
  have hi := h i
  rw [hq, Option.map_some] at hi
  obtain ⟨p, hp, hpq⟩ := Option.map_eq_some_iff.mp hi.symm
  simp only [Permit.role, Prod.mk.injEq] at hpq
  exact ⟨p, hp, hpq.1, hpq.2.1, hpq.2.2⟩

theorem State.SameRoles.level {s t : State} (h : s.SameRoles t) (u : UnitNo) : t.level u = s.level u := by
  have holds_of {a b : State} (hab : a.SameRoles b) (i : SlotNo) (hi : b.holds u (·.state.commandedOn) i = true) :
      a.holds u (·.state.commandedOn) i = true := by
    obtain ⟨q, hq, hqu, hon⟩ := (b.holds_iff u _ i).mp hi
    obtain ⟨p, hp, hpu, -, hpon⟩ := hab.exists hq
    exact (a.holds_iff u _ i).mpr ⟨p, hp, hpu.trans hqu, hpon.trans hon⟩
  exact congrArg List.length (State.slotsOf_congr u fun i =>
    Bool.eq_iff_iff.mpr ⟨holds_of h i, holds_of h.symm i⟩)

theorem State.SameRoles.inOrder {s t : State} (h : s.SameRoles t) {u : UnitNo} (ho : s.InOrder u) : t.InOrder u where
  distinct hp hq hpu hqu hk := by
    obtain ⟨p', hp', hpu', hpk', -⟩ := h.exists hp
    obtain ⟨q', hq', hqu', hqk', -⟩ := h.exists hq
    exact ho.distinct hp' hq' (hpu'.trans hpu) (hqu'.trans hqu) (by omega)
  on_iff hp hpu := by
    obtain ⟨p', hp', hpu', hpk', hon⟩ := h.exists hp
    rw [← hon, h.level, ← hpk']
    exact ho.on_iff hp' (hpu'.trans hpu)

theorem State.sameRoles_mapSlots {s : State} {c : SlotNo → Bool} {f : Slot → Slot}
    (h : ∀ i : SlotNo, c i = true → (f s.slots[i]).permit.map Permit.role = s.slots[i].permit.map Permit.role) :
    s.SameRoles (s.mapSlots c f) := fun i => by
  rw [s.slots_mapSlots]
  split
  · next hc => exact h i hc
  · rfl

theorem Slot.setReason_permit (r : StopReason) (sl : Slot) :
    (sl.setReason r).permit = sl.permit.map fun p => { p with reason := some r } := rfl

theorem Slot.setReason_role (r : StopReason) (sl : Slot) :
    (sl.setReason r).permit.map Permit.role = sl.permit.map Permit.role := by
  rw [Slot.setReason_permit, Option.map_map]
  rfl

/-- A STARTING or RUNNING permit stays commanded on in DRAINING (R24, R29). -/
theorem Slot.enterDraining_role {sl : Slot} {p : Permit} (hp : sl.permit = some p) (hs : p.state.commandedOn = true)
    (r : StopReason) (v : Nat) : (sl.enterDraining r v).permit.map Permit.role = sl.permit.map Permit.role := by
  rw [sl.enterDraining_permit, hp, Option.map_some, Option.map_some, Option.map_some, Permit.role, Permit.role, hs]
  rfl

theorem commandedOn_of_starting_or_running {st : PermitState} (h : st = .starting ∨ st = .running) :
    st.commandedOn = true := by
  rcases h with rfl | rfl <;> rfl

section

variable (s : State) (u : UnitNo)

/-- A STARTING or RUNNING permit among a set of stages (R36). -/
def Permit.stoppable (stages : Nat → Bool) (p : Permit) : Bool :=
  (decide (p.state = .starting) || decide (p.state = .running)) && stages p.stage

theorem Permit.stoppable_iff {stages : Nat → Bool} {p : Permit} : p.stoppable stages = true ↔
    (p.state = .starting ∨ p.state = .running) ∧ stages p.stage = true := by
  simp only [Permit.stoppable, Bool.and_eq_true, Bool.or_eq_true, decide_eq_true_eq]

theorem State.slots_drained (r : StopReason) (stages : Nat → Bool) (i : SlotNo) : (s.drained u r stages).slots[i] =
    if s.holds u (Permit.stoppable stages) i then s.slots[i].enterDraining r (s.minRun u) else s.slots[i] :=
  s.slots_mapSlots _ _ i

theorem State.drained_sameRoles (r : StopReason) (stages : Nat → Bool) : s.SameRoles (s.drained u r stages) :=
  State.sameRoles_mapSlots fun i hi => by
    obtain ⟨p, hp, -, hs⟩ := (s.holds_iff u (Permit.stoppable stages) i).mp hi
    exact Slot.enterDraining_role hp (commandedOn_of_starting_or_running (Permit.stoppable_iff.mp hs).1) r _

theorem State.replaceDraining_sameRoles (r : StopReason) : s.SameRoles (s.replaceDraining u r) := by
  rw [State.replaceDraining_eq]
  exact State.sameRoles_mapSlots fun i _ => Slot.setReason_role r _

/-! ### Retirement within a stop -/

/-- What stopping a unit's permits may do to its record: nothing, or complete its retirement (R17). -/
def State.KeptOrRetired (u : UnitNo) (s t : State) : Prop := t.units[u] = s.units[u]
  ∨ (s.status u).state = .retiring ∧ isWired u = true ∧ t.units[u] = .blank ∧ t.hasPermit u = false

theorem State.stopSlot_keptOrRetired (i : SlotNo) : s.KeptOrRetired u (s.stopSlot u i) := by
  unfold State.stopSlot State.restSlot
  split
  · next hw =>
    split
    · rcases s.freeSlot_units u i u with h | ⟨-, hr, hu, hno⟩
      · exact .inl h
      · exact .inr ⟨hr, hw, hu, hno⟩
    · exact .inl rfl
  · exact .inl rfl

theorem State.descend_keptOrRetired (n : Nat) : ∀ s : State, s.KeptOrRetired u (s.descend n u) := by
  induction n with
  | zero => exact fun s => .inl rfl
  | succ n ih =>
    intro s
    rcases s.descend_cases u n with h | ⟨i, -, -, -, -, -, -, h⟩ <;> rw [h]
    · exact .inl rfl
    · rcases s.stopSlot_keptOrRetired u i with h1 | ⟨h1, hw, hu, hno⟩
      · rcases ih (s.stopSlot u i) with h2 | ⟨h2, hw, hu, hno⟩
        · exact .inl (h2.trans h1)
        · refine .inr ⟨?_, hw, hu, hno⟩
          rw [State.status, ← h1]
          exact h2
      · have hend : (s.stopSlot u i).descend n u = s.stopSlot u i :=
          State.descend_of_level_zero n (State.level_of_noPermit _ u hno)
        rw [hend]
        exact .inr ⟨h1, hw, hu, hno⟩

theorem State.KeptOrRetired.of_withSlots {s t : State} {u : UnitNo} {v : Vector Slot 96}
    (h : (s.withSlots v).KeptOrRetired u t) : s.KeptOrRetired u t := h

theorem State.enterStop_keptOrRetired (r : StopReason) (stages : Nat → Bool) :
    s.KeptOrRetired u (s.enterStop u r stages) := by
  rw [State.enterStop_eq]
  exact State.KeptOrRetired.of_withSlots (State.descend_keptOrRetired u 4 (s.drained u r stages))

theorem State.withSlots_minOff (v : Vector Slot 96) : (s.withSlots v).minOff u = s.minOff u := rfl

theorem State.withSlots_stopped (v : Vector Slot 96) : (s.withSlots v).stopped u = s.stopped u :=
  State.stopped_congr u (s.withSlots_minOff u v) rfl

theorem State.mapSlots_stopped (c : SlotNo → Bool) (f : Slot → Slot) : (s.mapSlots c f).stopped u = s.stopped u :=
  s.withSlots_stopped u _

theorem State.drained_stopped (r : StopReason) (stages : Nat → Bool) : (s.drained u r stages).stopped u = s.stopped u :=
  s.mapSlots_stopped u _ _

/-- What the entry into a stop leaves of a slot: drained where it is of the set, and stopped where top order carries it
on (R36). -/
theorem State.enterStop_slots (r : StopReason) (stages : Nat → Bool) (i : SlotNo) :
    (s.enterStop u r stages).slots[i] = (s.drained u r stages).slots[i]
    ∨ (s.drained u r stages).holds u Permit.descends i = true
      ∧ (s.enterStop u r stages).slots[i] = s.stopped u (s.drained u r stages).slots[i] := by
  rw [State.enterStop_eq, ← s.drained_stopped u r stages]
  exact State.descend_slots 4 (s.drained u r stages) i

/-- The entry into a stop reaches the permits of the unit alone. -/
theorem State.enterStop_slots_other (r : StopReason) (stages : Nat → Bool) {i : SlotNo}
    (h : s.holds u (·.state.commandedOn) i = false) : (s.enterStop u r stages).slots[i] = s.slots[i] := by
  have hno {f : Permit → Bool} (hf : ∀ p, f p = true → p.state.commandedOn = true) : s.holds u f i = false :=
    Bool.eq_false_iff.mpr fun hh => by
      obtain ⟨p, hp, hu, hfp⟩ := (s.holds_iff u f i).mp hh
      rw [(s.holds_iff u (·.state.commandedOn) i).mpr ⟨p, hp, hu, hf p hfp⟩] at h
      cases h
  have hdrained : (s.drained u r stages).slots[i] = s.slots[i] := by
    rw [s.slots_drained, hno fun p hp => commandedOn_of_starting_or_running (Permit.stoppable_iff.mp hp).1]
    rfl
  rcases s.enterStop_slots u r stages i with h1 | ⟨hd, -⟩
  · exact h1.trans hdrained
  · rw [State.holds_congr u (congrArg Slot.permit hdrained) Permit.descends, hno fun p hp => ?_] at hd
    · cases hd
    · rw [of_decide_eq_true (Bool.and_eq_true_iff.mp hp).1]; rfl

variable {s u}

theorem State.InOrder.enterStop (h : s.InOrder u) (r : StopReason) (stages : Nat → Bool) :
    (s.enterStop u r stages).InOrder u ∧ (s.enterStop u r stages).level u ≤ s.level u := by
  have hroles := s.drained_sameRoles u r stages
  obtain ⟨ho, hle, -⟩ := (hroles.inOrder h).descend 4
  rw [State.enterStop_eq, ← hroles.level u]
  exact ⟨ho, hle⟩

end

end Sys2Proof.Machine


/-! LOCK, RETIRE and RELEASE UNIT over the permits of their unit (R15, R17, R18, R39). -/

namespace Sys2Proof.Machine

/-! ### The entries of a permit into a state, field by field (R29, R31, R34) -/

section

variable {sl : Slot} {p : Permit} {v : Nat}

theorem Slot.enterStopping_of (hp : sl.permit = some p) : sl.enterStopping v = { sl with
    counter := 0, aValue := v, aArmed := decide (0 < v), pArmed := false
    permit := some { p with state := .stopping, rotationDue := false } } := by
  simp [Slot.enterStopping, Slot.disarmP, Slot.loadA, hp]

theorem Slot.enterResting_of (hp : sl.permit = some p) : sl.enterResting v = { sl with
    counter := 0, aValue := v, aArmed := decide (0 < v), pArmed := false
    permit := some { p with state := .resting, rotationDue := false } } := by
  simp [Slot.enterResting, Slot.disarmP, Slot.loadA, hp]

theorem Slot.enterDraining_pValue (r : StopReason) : (sl.enterDraining r v).pValue = sl.pValue := by
  unfold Slot.enterDraining Slot.disarmP
  dsimp only
  split <;> rfl

theorem Slot.enterDraining_met (hp : sl.permit = some p) (h : p.minRunMet = true ∨ v ≤ sl.counter) (r : StopReason) :
    (sl.enterDraining r v).permit = some { p with
      state := .draining, reason := some r, minRunMet := true, rotationDue := false } := by
  have hmet : (p.minRunMet || decide (v ≤ sl.counter)) = true := by
    rw [Bool.or_eq_true, decide_eq_true_eq]
    exact h
  rw [sl.enterDraining_permit, hp, Option.map_some, hmet]

theorem Slot.enterDraining_unmet (hp : sl.permit = some p) (h : p.minRunMet = false) (hc : sl.counter < v)
    (r : StopReason) : sl.enterDraining r v = { sl with
      aValue := v, aArmed := true, pArmed := false
      permit := some { p with state := .draining, reason := some r, rotationDue := false } } := by
  have hno : decide (v ≤ sl.counter) = false := decide_eq_false (Nat.not_le.mpr hc)
  simp [Slot.enterDraining, Slot.disarmP, Slot.loadA, hp, h, hno, hc]

/-- A drained permit with its minimum run met, in STOPPING (R31). -/
theorem Slot.enterDraining_enterStopping (hp : sl.permit = some p) (h : p.minRunMet = true ∨ v ≤ sl.counter)
    (r : StopReason) (w : Nat) : (sl.enterDraining r v).enterStopping w = { sl with
      counter := 0, aValue := w, aArmed := decide (0 < w), pArmed := false
      permit := some { p with state := .stopping, reason := some r, minRunMet := true, rotationDue := false } } := by
  rw [Slot.enterStopping_of (Slot.enterDraining_met hp h r), Slot.enterDraining_pValue]

/-- A drained permit with its minimum run met, in RESTING (R34). -/
theorem Slot.enterDraining_enterResting (hp : sl.permit = some p) (h : p.minRunMet = true ∨ v ≤ sl.counter)
    (r : StopReason) (w : Nat) : (sl.enterDraining r v).enterResting w = { sl with
      counter := 0, aValue := w, aArmed := decide (0 < w), pArmed := false
      permit := some { p with state := .resting, reason := some r, minRunMet := true, rotationDue := false } } := by
  rw [Slot.enterResting_of (Slot.enterDraining_met hp h r), Slot.enterDraining_pValue]

end

section

variable (s : State) (u : UnitNo)

theorem State.stopped_of_linked (h : isWired u = false) (sl : Slot) :
    s.stopped u sl = sl.enterStopping s.site.complianceTimeout := if_neg (Bool.eq_false_iff.mp h)

theorem State.stopped_of_wired (h : isWired u = true) (hm : s.minOff u ≠ 0) (sl : Slot) :
    s.stopped u sl = sl.enterResting (s.minOff u) := (if_pos h).trans (if_neg hm)

theorem State.stopped_of_wired_free (h : isWired u = true) (hm : s.minOff u = 0) (sl : Slot) : s.stopped u sl = .free :=
  (if_pos h).trans (if_pos hm)

theorem State.level_le_four {s : State} (h : s.tablesSound) (u : UnitNo) : s.level u ≤ 4 := by
  obtain ⟨-, -, -, -, hb, ⟨-, hr⟩, -⟩ := h
  refine (hb u).trans ?_
  unfold State.stageCount
  cases hrec : s.record u with
  | none => exact Nat.zero_le 4
  | some r =>
    have hv := (hr u).2 r hrec
    simp only [UnitRecord.valid, inRange, Bool.and_eq_true, decide_eq_true_eq] at hv
    obtain ⟨⟨⟨⟨⟨⟨⟨-, h4⟩, -⟩, -⟩, -⟩, -⟩, -⟩, -⟩ := hv
    exact h4

theorem State.tablesSound_inOrder {s : State} (h : s.tablesSound) (u : UnitNo) : s.InOrder u :=
  State.inOrder_of_sound s h.2.1 h.2.2.1 u

/-! ### LOCK and RETIRE UNIT (R15, R17) -/

/-- The permits of a unit as LOCK and RETIRE UNIT drain them, before top order. -/
def State.wound (u : UnitNo) (st : UnitState) (r : StopReason) (s : State) : State :=
  ((s.modifyStatus u fun x => { x with state := st }).replaceDraining u r).drained u r fun _ => true

theorem State.woundDown_eq (st : UnitState) (r : StopReason) :
    s.woundDown u st r = ((s.wound u st r).topOrder u).handOver u (s.level u) := by
  unfold State.woundDown State.wound
  rw [State.enterStop_eq]

theorem State.replaceDraining_slots (r : StopReason) (i : SlotNo) : (s.replaceDraining u r).slots[i] =
    if s.holds u (fun p => decide (p.state = .draining)) i then s.slots[i].setReason r else s.slots[i] := by
  rw [State.replaceDraining_eq]
  exact s.slots_mapSlots _ _ i

theorem State.modifyStatus_minRun (f : UnitStatus → UnitStatus) : (s.modifyStatus u f).minRun u = s.minRun u := by
  rw [State.minRun, s.record_modifyStatus]; rfl

theorem State.modifyStatus_minOff (f : UnitStatus → UnitStatus) : (s.modifyStatus u f).minOff u = s.minOff u := by
  rw [State.minOff, s.record_modifyStatus]; rfl

theorem State.withSlots_minRun (v : Vector Slot 96) : (s.withSlots v).minRun u = s.minRun u := rfl

theorem State.replaceDraining_minRun (r : StopReason) : (s.replaceDraining u r).minRun u = s.minRun u := by
  rw [State.replaceDraining_eq]
  exact s.withSlots_minRun u _

theorem State.wound_sameRoles (st : UnitState) (r : StopReason) : s.SameRoles (s.wound u st r) := fun i =>
  (State.drained_sameRoles _ u r _ i).trans (State.replaceDraining_sameRoles (s.modifyStatus u _) u r i)

theorem State.modifyStatus_stopped (f : UnitStatus → UnitStatus) : (s.modifyStatus u f).stopped u = s.stopped u :=
  State.stopped_congr u (s.modifyStatus_minOff u f) rfl

theorem State.wound_stopped (st : UnitState) (r : StopReason) : (s.wound u st r).stopped u = s.stopped u := by
  unfold State.wound
  rw [State.drained_stopped, State.replaceDraining_eq, State.mapSlots_stopped, State.modifyStatus_stopped]

/-- A DRAINING permit takes the reason, a STARTING or RUNNING one drains with it, any other is left (R15, R17). -/
theorem State.wound_slots (st : UnitState) (r : StopReason) {i : SlotNo} {p : Permit} (hp : s.slots[i].permit = some p) :
    (s.wound u st r).slots[i] =
      if p.unit = u ∧ p.state = .draining then s.slots[i].setReason r
      else if p.unit = u ∧ (p.state = .starting ∨ p.state = .running) then s.slots[i].enterDraining r (s.minRun u)
      else s.slots[i] := by
  let a := s.modifyStatus u fun x => { x with state := st }
  have hpa : a.slots[i].permit = some p := hp
  have hmin : (a.replaceDraining u r).minRun u = s.minRun u :=
    (a.replaceDraining_minRun u r).trans (s.modifyStatus_minRun u _)
  have hb := a.replaceDraining_slots u r i
  have hdrain : a.holds u (fun p => decide (p.state = .draining)) i = decide (p.unit = u ∧ p.state = .draining) := by
    rw [State.holds_eq_any, hpa, Option.any_some, Bool.decide_and]
  rw [hdrain] at hb
  show ((a.replaceDraining u r).drained u r fun _ => true).slots[i] = _
  rw [State.slots_drained, hmin]
  by_cases h : p.unit = u ∧ p.state = .draining
  · rw [if_pos (decide_eq_true h)] at hb
    have hno : (a.replaceDraining u r).holds u (Permit.stoppable fun _ => true) i = false := by
      rw [State.holds_eq_any, hb, Slot.setReason_permit, hpa, Option.map_some, Option.any_some, Permit.stoppable, h.2]
      simp
    rw [if_neg (Bool.eq_false_iff.mp hno), if_pos h, hb]
    rfl
  · rw [if_neg (by simpa using h)] at hb
    have hstop : (a.replaceDraining u r).holds u (Permit.stoppable fun _ => true) i = true ↔
        p.unit = u ∧ (p.state = .starting ∨ p.state = .running) := by
      rw [State.holds_eq_any, hb, hpa, Option.any_some, Bool.and_eq_true, decide_eq_true_eq, Permit.stoppable_iff]
      exact ⟨fun h => ⟨h.1, h.2.1⟩, fun h => ⟨h.1, h.2, rfl⟩⟩
    rw [if_neg h, hb]
    by_cases h2 : p.unit = u ∧ (p.state = .starting ∨ p.state = .running)
    · rw [if_pos h2, if_pos (hstop.mpr h2)]; rfl
    · rw [if_neg h2, if_neg fun hh => h2 (hstop.mp hh)]; rfl

/-- What LOCK and RETIRE UNIT make of a commanded-on permit before top order (R15, R17, R29). -/
theorem State.wound_permit (st : UnitState) (r : StopReason) {i : SlotNo} {p : Permit} (hp : s.slots[i].permit = some p)
    (hu : p.unit = u) (hon : p.state.commandedOn = true) : ∃ q, (s.wound u st r).slots[i].permit = some q
      ∧ (q.unit = u ∧ q.stage = p.stage ∧ q.rating = p.rating ∧ q.origin = p.origin ∧ q.reason = some r)
      ∧ q.state = .draining
      ∧ (q.minRunMet = true ↔ p.minRunMet = true ∨ p.state ≠ .draining ∧ s.minRun u ≤ s.slots[i].counter)
      ∧ q.rotationDue = (p.rotationDue && decide (p.state = .draining))
      ∧ (s.wound u st r).slots[i].counter = s.slots[i].counter := by
  rw [s.wound_slots u st r hp]
  by_cases hd : p.state = .draining
  · rw [if_pos ⟨hu, hd⟩, Slot.setReason_permit, hp, Option.map_some]
    exact ⟨_, rfl, ⟨hu, rfl, rfl, rfl, rfl⟩, hd, by simp [hd], by simp [hd], rfl⟩
  · have hsr : p.state = .starting ∨ p.state = .running := by
      cases hst : p.state <;> simp_all [PermitState.commandedOn]
    rw [if_neg fun h => hd h.2, if_pos ⟨hu, hsr⟩, Slot.enterDraining_permit, hp, Option.map_some]
    refine ⟨_, rfl, ⟨hu, rfl, rfl, rfl, rfl⟩, rfl, ?_, by simp [hd], Slot.enterDraining_counter _ _ r⟩
    rw [Bool.or_eq_true, decide_eq_true_eq]
    exact ⟨fun h => h.imp id fun h => ⟨hd, h⟩, fun h => h.imp id fun h => h.2⟩

/-- Top order over a unit whose stages are in order, at most four of them on (R30). -/
theorem State.InOrder.topOrder {s : State} {u : UnitNo} (h : s.InOrder u) (h4 : s.level u ≤ 4) :
    (s.topOrder u).InOrder u ∧ ∀ (i : SlotNo) (p : Permit), s.slots[i].permit = some p → p.unit = u →
      p.stage + 1 = (s.topOrder u).level u → p.descends = false :=
  have hd := h.descend 4
  ⟨hd.1, hd.2.2 h4⟩

theorem State.topOrder_slots (i : SlotNo) : (s.topOrder u).slots[i] = s.slots[i]
    ∨ s.holds u Permit.descends i = true ∧ (s.topOrder u).slots[i] = s.stopped u s.slots[i] :=
  State.descend_slots 4 s i

/-- A commanded-on permit behind top order is as it was before it. -/
theorem State.topOrder_on {i : SlotNo} {q : Permit} (hq : (s.topOrder u).slots[i].permit = some q)
    (hon : q.state.commandedOn = true) : (s.topOrder u).slots[i] = s.slots[i] := by
  rcases s.topOrder_slots u i with h | ⟨h, h'⟩
  · exact h
  · obtain ⟨x, hx, -, -⟩ := (s.holds_iff u _ i).mp h
    rw [(State.stopped_off hx (h' ▸ hq)).2.1] at hon
    cases hon

/-- A permit left in DRAINING with its minimum run met waits below one whose minimum run is not met, where every
commanded-on permit drains (R30). -/
theorem State.InOrder.topOrder_waitsBelow {s : State} {u : UnitNo} (h : s.InOrder u) (h4 : s.level u ≤ 4)
    (hall : ∀ (j : SlotNo) (p : Permit), s.slots[j].permit = some p → p.unit = u → p.state.commandedOn = true →
      p.state = .draining) {i : SlotNo} {q : Permit} (hq : (s.topOrder u).slots[i].permit = some q) (hu : q.unit = u)
    (hd : q.descends = true) : ∃ (j : SlotNo) (above : Permit), (s.topOrder u).slots[j].permit = some above
      ∧ above.unit = u ∧ q.stage < above.stage ∧ above.state = .draining ∧ above.minRunMet = false := by
  obtain ⟨hend, hstop⟩ := h.topOrder h4
  have hqs : q.state = .draining := of_decide_eq_true (Bool.and_eq_true_iff.mp hd).1
  have hlevel := (hend.on_iff hq hu).mp (by rw [hqs]; rfl)
  obtain ⟨j, above, hj, hju, hjk, hjon⟩ := hend.exists_on (k := (s.topOrder u).level u - 1) (by omega)
  have hx : s.slots[j].permit = some above := (s.topOrder_on u hj hjon) ▸ hj
  have hno := hstop j above hx hju (by omega)
  have hst := hall j above hx hju hjon
  have hmet : above.minRunMet = false := by
    rw [Permit.descends, hst] at hno
    exact hno
  refine ⟨j, above, hj, hju, ?_, hst, hmet⟩
  have hne : q.stage ≠ above.stage := fun h => by
    obtain rfl := hend.distinct hq hj hu hju h
    cases hq.symm.trans hj
    rw [hd] at hno
    cases hno
  omega

theorem State.wound_topOrder_slots (st : UnitState) (r : StopReason) (i : SlotNo) :
    ((s.wound u st r).topOrder u).slots[i] = (s.wound u st r).slots[i]
    ∨ (s.wound u st r).holds u Permit.descends i = true
      ∧ ((s.wound u st r).topOrder u).slots[i] = s.stopped u (s.wound u st r).slots[i] := by
  rw [← s.wound_stopped u st r]
  exact (s.wound u st r).topOrder_slots u i

/-- Slots that do not hold a commanded-on permit of the unit are left (R15, R17). -/
theorem State.wound_topOrder_other (st : UnitState) (r : StopReason) {i : SlotNo} {p : Permit}
    (hp : s.slots[i].permit = some p) (h : ¬(p.unit = u ∧ p.state.commandedOn = true)) :
    ((s.wound u st r).topOrder u).slots[i] = s.slots[i] := by
  have hx : (s.wound u st r).slots[i] = s.slots[i] := by
    rw [s.wound_slots u st r hp, if_neg fun hh => h ⟨hh.1, by rw [hh.2]; rfl⟩,
      if_neg fun hh => h ⟨hh.1, commandedOn_of_starting_or_running hh.2⟩]
  rcases s.wound_topOrder_slots u st r i with h1 | ⟨h1, -⟩
  · exact h1.trans hx
  · obtain ⟨q, hq, hqu, hqd⟩ := ((s.wound u st r).holds_iff u _ i).mp h1
    rw [hx, hp] at hq
    cases hq
    refine absurd ⟨hqu, ?_⟩ h
    rw [of_decide_eq_true (Bool.and_eq_true_iff.mp hqd).1]; rfl

theorem State.handOver_slots (n : Nat) : (s.handOver u n).slots = s.slots := by
  unfold State.handOver; split
  · rfl
  · exact s.joinUrgent_slots u

theorem State.joinUrgent_units : (s.joinUrgent u).units = s.units := by
  unfold State.joinUrgent; split <;> rfl

theorem State.handOver_units (n : Nat) : (s.handOver u n).units = s.units := by
  unfold State.handOver; split
  · rfl
  · exact s.joinUrgent_units u

theorem State.mem_joinUrgent (hw : isWired u = false) (hc : s.configured u = true) : u ∈ (s.joinUrgent u).link.urgent := by
  rw [s.joinUrgent_eq u hc]
  by_cases h : u ∈ s.link.urgent <;> simp [hw, h]

theorem State.mem_handOver (hw : isWired u = false) (hc : s.configured u = true) {n : Nat} (hn : s.level u ≠ n) :
    u ∈ (s.handOver u n).link.urgent := by
  rw [State.handOver, if_neg hn]
  exact s.mem_joinUrgent u hw hc

theorem State.withSlots_units (v : Vector Slot 96) : (s.withSlots v).units = s.units := rfl

theorem State.replaceDraining_units (r : StopReason) : (s.replaceDraining u r).units = s.units := by
  rw [State.replaceDraining_eq]
  exact s.withSlots_units _

/-- The record of the unit behind LOCK and RETIRE UNIT's stop: under its new state, or retired (R15, R17). -/
theorem State.woundDown_units (st : UnitState) (r : StopReason) :
    (s.woundDown u st r).units[u] = { s.units[u] with status := { s.status u with state := st } }
    ∨ st = .retiring ∧ isWired u = true ∧ (s.woundDown u st r).units[u] = .blank
      ∧ (s.woundDown u st r).hasPermit u = false := by
  let a := s.modifyStatus u fun x => { x with state := st }
  have ha : a.units[u] = { s.units[u] with status := { s.status u with state := st } } :=
    (s.units_modifyStatus u _ u).trans (if_pos rfl)
  have hb : (a.replaceDraining u r).units[u] = a.units[u] := by rw [a.replaceDraining_units]
  have hst : ((a.replaceDraining u r).status u).state = st := by
    rw [State.status, hb, ha]
  have hand : (s.woundDown u st r).units = ((a.replaceDraining u r).enterStop u r fun _ => true).units :=
    State.handOver_units _ u _
  have hslots : (s.woundDown u st r).slots = ((a.replaceDraining u r).enterStop u r fun _ => true).slots :=
    State.handOver_slots _ u _
  rw [hand]
  rcases (a.replaceDraining u r).enterStop_keptOrRetired u r fun _ => true with h | ⟨h, hw, hu, hno⟩
  · exact .inl (h.trans (hb.trans ha))
  · refine .inr ⟨hst.symm.trans h, hw, hu, ?_⟩
    rw [State.hasPermit] at hno ⊢
    unfold State.holds at hno ⊢
    rw [hslots]
    exact hno

/-- The end of LOCK and RETIRE UNIT: the entry off the queue, and a retirement that finds no permit (R15, R17). -/
def State.leaveQueue (u : UnitNo) (s : State) : State := (s.dequeue u).retireIfEmpty u

theorem State.woundDown_state (st : UnitState) (r : StopReason) : ((s.woundDown u st r).status u).state = st
    ∨ st = .retiring ∧ isWired u = true ∧ (s.woundDown u st r).units[u] = .blank
      ∧ (s.woundDown u st r).hasPermit u = false := by
  rcases s.woundDown_units u st r with h | h
  · exact .inl (by rw [State.status, h])
  · exact .inr h

/-- Without a working ACTIVE unit the desire step removes the entry (R12). -/
theorem State.windDown_of_not_active {st : UnitState} (r : StopReason) (h : st ≠ .active) :
    s.windDown u st r = (s.woundDown u st r).dequeue u := by
  refine (s.windDown_eq u st r).trans (State.desireStep_of_not_wants _ u (State.wants_of_not_active _ u ?_))
  rcases s.woundDown_state u st r with h' | ⟨-, -, h', -⟩
  · rw [h']; exact h
  · rw [State.status, h']; decide

theorem State.retireIfEmpty_cases : s.retireIfEmpty u = s ∨ (s.status u).state = .retiring ∧ s.hasPermit u = false
    ∧ s.retireIfEmpty u = s.completeRetirement u := by
  by_cases hr : (s.status u).state = .retiring
  · cases hno : s.hasPermit u with
    | false => exact .inr ⟨hr, rfl, s.retireIfEmpty_of_noPermit u hr hno⟩
    | true => exact .inl (s.retireIfEmpty_of_hasPermit u hno)
  · exact .inl (s.retireIfEmpty_of_not_retiring u hr)

theorem State.hasPermit_of_slots {s t : State} (h : t.slots = s.slots) (u : UnitNo) : t.hasPermit u = s.hasPermit u := by
  unfold State.hasPermit State.holds
  rw [h]

theorem State.level_of_slots {s t : State} (h : t.slots = s.slots) (u : UnitNo) : t.level u = s.level u :=
  State.level_congr u fun i => by rw [h]

theorem State.leaveQueue_slots : (s.leaveQueue u).slots = s.slots := (s.dequeue u).retireIfEmpty_slots u

theorem State.leaveQueue_queue : (s.leaveQueue u).queue = s.queue.filter fun e => decide (e.unit ≠ u) :=
  ((s.dequeue u).retireIfEmpty_aside u).queue

/-- The record is left, or the retirement is complete (R17). -/
theorem State.leaveQueue_units : (s.leaveQueue u).units[u] = s.units[u] ∨ (s.status u).state = .retiring
    ∧ (s.leaveQueue u).units[u] = .blank ∧ (s.leaveQueue u).hasPermit u = false := by
  rcases (s.dequeue u).retireIfEmpty_cases u with h | ⟨hr, hno, h⟩
  · exact .inl (by rw [State.leaveQueue, h]; rfl)
  · refine .inr ⟨hr, ?_, (State.hasPermit_of_slots (s.leaveQueue_slots u) u).trans hno⟩
    rw [State.leaveQueue, h, State.completeRetirement_units, if_pos rfl]

theorem State.leaveQueue_urgent (h : u ∈ s.link.urgent) (hp : s.hasPermit u = true) :
    u ∈ (s.leaveQueue u).link.urgent := by
  rw [State.leaveQueue, (s.dequeue u).retireIfEmpty_of_hasPermit u hp]
  exact h

theorem State.woundDown_slots (st : UnitState) (r : StopReason) :
    (s.woundDown u st r).slots = ((s.wound u st r).topOrder u).slots := by
  rw [State.woundDown_eq]
  exact State.handOver_slots _ u _

/-- A linked unit keeps its permits in a stop (R31). -/
theorem State.woundDown_hasPermit {st : UnitState} (r : StopReason) (hw : isWired u = false)
    (h : s.hasPermit u = true) : (s.woundDown u st r).hasPermit u = true := by
  refine Bool.not_eq_false _ |>.mp fun hno => Bool.eq_false_iff.mp ((s.hasPermit_eq_false_iff u).mpr ?_) h
  intro i p hp hu
  obtain ⟨q, hq, hqu⟩ : ∃ q, ((s.wound u st r).topOrder u).slots[i].permit = some q ∧ q.unit = u := by
    by_cases hon : p.state.commandedOn = true
    · obtain ⟨q, hq, ⟨hqu, -⟩, -⟩ := s.wound_permit u st r hp hu hon
      rcases s.wound_topOrder_slots u st r i with h | ⟨-, h⟩ <;> rw [h]
      · exact ⟨q, hq, hqu⟩
      · rw [s.stopped_of_linked u hw, Slot.enterStopping_permit, hq]
        exact ⟨_, rfl, hqu⟩
    · exact ⟨p, (congrArg Slot.permit (s.wound_topOrder_other u st r hp fun h => hon h.2)).trans hp, hu⟩
  exact (State.hasPermit_eq_false_iff _ u).mp hno i q ((congrArg Slot.permit (by rw [State.woundDown_slots])).trans hq) hqu

theorem State.lockUnit_of_active (h : (s.status u).state = .active) :
    s.lockUnit u = ((s.woundDown u .locked .locked).leaveQueue u, .bare .ok) := by
  have hret : (s.woundDown u .locked .locked).leaveQueue u = (s.woundDown u .locked .locked).dequeue u := by
    have hstate := s.woundDown_state u .locked .locked
    generalize s.woundDown u .locked .locked = w at hstate
    refine State.retireIfEmpty_of_not_retiring (w.dequeue u) u fun hr => ?_
    rcases hstate with h | ⟨h, -⟩
    · cases h.symm.trans hr
    · cases h
  rw [hret, ← s.windDown_of_not_active u .locked (st := .locked) (by decide)]
  simp only [State.lockUnit, h]

theorem State.retireUnit_of_configured (h : (s.status u).state = .active ∨ (s.status u).state = .locked) :
    s.retireUnit u = ((s.woundDown u .retiring .retired).leaveQueue u, .bare .ok) := by
  unfold State.leaveQueue
  rw [← s.windDown_of_not_active u .retired (st := .retiring) (by decide)]
  rcases h with h | h <;> simp only [State.retireUnit, h]

/-- A linked unit whose level falls is handed over (R24). -/
theorem State.woundDown_urgent {st : UnitState} (r : StopReason) (hst : st ≠ .unconfigured) (hw : isWired u = false)
    (hl : (s.woundDown u st r).level u ≠ s.level u) :
    u ∈ (s.woundDown u st r).link.urgent ∧ (s.woundDown u st r).hasPermit u = true := by
  have hperm : s.hasPermit u = true := Bool.not_eq_false _ |>.mp fun hno => hl (by
    rw [s.woundDown_of_noPermit u hno]
    rfl)
  refine ⟨?_, s.woundDown_hasPermit u r hw hperm⟩
  rw [State.level_of_slots (s.woundDown_slots u st r)] at hl
  have hstate : ((s.woundDown u st r).status u).state = st := by
    rcases s.woundDown_state u st r with h | ⟨-, h, -⟩
    · exact h
    · rw [hw] at h; cases h
  rw [State.woundDown_eq] at hstate ⊢
  generalize (s.wound u st r).topOrder u = y at hstate hl
  refine y.mem_handOver u hw ?_ hl
  rw [State.status, y.handOver_units u] at hstate
  exact decide_eq_true fun h => hst (hstate.symm.trans h)

/-- What LOCK and RETIRE UNIT make of a commanded-on permit whose minimum run is met (R29, R30, R31, R35). -/
theorem State.wound_topOrder_met (st : UnitState) (r : StopReason) {i : SlotNo} {p : Permit}
    (hp : s.slots[i].permit = some p) (hu : p.unit = u) (hon : p.state.commandedOn = true)
    (hmet : p.minRunMet = true ∨ p.state ≠ .draining ∧ s.minRun u ≤ s.slots[i].counter) {t : State}
    (ht : t.slots = ((s.wound u st r).topOrder u).slots) :
    (isWired u = true ∧ s.minOff u = 0 ∧ t.slots[i] = Slot.free)
    ∨ ∃ q, t.slots[i].permit = some q ∧ q.unit = u ∧ q.stage = p.stage ∧ q.rating = p.rating
      ∧ q.origin = p.origin ∧ q.reason = some r ∧ q.minRunMet = true
      ∧ q.rotationDue = (p.rotationDue && decide (p.state = .draining) && decide (q.state = .draining))
      ∧ (q.state = .stopping ∧ isWired u = false ∧ t.slots[i].counter = 0
          ∧ t.slots[i].aValue = s.site.complianceTimeout
        ∨ q.state = .resting ∧ isWired u = true ∧ t.slots[i].counter = 0 ∧ t.slots[i].aValue = s.minOff u
        ∨ q.state = .draining ∧ t.slots[i].counter = s.slots[i].counter
          ∧ (s.tablesSound → ∃ (j : SlotNo) (above : Permit), t.slots[j].permit = some above ∧ above.unit = u
            ∧ q.stage < above.stage ∧ above.state = .draining ∧ above.minRunMet = false)) := by
  obtain ⟨q, hq, ⟨hqu, hqk, hqr, hqo, hqreason⟩, hqs, hqmet, hqdue, hcounter⟩ := s.wound_permit u st r hp hu hon
  have hqmet := hqmet.mpr hmet
  have hroles := s.wound_sameRoles u st r
  have hall : ∀ (j : SlotNo) (x : Permit), (s.wound u st r).slots[j].permit = some x → x.unit = u →
      x.state.commandedOn = true → x.state = .draining := fun j x hx hxu hxon => by
    obtain ⟨y, hy, hyu, -, hyon⟩ := hroles.exists hx
    obtain ⟨z, hz, -, hzs, -⟩ := s.wound_permit u st r hy (hyu.trans hxu) (hyon.trans hxon)
    cases hx.symm.trans hz
    exact hzs
  have hcases := s.wound_topOrder_slots u st r i
  generalize s.wound u st r = x at ht hq hcounter hroles hall hcases
  rw [ht]
  rcases hcases with h | ⟨-, h⟩
  · rw [h]
    refine .inr ⟨q, hq, hqu, hqk, hqr, hqo, hqreason, hqmet, by rw [hqdue, hqs, decide_eq_true rfl, Bool.and_true],
      .inr (.inr ⟨hqs, hcounter, fun hs => ?_⟩)⟩
    refine (hroles.inOrder (State.tablesSound_inOrder hs u)).topOrder_waitsBelow
      ((hroles.level u).trans_le (State.level_le_four hs u)) hall (i := i) ((congrArg Slot.permit h).trans hq) hqu ?_
    rw [Permit.descends, hqs, hqmet]; rfl
  · rw [h]
    cases hw : isWired u with
    | false =>
      rw [s.stopped_of_linked u hw, Slot.enterStopping_of hq]
      exact .inr ⟨_, rfl, hqu, hqk, hqr, hqo, hqreason, hqmet, by simp, .inl ⟨rfl, rfl, rfl, rfl⟩⟩
    | true =>
      by_cases hoff : s.minOff u = 0
      · exact .inl ⟨rfl, hoff, s.stopped_of_wired_free u hw hoff _⟩
      · rw [s.stopped_of_wired u hw hoff, Slot.enterResting_of hq]
        exact .inr ⟨_, rfl, hqu, hqk, hqr, hqo, hqreason, hqmet, by simp, .inr (.inl ⟨rfl, rfl, rfl, rfl⟩)⟩

/-- What LOCK and RETIRE UNIT make of a commanded-on permit whose minimum run is not met (R29). -/
theorem State.wound_topOrder_unmet (st : UnitState) (r : StopReason) {i : SlotNo} {p : Permit}
    (hp : s.slots[i].permit = some p) (hu : p.unit = u) (hon : p.state.commandedOn = true)
    (hmet : ¬(p.minRunMet = true ∨ p.state ≠ .draining ∧ s.minRun u ≤ s.slots[i].counter)) :
    ((s.wound u st r).topOrder u).slots[i] = if p.state = .draining then
        { s.slots[i] with permit := some { p with reason := some r } }
      else { s.slots[i] with
        aValue := s.minRun u, aArmed := true, pArmed := false
        permit := some { p with state := .draining, reason := some r, rotationDue := false } } := by
  obtain ⟨q, hq, -, -, hqmet, -⟩ := s.wound_permit u st r hp hu hon
  have hstay : ((s.wound u st r).topOrder u).slots[i] = (s.wound u st r).slots[i] := by
    rcases s.wound_topOrder_slots u st r i with h | ⟨h, -⟩
    · exact h
    · obtain ⟨x, hx, -, hxd⟩ := ((s.wound u st r).holds_iff u _ i).mp h
      cases hq.symm.trans hx
      exact absurd (hqmet.mp (Bool.and_eq_true_iff.mp hxd).2) hmet
  have hno : p.minRunMet = false := Bool.eq_false_iff.mpr fun h => hmet (.inl h)
  rw [hstay, s.wound_slots u st r hp]
  by_cases hd : p.state = .draining
  · rw [if_pos ⟨hu, hd⟩, if_pos hd, Slot.setReason, hp]
    rfl
  · have hsr : p.state = .starting ∨ p.state = .running := by
      cases hst : p.state <;> simp_all [PermitState.commandedOn]
    have hc : s.slots[i].counter < s.minRun u := Nat.lt_of_not_le fun h => hmet (.inr ⟨hd, h⟩)
    rw [if_neg fun h => hd h.2, if_pos ⟨hu, hsr⟩, if_neg hd, Slot.enterDraining_unmet hp hno hc]

end

/-- LOCK and RETIRE UNIT of a unit in force (R15, R17). -/
theorem exec_standDown {s : State} {b : Byte} {u : UnitNo} {c : Sys2Proof.Instr} {st : UnitState} {r : StopReason}
    (hb : names b u) (hopen : s.portShut = false)
    (h : c = .lockUnit b ∧ st = .locked ∧ r = .locked ∧ (s.status u).state = .active
      ∨ c = .retireUnit b ∧ st = .retiring ∧ r = .retired
        ∧ ((s.status u).state = .active ∨ (s.status u).state = .locked)) :
    ∃ bytes, exec c s = .next ((((s.buffered bytes).woundDown u st r).leaveQueue u).latch (.bare .ok)) := by
  rcases h with ⟨rfl, rfl, rfl, hst⟩ | ⟨rfl, rfl, rfl, hst⟩
  · refine ⟨[0x13#8, b], congrArg Host.Outcome.next
      ((State.serve_withUnit hopen (by simp [Config.bufferCapacity]) hb _).trans ?_)⟩
    rw [(s.buffered [0x13#8, b]).lockUnit_of_active u hst]
  · refine ⟨[0x15#8, b], congrArg Host.Outcome.next
      ((State.serve_withUnit hopen (by simp [Config.bufferCapacity]) hb _).trans ?_)⟩
    rw [(s.buffered [0x15#8, b]).retireUnit_of_configured u hst]

/-- Settles O26: the drained permits, as far as top order carries them. -/
theorem lockAndRetireStopEveryStage : Obligations.LockAndRetireStopEveryStage := by
  intro s b u c st r hb hopen hc
  obtain ⟨bytes, hexec⟩ := exec_standDown hb hopen hc
  have hst : st ≠ .unconfigured := by
    rcases hc with ⟨-, rfl, -⟩ | ⟨-, rfl, -⟩ <;> decide
  have hslots := (s.buffered bytes).woundDown_slots u st r
  have hqueue := ((s.buffered bytes).woundDown_aside u st r).queue
  have hstate := (s.buffered bytes).woundDown_state u st r
  have hurgent := fun hw hl => (s.buffered bytes).woundDown_urgent u r hst hw hl
  generalize (s.buffered bytes).woundDown u st r = w at hexec hslots hqueue hstate hurgent
  refine ⟨_, hexec, ?_, ?_, fun hw hl => ?_, fun i p hp => ?_⟩
  · show ((w.leaveQueue u).status u).state = st
      ∨ st = .retiring ∧ (w.leaveQueue u).units[u] = .blank ∧ (w.leaveQueue u).hasPermit u = false
    rcases w.leaveQueue_units u with h | ⟨h, hblank, hno⟩
    · rw [State.status, h, State.hasPermit_of_slots (w.leaveQueue_slots u)]
      exact hstate.imp id fun ⟨h1, _, h2, h3⟩ => ⟨h1, h2, h3⟩
    · exact .inr ⟨hstate.elim (fun h' => h'.symm.trans h) And.left, hblank, hno⟩
  · exact (w.leaveQueue_queue u).trans (congrArg _ hqueue)
  · have hlevel : w.level u ≠ s.level u := fun h => hl ((State.level_of_slots (w.leaveQueue_slots u) u).trans h)
    obtain ⟨hmem, hno⟩ := hurgent hw hlevel
    exact w.leaveQueue_urgent u hmem hno
  · have hlast : ((w.leaveQueue u).latch (.bare .ok)).slots = (((s.buffered bytes).wound u st r).topOrder u).slots :=
      (w.leaveQueue_slots u).trans hslots
    split
    · next h =>
      split
      · next hmet => exact (s.buffered bytes).wound_topOrder_met u st r hp h.1 h.2 hmet hlast
      · next hmet =>
        have hunmet := (s.buffered bytes).wound_topOrder_unmet u st r hp h.1 h.2 hmet
        rw [← hlast] at hunmet
        split
        · next hd => exact hunmet.trans (if_pos hd)
        · next hd => exact hunmet.trans (if_neg hd)
    · next h =>
      have hother := (s.buffered bytes).wound_topOrder_other u st r hp h
      rw [← hlast] at hother
      exact hother

end Sys2Proof.Machine


/-! What the desire step can reach: the queue, and one grant in the head slot of the free list (R99, R112). RELEASE UNIT,
whose desire step grants nothing (R18, R39). -/

namespace Sys2Proof.Machine

section

variable (s : State) (u : UnitNo)

/-! ### A pass and the desire step, by what they grant -/

theorem State.admissionPass_cases : (∃ q, s.admissionPass = s.withQueue q)
    ∨ ∃ e ∈ s.queue, s.obstacle e = none ∧ ∃ q, s.admissionPass = (s.createGrant e.unit).withQueue q := by
  unfold State.admissionPass
  dsimp only
  split
  · exact .inl ⟨_, rfl⟩
  · next e he => exact .inr ⟨e, (s.walk_granted he).1, (s.walk_granted he).2, _, rfl⟩

/-- A change of the queue and of the notices alone, or one grant with it. -/
def State.QueueStep (s t : State) : Prop := ∃ (b : Bool) (q : List QueueEntry),
  t = (s.raiseIf b .queueFull).withQueue q
    ∨ ∃ e, s.obstacle e = none ∧ t = ((s.raiseIf b .queueFull).createGrant e.unit).withQueue q

theorem State.obstacle_raiseIf (b : Bool) (n : Notice) (e : QueueEntry) : (s.raiseIf b n).obstacle e = s.obstacle e := by
  cases b <;> rfl

theorem State.createGrant_withQueue (q : List QueueEntry) :
    (s.withQueue q).createGrant u = (s.createGrant u).withQueue q := by
  cases h : s.freeList with
  | nil => rw [s.createGrant_nil u h, (s.withQueue q).createGrant_nil u h]
  | cons i rest =>
    rw [s.createGrant_cons u h, (s.withQueue q).createGrant_cons u h]
    have hjoin (t : State) : (t.withQueue q).joinUrgent u = (t.joinUrgent u).withQueue q := by
      by_cases h : (isWired u || !t.configured u || t.link.urgent.contains u) = true
      · have h' : (isWired u || !(t.withQueue q).configured u || (t.withQueue q).link.urgent.contains u) = true := h
        rw [State.joinUrgent, State.joinUrgent, if_pos h, if_pos h']
      · have h' : ¬(isWired u || !(t.withQueue q).configured u || (t.withQueue q).link.urgent.contains u) = true := h
        rw [State.joinUrgent, State.joinUrgent, if_neg h, if_neg h']
        rfl
    have hchannel (t : State) (f : Channel → Channel) :
        (t.withQueue q).onChannelOf u f = (t.onChannelOf u f).withQueue q := by
      unfold State.onChannelOf
      cases channelOf u <;> rfl
    exact (congrArg (State.onChannelOf u Channel.recordGrant) (hjoin (s.placeGrant u i rest))).trans (hchannel _ _)

theorem State.admissionPass_queueStep (b : Bool) (q : List QueueEntry) :
    s.QueueStep ((s.raiseIf b .queueFull).withQueue q).admissionPass := by
  rcases ((s.raiseIf b .queueFull).withQueue q).admissionPass_cases with ⟨q', h⟩ | ⟨e, -, he, q', h⟩
  · exact ⟨b, q', .inl h⟩
  · rw [State.createGrant_withQueue] at h
    rw [State.obstacle_withQueue, State.obstacle_raiseIf] at he
    exact ⟨b, q', .inr ⟨e, he, h⟩⟩

theorem State.desireStep_queueStep : s.QueueStep (s.desireStep u) := by
  cases hw : s.wants u with
  | false =>
    rw [s.desireStep_of_not_wants u hw, State.dequeue_eq]
    exact ⟨false, _, .inl rfl⟩
  | true =>
    cases he : s.entryOf u with
    | some e =>
      rw [s.desireStep_of_entry u hw he, State.rewant_eq]
      split
      · exact ⟨false, s.queue, .inl rfl⟩
      · exact s.admissionPass_queueStep false _
    | none =>
      rw [s.desireStep_of_noEntry u hw he, State.enqueue_eq, State.enqueueFull_eq]
      split
      · exact s.admissionPass_queueStep false _
      · split
        · exact s.admissionPass_queueStep true _
        · exact ⟨true, s.queue, .inl rfl⟩

variable {s}

/-- No grant is made while the hold runs or the start gate is not OPEN (R92, R98). -/
theorem State.QueueStep.of_closed {t : State} (h : s.QueueStep t) (hc : s.holdRunning = true ∨ s.startGate ≠ .opened) :
    ∃ (b : Bool) (q : List QueueEntry), t = (s.raiseIf b .queueFull).withQueue q := by
  obtain ⟨b, q, h | ⟨e, he, -⟩⟩ := h
  · exact ⟨b, q, h⟩
  · obtain ⟨h1, h2, -⟩ := s.obstacle_none he
    rcases hc with hc | hc
    · rw [h1] at hc; cases hc
    · exact absurd h2 hc

variable (s)

theorem State.raiseIf_withQueue_slots (b : Bool) (n : Notice) (q : List QueueEntry) :
    ((s.raiseIf b n).withQueue q).slots = s.slots := by
  cases b <;> rfl

theorem State.raiseIf_withQueue_link (b : Bool) (n : Notice) (q : List QueueEntry) :
    ((s.raiseIf b n).withQueue q).link = s.link := by
  cases b <;> rfl

theorem State.desireStep_of_closed (h : s.wants u = false ∨ s.holdRunning = true ∨ s.startGate ≠ .opened) :
    (s.desireStep u).slots = s.slots ∧ (s.desireStep u).link = s.link := by
  rcases h with h | h
  · rw [s.desireStep_of_not_wants u h]
    exact ⟨rfl, rfl⟩
  · obtain ⟨b, q, ht⟩ := (s.desireStep_queueStep u).of_closed h
    rw [ht]
    exact ⟨s.raiseIf_withQueue_slots b _ q, s.raiseIf_withQueue_link b _ q⟩

end

/-! ### RELEASE UNIT (R18, R39) -/

/-- A fold of operations over the slots of a list, each writing its own slot alone, writes each slot once. -/
theorem State.foldl_slots {op : State → SlotNo → State} {F : State → Slot → Slot}
    (hop : ∀ (t : State) (i j : SlotNo), (op t i).slots[j] = if j = i then F t t.slots[i] else t.slots[j])
    (hF : ∀ (t : State) (i : SlotNo), F (op t i) = F t) (l : List SlotNo) : ∀ s : State, l.Nodup → ∀ j : SlotNo,
      (l.foldl op s).slots[j] = if j ∈ l then F s s.slots[j] else s.slots[j] := by
  induction l with
  | nil => exact fun s _ j => (if_neg List.not_mem_nil).symm
  | cons a l ih =>
    intro s hl j
    obtain ⟨hal, hl⟩ := List.nodup_cons.mp hl
    refine (ih (op s a) hl j).trans ?_
    rw [hF]
    by_cases hja : j = a
    · subst hja
      rw [if_neg hal, if_pos List.mem_cons_self, hop, if_pos rfl]
    · have hmem : j ∈ a :: l ↔ j ∈ l := by rw [List.mem_cons, or_iff_right hja]
      simp only [hmem, hop, if_neg hja]

section

variable (s : State) (u : UnitNo)

/-- No freed slot can complete a retirement of the unit: it does not retire, or frees nothing (R17). -/
def State.Lasting (u : UnitNo) (s : State) : Prop := (s.status u).state ≠ .retiring ∨ s.minOff u ≠ 0

theorem State.Lasting.of_unit {s t : State} {u : UnitNo} (h : s.Lasting u) (ht : t.units[u] = s.units[u]) :
    t.Lasting u := by
  unfold State.Lasting State.status State.minOff State.record at h ⊢
  rw [ht]
  exact h

theorem State.Lasting.restSlot_unit {s : State} {u : UnitNo} (h : s.Lasting u) (i : SlotNo) :
    (s.restSlot u i).units[u] = s.units[u] := by
  unfold State.restSlot
  split
  · next h0 =>
    rcases s.freeSlot_units u i u with h' | ⟨-, hr, -⟩
    · exact h'
    · exact absurd hr (h.resolve_right fun hh => hh h0)
  · rfl

theorem State.Lasting.stopSlot_unit {s : State} {u : UnitNo} (h : s.Lasting u) (i : SlotNo) :
    (s.stopSlot u i).units[u] = s.units[u] := by
  unfold State.stopSlot
  split
  · exact h.restSlot_unit i
  · rfl

/-- A fold of operations that keep the unit's record keeps it. -/
theorem State.Lasting.foldl_unit {op : State → SlotNo → State} {u : UnitNo}
    (hop : ∀ (t : State) (i : SlotNo), t.Lasting u → (op t i).units[u] = t.units[u]) (l : List SlotNo) :
    ∀ {s : State}, s.Lasting u → (l.foldl op s).units[u] = s.units[u] := by
  induction l with
  | nil => exact fun _ => rfl
  | cons a l ih => exact fun {s} h => (ih (h.of_unit (hop s a h))).trans (hop s a h)

/-- One commanded-on permit's forced stop (R39). -/
def State.forceSlot (u : UnitNo) (s : State) (i : SlotNo) : State := (s.modifySlot i (Slot.setReason .forced)).stopSlot u i

theorem State.forceRelease_eq : s.forceRelease u = State.settleCompliance u
    ((s.slotsOf u (·.state.commandedOn)).foldl (State.forceSlot u)
      (s.restAll u (s.slotsOf u fun p => decide (p.state = .stopping)))) := rfl

theorem State.modifySlot_stopped (i : SlotNo) (f : Slot → Slot) : (s.modifySlot i f).stopped u = s.stopped u :=
  State.stopped_congr u rfl rfl

theorem State.forceSlot_slots (i j : SlotNo) : (s.forceSlot u i).slots[j] =
    if j = i then s.stopped u (s.slots[i].setReason .forced) else s.slots[j] := by
  unfold State.forceSlot
  rw [State.stopSlot_slots, State.modifySlot_stopped, State.slots_modifySlot, State.slots_modifySlot, if_pos rfl]
  by_cases h : j = i
  · rw [if_pos h, if_pos h]
  · rw [if_neg h, if_neg h, if_neg h]

theorem State.forceSlot_stopped (i : SlotNo) : (s.forceSlot u i).stopped u = s.stopped u := by
  unfold State.forceSlot
  rw [State.stopped_congr u (State.stopSlot_minOff _ u i) (State.stopSlot_base _ u i).site, s.modifySlot_stopped]

theorem State.settleCompliance_slots : (s.settleCompliance u).slots = s.slots := by
  unfold State.settleCompliance; split <;> rfl

/-- What RELEASE UNIT makes of a slot (R31, R34, R39). -/
def State.forcedSlot (u : UnitNo) (s : State) (i : SlotNo) : Slot :=
  if s.holds u (·.state.commandedOn) i then s.stopped u (s.slots[i].setReason .forced)
  else if s.holds u (fun p => decide (p.state = .stopping)) i then s.rested u s.slots[i] else s.slots[i]

theorem State.forceRelease_slots (i : SlotNo) : (s.forceRelease u).slots[i] = s.forcedSlot u i := by
  rw [State.forceRelease_eq, State.settleCompliance_slots]
  have hrest := State.restAll_slots u (s.slotsOf u fun p => decide (p.state = .stopping)) s (s.slotsOf_nodup u _) i
  have hstop : (s.restAll u (s.slotsOf u fun p => decide (p.state = .stopping))).stopped u = s.stopped u :=
    State.stopped_congr u (State.restAll_minOff u _ s) (s.restAll_base u _).site
  rw [State.foldl_slots (F := fun t sl => t.stopped u (sl.setReason .forced)) (fun t i j => t.forceSlot_slots u i j)
    (fun t i => by rw [t.forceSlot_stopped u i]) _ _ (s.slotsOf_nodup u _), hstop, hrest, State.forcedSlot]
  have hmem (f : Permit → Bool) : (i ∈ s.slotsOf u f) = (s.holds u f i = true) := by
    rw [← s.decide_mem_slotsOf u f i, decide_eq_true_eq]
  simp only [hmem]
  by_cases hon : s.holds u (·.state.commandedOn) i = true
  · have hoff : ¬ s.holds u (fun p => decide (p.state = .stopping)) i = true := fun h => by
      obtain ⟨p, hp, -, hpon⟩ := (s.holds_iff u _ i).mp hon
      obtain ⟨q, hq, -, hqs⟩ := (s.holds_iff u _ i).mp h
      cases hp.symm.trans hq
      rw [of_decide_eq_true hqs] at hpon
      cases hpon
    rw [if_pos hon, if_pos hon, if_neg hoff]
  · rw [if_neg hon, if_neg hon]

theorem State.settleCompliance_unit : (s.settleCompliance u).units[u] = if s.hasStopping u then s.units[u]
    else { s.units[u] with status := { s.units[u].status with noncompliant := false } } := by
  unfold State.settleCompliance
  split
  · rfl
  · exact (s.units_modifyStatus u _ u).trans (if_pos rfl)

theorem State.forcedSlot_of_none {i : SlotNo} (hp : s.slots[i].permit = none) : s.forcedSlot u i = s.slots[i] := by
  unfold State.forcedSlot
  simp only [State.holds_eq_any, hp, Option.any_none, Bool.false_eq_true, if_false]

theorem State.forcedSlot_of {i : SlotNo} {p : Permit} (hp : s.slots[i].permit = some p) : s.forcedSlot u i =
    if p.unit ≠ u ∨ p.state = .resting then s.slots[i]
    else if p.state = .stopping then s.rested u s.slots[i] else s.stopped u (s.slots[i].setReason .forced) := by
  unfold State.forcedSlot
  simp only [State.holds_eq_any, hp, Option.any_some]
  by_cases hu : p.unit = u
  · cases hst : p.state <;> simp [hu, PermitState.commandedOn]
  · simp [hu]

/-- What RESTING leaves of a slot, with its reason, by the minimum off (R34, R35). -/
theorem State.rested_of {sl : Slot} {p : Permit} (hp : sl.permit = some p) : s.rested u sl =
    if s.minOff u = 0 then .free else { sl with
      counter := 0, aValue := s.minOff u, aArmed := true, pArmed := false
      permit := some { p with state := .resting, rotationDue := false } } := by
  unfold State.rested
  refine ite_congr rfl (fun _ => rfl) fun h => ?_
  rw [Slot.enterResting_of hp, decide_eq_true (Nat.pos_of_ne_zero h)]

theorem Slot.setReason_of {sl : Slot} {p : Permit} (hp : sl.permit = some p) (r : StopReason) :
    (sl.setReason r).permit = some { p with reason := some r } := by
  rw [Slot.setReason_permit, hp]; rfl

theorem State.hasStopping_iff : s.hasStopping u = true ↔ ∃ (i : SlotNo) (p : Permit), s.slots[i].permit = some p
    ∧ p.unit = u ∧ p.state = .stopping := by
  unfold State.hasStopping
  rw [List.any_eq_true]
  refine ⟨fun ⟨i, _, hi⟩ => ?_, fun ⟨i, p, hp, hu, hs⟩ => ⟨i, List.mem_finRange i, ?_⟩⟩
  · obtain ⟨p, hp, hu, hs⟩ := (s.holds_iff u _ i).mp hi
    exact ⟨i, p, hp, hu, of_decide_eq_true hs⟩
  · exact (s.holds_iff u _ i).mpr ⟨p, hp, hu, decide_eq_true hs⟩

/-- A permit behind a rest rests. -/
theorem State.rested_state {sl : Slot} {q : Permit} (hq : (s.rested u sl).permit = some q) : q.state = .resting := by
  rw [State.rested_permit] at hq
  split at hq
  · cases hq
  · obtain ⟨p, -, rfl⟩ := Option.map_eq_some_iff.mp hq
    rfl

theorem State.level_ne_zero_iff : s.level u ≠ 0 ↔ ∃ (i : SlotNo) (p : Permit), s.slots[i].permit = some p ∧ p.unit = u
    ∧ p.state.commandedOn = true := by
  rw [State.level, ← Nat.pos_iff_ne_zero, List.length_pos_iff_exists_mem]
  exact exists_congr fun i => s.mem_slotsOf u _ i

/-- Behind a forced release no permit of the unit is commanded on (R39). -/
theorem State.forceRelease_level : (s.forceRelease u).level u = 0 := by
  by_contra h
  obtain ⟨i, q, hq, hqu, hqon⟩ := (State.level_ne_zero_iff _ u).mp h
  rw [State.forceRelease_slots] at hq
  cases hp : s.slots[i].permit with
  | none => rw [s.forcedSlot_of_none u hp, hp] at hq; cases hq
  | some p =>
    rw [s.forcedSlot_of u hp] at hq
    split at hq
    · next h =>
      cases hp.symm.trans hq
      rcases h with h | h
      · exact h hqu
      · rw [h] at hqon; cases hqon
    · split at hq
      · rw [s.rested_state u hq] at hqon; cases hqon
      · rw [(State.stopped_off (Slot.setReason_of hp .forced) hq).2.1] at hqon; cases hqon

/-- Behind a forced release the unit's STOPPING permits are those that were commanded on, in a linked unit (R31, R39). -/
theorem State.forceRelease_hasStopping : (s.forceRelease u).hasStopping u = true ↔ isWired u = false ∧ s.level u ≠ 0 := by
  rw [State.hasStopping_iff, State.level_ne_zero_iff]
  constructor
  · rintro ⟨i, q, hq, hqu, hqs⟩
    rw [State.forceRelease_slots] at hq
    cases hp : s.slots[i].permit with
    | none => rw [s.forcedSlot_of_none u hp, hp] at hq; cases hq
    | some p =>
      rw [s.forcedSlot_of u hp] at hq
      split at hq
      · next h =>
        cases hp.symm.trans hq
        rcases h with h | h
        · exact absurd hqu h
        · rw [h] at hqs; cases hqs
      · next hno =>
        obtain ⟨hpu, hpr⟩ := not_or.mp hno
        split at hq
        · rw [s.rested_state u hq] at hqs; cases hqs
        · next hps =>
          refine ⟨Bool.not_eq_true _ |>.mp fun hw => ?_, i, p, hp, not_not.mp hpu, ?_⟩
          · rw [State.stopped, if_pos hw] at hq
            rw [s.rested_state u hq] at hqs; cases hqs
          · cases hst : p.state <;> simp_all [PermitState.commandedOn]
  · rintro ⟨hw, i, p, hp, hpu, hpon⟩
    refine ⟨i, { p with state := .stopping, rotationDue := false, reason := some .forced }, ?_, hpu, rfl⟩
    have hpr : p.state ≠ .resting := fun h => by rw [h] at hpon; cases hpon
    have hps : p.state ≠ .stopping := fun h => by rw [h] at hpon; cases hpon
    rw [State.forceRelease_slots, s.forcedSlot_of u hp, if_neg (by simp [hpu, hpr]), if_neg hps,
      s.stopped_of_linked u hw, Slot.enterStopping_of (Slot.setReason_of hp .forced)]

variable {s u}

/-- The record behind a forced release that no retirement ends: noncompliant is cleared where nothing stops (R33, R39). -/
theorem State.Lasting.forceRelease_unit (h : s.Lasting u) : (s.forceRelease u).units[u] =
    if (s.forceRelease u).hasStopping u then s.units[u]
    else { s.units[u] with status := { s.units[u].status with noncompliant := false } } := by
  rw [State.forceRelease_eq]
  have hrest : (s.restAll u (s.slotsOf u fun p => decide (p.state = .stopping))).units[u] = s.units[u] :=
    State.Lasting.foldl_unit (fun t i ht => ht.restSlot_unit i) _ h
  have hforce := State.Lasting.foldl_unit (op := State.forceSlot u)
    (fun t i ht => State.Lasting.stopSlot_unit (s := t.modifySlot i (Slot.setReason .forced)) ht i)
    (s.slotsOf u (·.state.commandedOn)) (h.of_unit hrest)
  generalize (s.slotsOf u (·.state.commandedOn)).foldl (State.forceSlot u) (s.restAll u _) = t at hforce
  have hslots : (t.settleCompliance u).hasStopping u = t.hasStopping u := by
    unfold State.hasStopping State.holds
    rw [t.settleCompliance_slots u]
  rw [t.settleCompliance_unit u, hslots, hforce, hrest]

end

/-! ### What follows a fall of the level (R12, R24) -/

section

variable (s : State) (u : UnitNo)

theorem State.handOver_wants (n : Nat) : (s.handOver u n).wants u = s.wants u := by
  have h : (s.handOver u n).level u = s.level u := State.level_of_slots (s.handOver_slots u n) u
  unfold State.wants State.eligible State.effectiveDesired State.status
  rw [s.handOver_units, h]

theorem State.handOver_startGate (n : Nat) : (s.handOver u n).startGate = s.startGate := (s.handOver_aside u n).startGate

theorem State.handOver_holdRunning (n : Nat) : (s.handOver u n).holdRunning = s.holdRunning := by
  unfold State.holdRunning; rw [(s.handOver_base u n).hold]

/-- A desire step that grants nothing leaves the slots, the records and the link that the hand-over leaves. -/
theorem State.settleLevel_of_closed (n : Nat) (h : s.wants u = false ∨ s.holdRunning = true ∨ s.startGate ≠ .opened) :
    (s.settleLevel u n).slots = s.slots ∧ (s.settleLevel u n).units = s.units
      ∧ (s.settleLevel u n).link = (s.handOver u n).link := by
  have hslots := s.handOver_slots u n
  have hunits := s.handOver_units u n
  rw [← s.handOver_wants u n, ← s.handOver_holdRunning u n, ← s.handOver_startGate u n] at h
  unfold State.settleLevel
  generalize s.handOver u n = t at h hslots hunits
  dsimp only
  split
  · obtain ⟨h1, h2⟩ := t.desireStep_of_closed u h
    exact ⟨h1.trans hslots, (t.desireStep_passed u).units.trans hunits, h2⟩
  · exact ⟨hslots, hunits, rfl⟩

end

theorem State.resetHeld_of_open {s : State} (h : s.portShut = false) : s.resetHeld = false := by
  unfold State.portShut at h
  exact (Bool.or_eq_false_iff.mp h).2

theorem State.driveOutput_inactive {s : State} {c : ChannelNo} (hr : s.resetHeld = false)
    (hc : s.configured (channelUnit c) = true) (hl : s.level (channelUnit c) ≠ 1) : s.driveOutput c = .inactive := by
  simp [State.driveOutput, hr, hc, hl]

theorem State.driveOutput_active {s : State} {c : ChannelNo} (hr : s.resetHeld = false)
    (hc : s.configured (channelUnit c) = true) (hl : s.level (channelUnit c) = 1) : s.driveOutput c = .active := by
  simp [State.driveOutput, hr, hc, hl]

/-- RELEASE UNIT of a configured unit (R18). -/
theorem exec_releaseUnit {s : State} {b : Byte} {u : UnitNo} (hb : names b u) (hopen : s.portShut = false)
    (hc : s.configured u = true) : ∃ bytes, exec (.releaseUnit b) s = .next
      ((((s.buffered bytes).forceRelease u).settleLevel u (s.level u)).latch (.bare .ok)) := by
  refine ⟨[0x16#8, b], congrArg Host.Outcome.next
    ((State.serve_withUnit hopen (by simp [Config.bufferCapacity]) hb _).trans ?_)⟩
  rw [State.releaseUnit, if_pos (show (s.buffered [0x16#8, b]).configured u = true from hc)]
  rfl

/-- Settles O29: every permit's own write, and a desire step that grants nothing. -/
theorem releaseForcesEveryStageOff : Obligations.ReleaseForcesEveryStageOff := by
  intro s b u hb hopen hc hlasting hclosed
  obtain ⟨bytes, hexec⟩ := exec_releaseUnit hb hopen hc
  have hslots := (s.buffered bytes).forceRelease_slots u
  have hlevel := (s.buffered bytes).forceRelease_level u
  have hstop := (s.buffered bytes).forceRelease_hasStopping u
  have hunit := State.Lasting.forceRelease_unit (s := s.buffered bytes) (u := u) hlasting
  have hbase := (s.buffered bytes).forceRelease_base u
  generalize (s.buffered bytes).forceRelease u = f at hexec hslots hlevel hstop hunit hbase
  have hstatus : f.status u = if f.hasStopping u then s.status u else { s.status u with noncompliant := false } := by
    rw [State.status, hunit]
    split <;> rfl
  have hfields : (f.status u).state = (s.status u).state ∧ (f.status u).link = (s.status u).link
      ∧ f.effectiveDesired u = s.effectiveDesired u := by
    unfold State.effectiveDesired
    rw [hstatus]
    split <;> exact ⟨rfl, rfl, rfl⟩
  obtain ⟨hstate, hlink, hdesired⟩ := hfields
  have hstep := f.settleLevel_of_closed u (s.level u) (by
    rcases hclosed with h | h
    · refine .inl ?_
      rw [State.wants, hdesired, h, hlevel]
      exact Bool.and_false _
    · refine .inr (.inl (decide_eq_true ?_))
      rw [hbase.hold]
      exact h)
  obtain ⟨h1, h2, h3⟩ := hstep
  have hsettled := f.settleLevel_base u (s.level u)
  generalize f.settleLevel u (s.level u) = t at hexec h1 h2 h3 hsettled
  have htlevel : t.level u = 0 := (State.level_of_slots h1 u).trans hlevel
  have htstatus : t.status u = f.status u := by rw [State.status, h2]; rfl
  have hconf : f.configured u = true := by
    rw [State.configured, hstate]
    exact hc
  refine ⟨_, hexec, htlevel, (congrArg UnitStatus.state htstatus).trans hstate,
    (congrArg UnitStatus.link htstatus).trans hlink, fun hw hl => ?_, fun c hcu => ?_, ?_, fun i => ?_⟩
  · show u ∈ t.link.urgent
    rw [h3]
    exact f.mem_handOver u hw hconf (fun h => hl (h.symm.trans hlevel))
  · refine State.driveOutput_inactive (hsettled.resetHeld.trans (hbase.resetHeld.trans (State.resetHeld_of_open hopen))) ?_ ?_
    · show t.configured (channelUnit c) = true
      rw [hcu, State.configured, htstatus]
      exact hconf
    · show t.level (channelUnit c) ≠ 1
      rw [hcu, htlevel]
      decide
  · show (t.status u).noncompliant = true ↔ _
    rw [htstatus, hstatus]
    by_cases h : f.hasStopping u = true
    · rw [if_pos h]
      exact ⟨fun hn => ⟨hn, hstop.mp h⟩, fun hn => hn.1⟩
    · rw [if_neg h]
      exact ⟨fun hn => absurd hn Bool.false_ne_true, fun hn => absurd (hstop.mpr hn.2) h⟩
  · show t.slots[i] = _
    have hti : t.slots[i] = (s.buffered bytes).forcedSlot u i := by rw [h1]; exact hslots i
    rw [hti]
    cases hp : s.slots[i].permit with
    | none => exact (s.buffered bytes).forcedSlot_of_none u hp
    | some p =>
      dsimp only
      rw [(s.buffered bytes).forcedSlot_of u hp]
      refine ite_congr rfl (fun _ => rfl) fun _ => ite_congr rfl (fun _ => ?_) fun _ => ?_
      · exact (s.buffered bytes).rested_of u hp
      · have hforced := Slot.setReason_of hp .forced
        by_cases hw : isWired u = true
        · rw [if_pos hw, State.stopped, if_pos hw]
          exact (s.buffered bytes).rested_of u hforced
        · rw [if_neg hw, State.stopped, if_neg hw]
          exact Slot.enterStopping_of hforced

end Sys2Proof.Machine


/-! The Permit Table under operations that take permits of one unit off or away, and under those that give it a new one
(R21, R23, R24): what each leaves of the free list, the stages and the records. -/

namespace Sys2Proof.Machine

/-! ### Conditions of the tables but for the levels -/

/-- The conditions of the Unit Table and the Permit Table that do not speak of commanded levels. -/
structure State.Tables (s : State) : Prop where
  free : s.freeListSound
  distinct : s.stagesDistinct
  ratings : s.ratingsSound
  records : s.recordsSound
  bounded : ∀ u : UnitNo, (s.status u).desired ≤ s.stageCount u ∧ (s.status u).running ≤ s.stageCount u

theorem State.tables_of_sound {s : State} (h : s.tablesSound) : s.Tables := by
  obtain ⟨hf, hd, -, hr, -, hrec, -, -, hb⟩ := h
  exact ⟨hf, hd, hr, hrec, hb⟩

/-- Where a unit's permits stand in order, with the record's ratings, its commanded level is at most its stage count. -/
theorem State.InOrder.level_le_stageCount {s : State} {u : UnitNo} (h : s.InOrder u) (hr : s.ratingsSound) :
    s.level u ≤ s.stageCount u := by
  rcases Nat.eq_zero_or_pos (s.level u) with h0 | hpos
  · omega
  · obtain ⟨i, p, hp, hu, hk, -⟩ := h.exists_on (k := s.level u - 1) (by omega)
    have hrating := hr i p hp
    rw [hu, State.rating] at hrating
    unfold State.stageCount
    cases hrec : s.record u with
    | none => rw [hrec] at hrating; cases hrating
    | some r =>
      rw [hrec, Option.bind_some, List.getElem?_eq_some_iff] at hrating
      obtain ⟨hlt, -⟩ := hrating
      simp only [Option.elim_some, UnitRecord.stageCount]
      omega

/-! ### Permits of one unit that go off or away -/

/-- A unit's working record, state and recorded levels. -/
def State.core (s : State) (u : UnitNo) : Option UnitRecord × UnitState × Nat × Nat :=
  (s.record u, (s.status u).state, (s.status u).desired, (s.status u).running)

/-- Two states of which the second holds at most the permits of the first, those of one unit perhaps in another state; the
unit is kept, or its retirement is complete. -/
structure State.Narrows (u : UnitNo) (s t : State) : Prop where
  others : ∀ (i : SlotNo) (p : Permit), p.unit ≠ u → (t.slots[i].permit = some p ↔ s.slots[i].permit = some p)
  back : ∀ (i : SlotNo) (q : Permit), t.slots[i].permit = some q → q.unit = u →
    ∃ p, s.slots[i].permit = some p ∧ p.unit = u ∧ p.stage = q.stage ∧ p.rating = q.rating
  free : s.freeListSound → t.freeListSound
  site : t.site = s.site
  units : ∀ v : UnitNo, v ≠ u → t.units[v] = s.units[v]
  unit : t.core u = s.core u ∨ t.core u = (none, .unconfigured, 0, 0) ∧ t.hasPermit u = false

theorem State.Narrows.refl (u : UnitNo) (s : State) : s.Narrows u s :=
  ⟨fun _ _ _ => Iff.rfl, fun _ q hq hu => ⟨q, hq, hu, rfl, rfl⟩, id, rfl, fun _ _ => rfl, .inl rfl⟩

theorem State.Narrows.trans {u : UnitNo} {s t r : State} (h : State.Narrows u s t) (k : State.Narrows u t r) :
    State.Narrows u s r where
  others i p hp := (k.others i p hp).trans (h.others i p hp)
  back i q hq hu := by
    obtain ⟨p, hp, hpu, h1, h2⟩ := k.back i q hq hu
    obtain ⟨p', hp', hpu', h1', h2'⟩ := h.back i p hp hpu
    exact ⟨p', hp', hpu', h1'.trans h1, h2'.trans h2⟩
  free hs := k.free (h.free hs)
  site := k.site.trans h.site
  units v hv := (k.units v hv).trans (h.units v hv)
  unit := by
    rcases k.unit with k1 | k1
    · rw [k1]
      refine h.unit.imp id fun ⟨h1, hno⟩ => ⟨h1, ?_⟩
      refine (r.hasPermit_eq_false_iff u).mpr fun i q hq hqu => ?_
      obtain ⟨p, hp, hpu, -⟩ := k.back i q hq hqu
      exact (t.hasPermit_eq_false_iff u).mp hno i p hp hpu
    · exact .inr k1

theorem State.record_of_units {s t : State} {v : UnitNo} (h : t.units[v] = s.units[v]) :
    t.record v = s.record v ∧ t.status v = s.status v := by
  unfold State.record State.status
  rw [h]
  exact ⟨rfl, rfl⟩

/-- The records, as far as the tables' conditions read them. -/
theorem State.records_of_core {s t : State} (hs : s.recordsSound)
    (hb : ∀ u : UnitNo, (s.status u).desired ≤ s.stageCount u ∧ (s.status u).running ≤ s.stageCount u)
    (hsite : t.site.valid = true)
    (hcore : ∀ v, t.core v = s.core v ∨ t.core v = (none, .unconfigured, 0, 0)) :
    t.recordsSound ∧ ∀ u : UnitNo, (t.status u).desired ≤ t.stageCount u ∧ (t.status u).running ≤ t.stageCount u := by
  refine ⟨⟨hsite, fun v => ?_⟩, fun v => ?_⟩
  all_goals
    have hv := hcore v
    simp only [State.core, Prod.mk.injEq] at hv
  · rcases hv with ⟨h1, h2, -⟩ | ⟨h1, h2, -⟩
    · rw [h1, h2]
      exact hs.2 v
    · rw [h1, h2]
      exact ⟨iff_of_true rfl rfl, fun r hr => absurd hr (by simp)⟩
  · unfold State.stageCount
    rcases hv with ⟨h1, -, h3, h4⟩ | ⟨h1, -, h3, h4⟩
    · rw [h1, h3, h4]
      exact hb v
    · rw [h3, h4]
      exact ⟨Nat.zero_le _, Nat.zero_le _⟩

theorem State.core_of_units {s t : State} {v : UnitNo} (h : t.units[v] = s.units[v]) : t.core v = s.core v := by
  obtain ⟨h1, h2⟩ := State.record_of_units h
  rw [State.core, State.core, h1, h2]

theorem State.Narrows.core {u : UnitNo} {s t : State} (h : State.Narrows u s t) (v : UnitNo) :
    t.core v = s.core v ∨ t.core v = (none, .unconfigured, 0, 0) ∧ t.hasPermit v = false := by
  by_cases hv : v = u
  · exact hv ▸ h.unit
  · exact .inl (State.core_of_units (h.units v hv))

/-- Where a permit of the second state came from. -/
theorem State.Narrows.source {u : UnitNo} {s t : State} (h : State.Narrows u s t) {i : SlotNo} {q : Permit}
    (hq : t.slots[i].permit = some q) : ∃ p, s.slots[i].permit = some p ∧ p.unit = q.unit ∧ p.stage = q.stage
      ∧ p.rating = q.rating := by
  by_cases hu : q.unit = u
  · obtain ⟨p, hp, hpu, h1, h2⟩ := h.back i q hq hu
    exact ⟨p, hp, hpu.trans hu.symm, h1, h2⟩
  · exact ⟨q, (h.others i q hu).mp hq, rfl, rfl, rfl⟩

theorem State.Narrows.tables {u : UnitNo} {s t : State} (h : State.Narrows u s t) (hs : s.Tables) : t.Tables := by
  obtain ⟨hrec, hbound⟩ := State.records_of_core hs.records hs.bounded (h.site ▸ hs.records.1) fun v =>
    (h.core v).imp id And.left
  refine ⟨h.free hs.free, fun i j p hp q hq hu hk => ?_, fun i q hq => ?_, hrec, hbound⟩
  · obtain ⟨p', hp', hpu, hpk, -⟩ := h.source hp
    obtain ⟨q', hq', hqu, hqk, -⟩ := h.source hq
    exact hs.distinct i j p' hp' q' hq' (by rw [hpu, hqu, hu]) (by omega)
  · obtain ⟨p, hp, hpu, hpk, hpr⟩ := h.source hq
    have := hs.ratings i p hp
    rw [hpu, hpk, hpr] at this
    rw [← this]
    have hrecord : t.record q.unit = s.record q.unit := by
      rcases h.core q.unit with hc | ⟨-, hno⟩
      · exact congrArg Prod.fst hc
      · exact absurd rfl ((t.hasPermit_eq_false_iff _).mp hno i q hq)
    rw [State.rating, State.rating, hrecord]

/-- The permits of every other unit stand as they did. -/
theorem State.inOrder_of_others {u v : UnitNo} {s t : State} (hv : v ≠ u)
    (h : ∀ (i : SlotNo) (p : Permit), p.unit ≠ u → (t.slots[i].permit = some p ↔ s.slots[i].permit = some p))
    (ho : s.InOrder v) : t.InOrder v ∧ t.level v = s.level v := by
  have hiff (f : Permit → Bool) (i : SlotNo) : t.holds v f i = s.holds v f i := by
    rw [Bool.eq_iff_iff, t.holds_iff, s.holds_iff]
    exact exists_congr fun p => and_congr_left fun ⟨hp, _⟩ => h i p (hp ▸ hv)
  have hlevel : t.level v = s.level v := congrArg List.length (State.slotsOf_congr v (hiff _))
  refine ⟨⟨fun {i j p q} hp hq hpu hqu hk => ?_, fun {i p} hp hpu => ?_⟩, hlevel⟩
  · exact ho.distinct ((h i p (hpu ▸ hv)).mp hp) ((h j q (hqu ▸ hv)).mp hq) hpu hqu hk
  · rw [hlevel]
    exact ho.on_iff ((h i p (hpu ▸ hv)).mp hp) hpu

/-! ### The free list -/

/-- A slot that takes or keeps a permit in place of one leaves the free list right. -/
theorem State.freeListSound_of_isSome {s t : State} (hs : s.freeListSound) (hf : t.freeList = s.freeList)
    (h : ∀ i : SlotNo, t.slots[i].permit.isSome = s.slots[i].permit.isSome) : t.freeListSound := by
  refine ⟨hf ▸ hs.1, fun i => ?_⟩
  rw [hf, hs.2 i, ← Option.isNone_iff_eq_none, ← Option.isNone_iff_eq_none, ← Option.not_isSome, ← Option.not_isSome, h i]

/-- A slot that loses its permit joins the free list. -/
theorem State.freeListSound_of_freed {s t : State} {i : SlotNo} (hs : s.freeListSound) (hi : s.slots[i].permit ≠ none)
    (hf : t.freeList = s.freeList ++ [i]) (ht : ∀ j : SlotNo, t.slots[j].permit = if j = i then none else s.slots[j].permit) :
    t.freeListSound := by
  refine ⟨?_, fun j => ?_⟩
  · rw [hf, List.nodup_append]
    refine ⟨hs.1, List.nodup_singleton i, fun a ha b hb => ?_⟩
    rw [List.mem_singleton.mp hb]
    rintro rfl
    exact hi ((hs.2 a).mp ha)
  · rw [hf, ht, List.mem_append, List.mem_singleton, hs.2 j]
    split
    · next h => exact iff_of_true (.inr h) rfl
    · next h => exact or_iff_left h

/-- The head slot of the free list takes a new permit. -/
theorem State.freeListSound_of_taken {s t : State} {i : SlotNo} (hs : s.freeListSound) (hf : s.freeList = i :: t.freeList)
    {p : Permit} (ht : ∀ j : SlotNo, t.slots[j].permit = if j = i then some p else s.slots[j].permit) : t.freeListSound := by
  have hnd := hs.1
  rw [hf, List.nodup_cons] at hnd
  refine ⟨hnd.2, fun j => ?_⟩
  rw [ht]
  split
  · next h => exact iff_of_false (h ▸ hnd.1) (by simp)
  · next h =>
    rw [← hs.2 j, hf, List.mem_cons]
    exact ⟨.inr, fun hh => hh.resolve_left h⟩

/-! ### The entries into RUNNING, field by field (R27, R40, R42) -/

section

variable {sl : Slot} {p : Permit}

theorem Slot.enterRunningRestored_of (hp : sl.permit = some p) {rot : Nat} : sl.enterRunningRestored rot = { sl with
    pValue := rot, pArmed := decide (rot ≠ 0) && decide (sl.counter < rot * 64)
    permit := some { p with
      state := .running, reason := none, rotationDue := decide (rot ≠ 0) && decide (rot * 64 ≤ sl.counter) } } := by
  simp [Slot.enterRunningRestored, Slot.loadP, hp]

theorem Slot.enterRunningSettled_of (hp : sl.permit = some p) {minRun rot : Nat} : sl.enterRunningSettled minRun rot =
    { sl with
      aValue := minRun, aArmed := decide (sl.counter < minRun)
      pValue := rot, pArmed := decide (rot ≠ 0) && decide (sl.counter < rot * 64)
      permit := some { p with
        state := .running, reason := none, minRunMet := p.minRunMet || decide (minRun ≤ sl.counter)
        rotationDue := decide (rot ≠ 0) && decide (rot * 64 ≤ sl.counter) } } := by
  simp [Slot.enterRunningSettled, Slot.loadP, Slot.loadA, hp]

theorem Slot.enterRunningAdopted_of (hp : sl.permit = some p) {rot : Nat} : sl.enterRunningAdopted rot = { sl with
    counter := 0, aValue := 0, aArmed := false, pValue := rot, pArmed := decide (rot ≠ 0)
    permit := some { p with
      state := .running, origin := .adopted, reason := none, minRunMet := true, rotationDue := false } } := by
  by_cases h : rot = 0
  · simp [Slot.enterRunningAdopted, Slot.loadP, hp, h]
  · simp [Slot.enterRunningAdopted, Slot.loadP, hp, h, Nat.pos_of_ne_zero h]

end

/-! ### What the operations over a unit's permits leave of the tables -/

section

variable {s : State} {u : UnitNo}

theorem State.Narrows.of_slots {t : State} {c : SlotNo → Prop} (hc : ∀ i, c i → ∃ p, s.slots[i].permit = some p ∧ p.unit = u)
    (hout : ∀ i : SlotNo, ¬c i → t.slots[i].permit = s.slots[i].permit)
    (hin : ∀ (i : SlotNo) (p : Permit), c i → s.slots[i].permit = some p → ∃ q, t.slots[i].permit = some q
      ∧ q.unit = p.unit ∧ q.stage = p.stage ∧ q.rating = p.rating)
    (hfree : t.freeList = s.freeList) (hsite : t.site = s.site) (hunits : ∀ v : UnitNo, v ≠ u → t.units[v] = s.units[v])
    (hcore : t.core u = s.core u) : s.Narrows u t where
  others i p hp := by
    by_cases h : c i
    · obtain ⟨x, hx, hxu⟩ := hc i h
      obtain ⟨q, hq, hqu, -⟩ := hin i x h hx
      rw [hx, hq, Option.some.injEq, Option.some.injEq]
      exact iff_of_false (fun e => hp (by rw [← e, hqu, hxu])) fun e => hp (by rw [← e, hxu])
    · rw [hout i h]
  back i q hq hqu := by
    by_cases h : c i
    · obtain ⟨x, hx, hxu⟩ := hc i h
      obtain ⟨y, hy, -, hk, hr⟩ := hin i x h hx
      cases hq.symm.trans hy
      exact ⟨x, hx, hxu, hk.symm, hr.symm⟩
    · exact ⟨q, hout i h ▸ hq, hqu, rfl, rfl⟩
  free hs := State.freeListSound_of_isSome hs hfree fun i => by
    by_cases h : c i
    · obtain ⟨x, hx, -⟩ := hc i h
      obtain ⟨q, hq, -⟩ := hin i x h hx
      rw [hx, hq]; rfl
    · rw [hout i h]
  site := hsite
  units := hunits
  unit := .inl hcore

/-- A change of one slot's permit that keeps its unit, stage and rating. -/
theorem State.narrows_modifySlot {i : SlotNo} {p : Permit} {f : Slot → Slot} (hp : s.slots[i].permit = some p)
    (hu : p.unit = u) (hf : ∃ q, (f s.slots[i]).permit = some q ∧ q.unit = p.unit ∧ q.stage = p.stage
      ∧ q.rating = p.rating) : s.Narrows u (s.modifySlot i f) :=
  State.Narrows.of_slots (c := (· = i)) (fun j hj => ⟨p, hj ▸ hp, hu⟩)
    (fun j hj => by rw [s.slots_modifySlot, if_neg hj])
    (fun j q hj hq => by
      subst hj
      cases hp.symm.trans hq
      rw [s.slots_modifySlot, if_pos rfl]
      exact hf)
    rfl rfl (fun _ _ => rfl) rfl

theorem State.narrows_withSlots {v : Vector Slot 96} {c : SlotNo → Prop}
    (hc : ∀ i, c i → ∃ p, s.slots[i].permit = some p ∧ p.unit = u)
    (hout : ∀ i : SlotNo, ¬c i → v[i].permit = s.slots[i].permit)
    (hin : ∀ (i : SlotNo) (p : Permit), c i → s.slots[i].permit = some p → ∃ q, v[i].permit = some q
      ∧ q.unit = p.unit ∧ q.stage = p.stage ∧ q.rating = p.rating) : s.Narrows u (s.withSlots v) :=
  State.Narrows.of_slots (t := s.withSlots v) hc hout hin rfl rfl (fun _ _ => rfl) rfl

/-- A change of a set of the unit's slots that keeps each permit's unit, stage and rating. -/
theorem State.narrows_mapSlots {c : Permit → Bool} {f : Slot → Slot}
    (hf : ∀ (sl : Slot) (p : Permit), sl.permit = some p → p.unit = u → c p = true → ∃ q, (f sl).permit = some q
      ∧ q.unit = p.unit ∧ q.stage = p.stage ∧ q.rating = p.rating) : s.Narrows u (s.mapSlots (s.holds u c) f) := by
  have hslots := s.slots_mapSlots (s.holds u c) f
  refine State.narrows_withSlots (c := fun i => s.holds u c i = true) (fun i hi => ?_) (fun i hi => ?_) fun i p hi hp => ?_
  · obtain ⟨p, hp, hu, -⟩ := (s.holds_iff u c i).mp hi
    exact ⟨p, hp, hu⟩
  · exact congrArg Slot.permit ((hslots i).trans (if_neg hi))
  · obtain ⟨x, hx, hu, hcx⟩ := (s.holds_iff u c i).mp hi
    cases hp.symm.trans hx
    obtain ⟨q, hq, h⟩ := hf _ p hp hu hcx
    exact ⟨q, (congrArg Slot.permit ((hslots i).trans (if_pos hi))).trans hq, h⟩

theorem State.settleCompliance_core (s : State) (u : UnitNo) : (s.settleCompliance u).core u = s.core u := by
  unfold State.core State.record State.status
  rw [s.settleCompliance_unit u]
  split <;> rfl

/-- A change of the unit's record that the tables' conditions do not read. -/
theorem State.narrows_of_aside {t : State} (ha : s.Aside u t) (hslots : t.slots = s.slots)
    (hfree : t.freeList = s.freeList) (hcore : t.core u = s.core u) : s.Narrows u t :=
  State.Narrows.of_slots (c := fun _ => False) (fun _ h => h.elim) (fun _ _ => by rw [hslots]) (fun _ _ h => h.elim)
    hfree ha.base.site ha.units hcore

theorem State.settleCompliance_freeList (s : State) (u : UnitNo) : (s.settleCompliance u).freeList = s.freeList := by
  unfold State.settleCompliance; split <;> rfl

theorem State.narrows_settleCompliance (s : State) (u : UnitNo) : s.Narrows u (s.settleCompliance u) :=
  State.narrows_of_aside (s.settleCompliance_aside u) (s.settleCompliance_slots u) (s.settleCompliance_freeList u)
    (s.settleCompliance_core u)

theorem State.core_joinUrgent (s : State) (u v : UnitNo) : (s.joinUrgent u).core v = s.core v :=
  State.core_of_units (by rw [s.joinUrgent_units])

theorem State.narrows_joinUrgent (s : State) (u : UnitNo) : s.Narrows u (s.joinUrgent u) :=
  State.narrows_of_aside (s.joinUrgent_aside u) (s.joinUrgent_slots u) (s.joinUrgent_freeList u) (s.core_joinUrgent u u)

theorem State.narrows_handOver (s : State) (u : UnitNo) (n : Nat) : s.Narrows u (s.handOver u n) := by
  unfold State.handOver; split
  · exact .refl u s
  · exact s.narrows_joinUrgent u

/-- A slot freed goes to the tail of the free list, and may complete the unit's retirement (R17, R35). -/
theorem State.narrows_freeSlot {i : SlotNo} (hi : ∃ p, s.slots[i].permit = some p ∧ p.unit = u) :
    s.Narrows u (s.freeSlot u i) := by
  obtain ⟨x, hx, hxu⟩ := hi
  have hslots (j : SlotNo) : (s.freeSlot u i).slots[j].permit = if j = i then none else s.slots[j].permit := by
    rw [s.freeSlot_slots, getElem_set_eq]
    split <;> rfl
  refine ⟨fun j p hp => ?_, fun j q hq hqu => ?_, fun hs => ?_, (s.freeSlot_aside u i).base.site,
    (s.freeSlot_aside u i).units, ?_⟩
  · rw [hslots]
    split
    · next h =>
      refine iff_of_false (by simp) fun e => hp ?_
      rw [h, hx] at e
      cases e
      exact hxu
    · exact Iff.rfl
  · rw [hslots] at hq
    split at hq
    · cases hq
    · exact ⟨q, hq, hqu, rfl, rfl⟩
  · exact State.freeListSound_of_freed hs (by rw [hx]; simp) (s.freeSlot_freeList u i) hslots
  · rcases s.freeSlot_units u i u with h | ⟨-, -, h, hno⟩
    · exact .inl (State.core_of_units h)
    · refine .inr ⟨?_, hno⟩
      unfold State.core State.record State.status
      rw [h]
      rfl

theorem State.narrows_restSlot {i : SlotNo} (hi : ∃ p, s.slots[i].permit = some p ∧ p.unit = u) :
    s.Narrows u (s.restSlot u i) := by
  unfold State.restSlot
  split
  · exact State.narrows_freeSlot hi
  · obtain ⟨p, hp, hu⟩ := hi
    refine State.narrows_modifySlot hp hu ?_
    rw [Slot.enterResting_of hp]
    exact ⟨_, rfl, rfl, rfl, rfl⟩

theorem State.narrows_stopSlot {i : SlotNo} (hi : ∃ p, s.slots[i].permit = some p ∧ p.unit = u) :
    s.Narrows u (s.stopSlot u i) := by
  unfold State.stopSlot
  split
  · exact State.narrows_restSlot hi
  · obtain ⟨p, hp, hu⟩ := hi
    refine State.narrows_modifySlot hp hu ?_
    rw [Slot.enterStopping_of hp]
    exact ⟨_, rfl, rfl, rfl, rfl⟩

/-- A fold of operations, each over one slot that holds a permit of the unit, and writing that slot alone. -/
theorem State.narrows_foldl {op : State → SlotNo → State}
    (hop : ∀ (t : State) (i : SlotNo), (∃ p, t.slots[i].permit = some p ∧ p.unit = u) → t.Narrows u (op t i))
    (hself : ∀ (t : State) (i j : SlotNo), j ≠ i → (op t i).slots[j] = t.slots[j]) (l : List SlotNo) :
    ∀ s : State, l.Nodup → (∀ i ∈ l, ∃ p, s.slots[i].permit = some p ∧ p.unit = u) → s.Narrows u (l.foldl op s) := by
  induction l with
  | nil => exact fun s _ _ => .refl u s
  | cons a l ih =>
    intro s hl h
    obtain ⟨hal, hl⟩ := List.nodup_cons.mp hl
    refine (hop s a (h a List.mem_cons_self)).trans (ih (op s a) hl fun i hi => ?_)
    rw [hself s a i fun e => hal (e ▸ hi)]
    exact h i (List.mem_cons_of_mem a hi)

theorem State.mem_slotsOf_unit (s : State) (u : UnitNo) (f : Permit → Bool) {i : SlotNo} (h : i ∈ s.slotsOf u f) :
    ∃ p, s.slots[i].permit = some p ∧ p.unit = u := by
  obtain ⟨p, hp, hu, -⟩ := (s.mem_slotsOf u f i).mp h
  exact ⟨p, hp, hu⟩

theorem State.narrows_restAll {l : List SlotNo} (hl : l.Nodup) (h : ∀ i ∈ l, ∃ p, s.slots[i].permit = some p ∧ p.unit = u) :
    s.Narrows u (s.restAll u l) :=
  State.narrows_foldl (fun t i hi => State.narrows_restSlot hi)
    (fun t i j hj => (t.restSlot_slots u i j).trans (if_neg hj)) l s hl h

theorem State.narrows_forceSlot {i : SlotNo} (hi : ∃ p, s.slots[i].permit = some p ∧ p.unit = u) :
    s.Narrows u (s.forceSlot u i) := by
  obtain ⟨p, hp, hu⟩ := hi
  have hforced := Slot.setReason_of hp .forced
  have hslot : (s.modifySlot i (Slot.setReason .forced)).slots[i].permit = some { p with reason := some .forced } := by
    rw [s.slots_modifySlot, if_pos rfl]
    exact hforced
  exact (State.narrows_modifySlot hp hu ⟨_, hforced, rfl, rfl, rfl⟩).trans (State.narrows_stopSlot ⟨_, hslot, hu⟩)

theorem State.narrows_descend (n : Nat) : ∀ s : State, s.Narrows u (s.descend n u) := by
  induction n with
  | zero => exact fun s => .refl u s
  | succ n ih =>
    intro s
    rcases s.descend_cases u n with h | ⟨i, p, -, hp, hu, -, -, h⟩ <;> rw [h]
    · exact .refl u s
    · exact (State.narrows_stopSlot ⟨p, hp, hu⟩).trans (ih _)

theorem State.narrows_topOrder (s : State) (u : UnitNo) : s.Narrows u (s.topOrder u) := State.narrows_descend 4 s

theorem State.narrows_drained (s : State) (u : UnitNo) (r : StopReason) (stages : Nat → Bool) :
    s.Narrows u (s.drained u r stages) :=
  State.narrows_mapSlots fun sl p hp _ _ => ⟨_, (sl.enterDraining_permit _ r).trans (congrArg _ hp), rfl, rfl, rfl⟩

theorem State.narrows_enterStop (s : State) (u : UnitNo) (r : StopReason) (stages : Nat → Bool) :
    s.Narrows u (s.enterStop u r stages) := by
  rw [State.enterStop_eq]
  exact (s.narrows_drained u r stages).trans (State.narrows_topOrder _ u)

theorem State.narrows_replaceDraining (s : State) (u : UnitNo) (r : StopReason) : s.Narrows u (s.replaceDraining u r) := by
  rw [State.replaceDraining_eq]
  exact State.narrows_mapSlots fun sl p hp _ _ => ⟨_, Slot.setReason_of hp r, rfl, rfl, rfl⟩

theorem State.narrows_spareClassZero (s : State) (u : UnitNo) : s.Narrows u (s.spareClassZero u) := by
  rw [State.spareClassZero_eq]
  exact State.narrows_mapSlots fun sl p hp _ _ => ⟨_, Slot.setReason_of hp .released, rfl, rfl, rfl⟩

theorem State.narrows_restoreBelow (s : State) (u : UnitNo) (d : Nat) : s.Narrows u (s.restoreBelow u d) := by
  rw [State.restoreBelow_eq]
  exact State.narrows_mapSlots fun sl p hp _ _ => ⟨_, congrArg Slot.permit (Slot.enterRunningRestored_of hp), rfl, rfl, rfl⟩

theorem State.narrows_releaseFrom (s : State) (u : UnitNo) (d : Nat) : s.Narrows u (s.releaseFrom u d) := by
  unfold State.releaseFrom
  dsimp only
  split
  · exact (s.narrows_enterStop u .released _).trans (State.narrows_handOver _ u _)
  · exact .refl u s

theorem State.narrows_applyDesired (s : State) (u : UnitNo) : s.Narrows u (s.applyDesired u) := by
  unfold State.applyDesired
  split
  · exact (s.narrows_restoreBelow u _).trans (State.narrows_releaseFrom _ u _)
  · exact .refl u s

/-- A retirement of a unit that holds no permit. -/
theorem State.narrows_retireIfEmpty (s : State) (u : UnitNo) : s.Narrows u (s.retireIfEmpty u) := by
  rcases s.retireIfEmpty_cases u with h | ⟨-, hno, h⟩
  · rw [h]; exact .refl u s
  · have ha := s.completeRetirement_aside u
    have hu := s.completeRetirement_units u u
    have hslots := s.completeRetirement_slots u
    have hfree := s.completeRetirement_freeList u
    rw [h]
    generalize s.completeRetirement u = t at ha hu hslots hfree
    refine ⟨fun _ _ _ => by rw [hslots], fun i q hq hqu => ⟨q, hslots ▸ hq, hqu, rfl, rfl⟩, fun hs => ?_, ha.base.site,
      ha.units, .inr ⟨?_, (State.hasPermit_of_slots hslots u).trans hno⟩⟩
    · exact State.freeListSound_of_isSome hs hfree fun i => by rw [hslots]
    · rw [if_pos rfl] at hu
      unfold State.core State.record State.status
      rw [hu]
      rfl

theorem State.narrows_complete (s : State) (u : UnitNo) (r : Nat) : s.Narrows u (s.complete u r) :=
  (State.narrows_restAll (s.slotsOf_nodup u _) fun i hi => s.mem_slotsOf_unit u _ hi).trans
    (State.narrows_settleCompliance _ u)

end

end Sys2Proof.Machine


/-! The order of a unit's stages under the operations of a request event and of a forced release (R24, R30, R38, R42). -/

namespace Sys2Proof.Machine

section

variable {s t : State} {u : UnitNo}

/-! ### Permits that go off from a stage up -/

/-- The commanded-on permits of a unit whose stages are as many as its level, and stand at the stages below it, in order. -/
theorem State.level_of_stages {n : Nat} (hd : ∀ {i j : SlotNo} {p q : Permit}, t.slots[i].permit = some p →
      t.slots[j].permit = some q → p.unit = u → q.unit = u → p.stage = q.stage → i = j)
    (hon : ∀ {i : SlotNo} {p : Permit}, t.slots[i].permit = some p → p.unit = u → p.state.commandedOn = true → p.stage < n)
    (hex : ∀ k < n, ∃ (i : SlotNo) (p : Permit), t.slots[i].permit = some p ∧ p.unit = u ∧ p.stage = k
      ∧ p.state.commandedOn = true) : t.level u = n := by
  have hmem {i : SlotNo} : i ∈ (t.slotsOf u (·.state.commandedOn)).toFinset ↔
      ∃ p, t.slots[i].permit = some p ∧ p.unit = u ∧ p.state.commandedOn = true := by
    rw [List.mem_toFinset, t.mem_slotsOf]
  have himage : (t.slotsOf u (·.state.commandedOn)).toFinset.image (fun i : SlotNo => t.slots[i].stage) = Finset.range n := by
    ext k
    rw [Finset.mem_image, Finset.mem_range]
    constructor
    · rintro ⟨i, hi, rfl⟩
      obtain ⟨p, hp, hu, hs⟩ := hmem.mp hi
      rw [Slot.stage_of hp]
      exact hon hp hu hs
    · intro hk
      obtain ⟨i, p, hp, hu, hpk, hs⟩ := hex k hk
      exact ⟨i, hmem.mpr ⟨p, hp, hu, hs⟩, (Slot.stage_of hp).trans hpk⟩
  have hinj : Set.InjOn (fun i : SlotNo => t.slots[i].stage) (t.slotsOf u (·.state.commandedOn)).toFinset := by
    intro i hi j hj hij
    obtain ⟨p, hp, hpu, -⟩ := hmem.mp hi
    obtain ⟨q, hq, hqu, -⟩ := hmem.mp hj
    dsimp only at hij
    rw [Slot.stage_of hp, Slot.stage_of hq] at hij
    exact hd hp hq hpu hqu hij
  have hcard := Finset.card_image_of_injOn hinj
  rw [himage, Finset.card_range, List.toFinset_card_of_nodup (t.slotsOf_nodup u _)] at hcard
  exact hcard.symm

/-- Commanded-on permits go off from a stage up, and no permit comes on: the stages below stay in order. -/
theorem State.InOrder.cut (h : s.InOrder u) {n : Nat}
    (hback : ∀ (i : SlotNo) (q : Permit), t.slots[i].permit = some q → q.unit = u →
      ∃ p, s.slots[i].permit = some p ∧ p.unit = u ∧ p.stage = q.stage
        ∧ (q.state.commandedOn = true → p.state.commandedOn = true ∧ p.stage < n))
    (hkeep : ∀ (i : SlotNo) (p : Permit), s.slots[i].permit = some p → p.unit = u → p.state.commandedOn = true →
      p.stage < n → ∃ q, t.slots[i].permit = some q ∧ q.unit = u ∧ q.stage = p.stage ∧ q.state.commandedOn = true) :
    t.InOrder u ∧ t.level u = min (s.level u) n := by
  have hd : ∀ {i j : SlotNo} {p q : Permit}, t.slots[i].permit = some p → t.slots[j].permit = some q → p.unit = u →
      q.unit = u → p.stage = q.stage → i = j := fun hp hq hpu hqu hk => by
    obtain ⟨p', hp', hpu', hpk, -⟩ := hback _ _ hp hpu
    obtain ⟨q', hq', hqu', hqk, -⟩ := hback _ _ hq hqu
    exact h.distinct hp' hq' hpu' hqu' (by omega)
  have hlt : ∀ {i : SlotNo} {q : Permit}, t.slots[i].permit = some q → q.unit = u → q.state.commandedOn = true →
      q.stage < min (s.level u) n := fun hq hqu hon => by
    obtain ⟨p, hp, hpu, hpk, hpon⟩ := hback _ _ hq hqu
    obtain ⟨hpon, hpn⟩ := hpon hon
    have := (h.on_iff hp hpu).mp hpon
    omega
  have hlevel : t.level u = min (s.level u) n := State.level_of_stages hd hlt fun k hk => by
    obtain ⟨i, p, hp, hpu, hpk, hpon⟩ := h.exists_on (k := k) (by omega)
    obtain ⟨q, hq, hqu, hqk, hqon⟩ := hkeep i p hp hpu hpon (by omega)
    exact ⟨i, q, hq, hqu, by omega, hqon⟩
  refine ⟨⟨hd, fun {i q} hq hqu => ⟨fun hon => hlevel ▸ hlt hq hqu hon, fun hk => ?_⟩⟩, hlevel⟩
  obtain ⟨p, hp, hpu, hpk, -⟩ := hback i q hq hqu
  obtain ⟨r, hr, hru, hrk, hron⟩ := hkeep i p hp hpu ((h.on_iff hp hpu).mpr (by omega)) (by omega)
  cases hq.symm.trans hr
  exact hron

theorem State.sameRoles_of_slots (h : t.slots = s.slots) : s.SameRoles t := fun i => by rw [h]

/-! ### The operations of a request event -/

theorem State.restoreBelow_sameRoles (s : State) (u : UnitNo) (d : Nat) : s.SameRoles (s.restoreBelow u d) := by
  rw [State.restoreBelow_eq]
  refine State.sameRoles_mapSlots fun i hi => ?_
  obtain ⟨p, hp, -, hs⟩ := (s.holds_iff u _ i).mp hi
  simp only [Bool.and_eq_true, decide_eq_true_eq] at hs
  rw [Slot.enterRunningRestored_of hp, hp, Option.map_some, Option.map_some, Permit.role, Permit.role, hs.1.1]
  rfl

theorem State.spareClassZero_sameRoles (s : State) (u : UnitNo) : s.SameRoles (s.spareClassZero u) := by
  rw [State.spareClassZero_eq]
  exact State.sameRoles_mapSlots fun i _ => Slot.setReason_role .released _

theorem State.InOrder.handOver (h : s.InOrder u) (n : Nat) :
    (s.handOver u n).InOrder u ∧ (s.handOver u n).level u = s.level u :=
  have hroles := State.sameRoles_of_slots (s.handOver_slots u n)
  ⟨hroles.inOrder h, hroles.level u⟩

theorem State.InOrder.releaseFrom (h : s.InOrder u) (d : Nat) :
    (s.releaseFrom u d).InOrder u ∧ (s.releaseFrom u d).level u ≤ s.level u := by
  unfold State.releaseFrom
  dsimp only
  split
  · obtain ⟨ho, hl⟩ := h.enterStop .released fun k => decide (d ≤ k)
    obtain ⟨ho', hl'⟩ := ho.handOver (s.level u)
    exact ⟨ho', hl'.trans_le hl⟩
  · exact ⟨h, le_refl _⟩

theorem State.InOrder.applyDesired (h : s.InOrder u) :
    (s.applyDesired u).InOrder u ∧ (s.applyDesired u).level u ≤ s.level u := by
  unfold State.applyDesired
  split
  · have hroles := s.restoreBelow_sameRoles u (s.effectiveDesired u)
    obtain ⟨ho, hl⟩ := (hroles.inOrder h).releaseFrom (s.effectiveDesired u)
    exact ⟨ho, hl.trans (hroles.level u).le⟩
  · exact ⟨h, le_refl _⟩

/-- STOPPING permits that come to rest leave the commanded-on ones as they are (R32). -/
theorem State.InOrder.complete (h : s.InOrder u) (r : Nat) :
    (s.complete u r).InOrder u ∧ (s.complete u r).level u = s.level u := by
  let l := s.slotsOf u fun p => decide (p.state = .stopping) && decide (r ≤ p.stage)
  have hslots (i : SlotNo) : (s.complete u r).slots[i] = if i ∈ l then s.rested u s.slots[i] else s.slots[i] := by
    rw [State.complete, State.settleCompliance_slots]
    exact State.restAll_slots u l s (s.slotsOf_nodup u _) i
  have hmem {i : SlotNo} (hi : i ∈ l) {p : Permit} (hp : s.slots[i].permit = some p) : p.state = .stopping := by
    obtain ⟨x, hx, -, hs⟩ := (s.mem_slotsOf u _ i).mp hi
    cases hp.symm.trans hx
    exact of_decide_eq_true (Bool.and_eq_true_iff.mp hs).1
  have := h.cut (t := s.complete u r) (n := s.level u)
    (fun i q hq hqu => by
      obtain ⟨p, hp, hpu, hpk, -⟩ := (s.narrows_complete u r).back i q hq hqu
      refine ⟨p, hp, hpu, hpk, fun hon => ?_⟩
      rw [hslots] at hq
      split at hq
      · rw [s.rested_state u hq] at hon; cases hon
      · cases hp.symm.trans hq
        exact ⟨hon, (h.on_iff hp hpu).mp hon⟩)
    (fun i p hp hpu hon _ => by
      refine ⟨p, ?_, hpu, rfl, hon⟩
      rw [hslots, if_neg fun hi => ?_]
      · exact hp
      · rw [hmem hi hp] at hon; cases hon)
  exact ⟨this.1, this.2.trans (Nat.min_self _)⟩

/-! ### The trip (R38) -/

/-- The slots of the permits that a trip sends to RESTING. -/
def State.trippedSlots (u : UnitNo) (s : State) : List SlotNo :=
  s.slotsOf u fun p => decide (p.state ≠ .resting) && decide (s.runningLevel u ≤ p.stage)

/-- The tripped permits at rest, before the noncompliant flag is tested. -/
def State.trippedDown (u : UnitNo) (s : State) : State :=
  ((s.trippedSlots u).foldl (fun t i => t.modifySlot i (Slot.setReason .tripped)) s).restAll u (s.trippedSlots u)

theorem State.trip_eq (s : State) (u : UnitNo) :
    s.trip u = (((s.trippedDown u).settleCompliance u).topOrder u).handOver u (s.level u) := rfl

theorem State.trippedReasons_eq (s : State) (u : UnitNo) :
    (s.trippedSlots u).foldl (fun t i => t.modifySlot i (Slot.setReason .tripped)) s = s.mapSlots
      (s.holds u fun p => decide (p.state ≠ .resting) && decide (s.runningLevel u ≤ p.stage)) (Slot.setReason .tripped) :=
  s.foldl_slotsOf u (F := fun _ => Slot.setReason .tripped) (fun _ _ _ => rfl) _

theorem State.narrows_trippedReasons (s : State) (u : UnitNo) : s.Narrows u
    ((s.trippedSlots u).foldl (fun t i => t.modifySlot i (Slot.setReason .tripped)) s) := by
  rw [State.trippedReasons_eq]
  exact State.narrows_mapSlots fun sl p hp _ _ => ⟨_, Slot.setReason_of hp .tripped, rfl, rfl, rfl⟩

theorem State.trippedReasons_slots (s : State) (u : UnitNo) (i : SlotNo) :
    ((s.trippedSlots u).foldl (fun t i => t.modifySlot i (Slot.setReason .tripped)) s).slots[i]
      = if i ∈ s.trippedSlots u then s.slots[i].setReason .tripped else s.slots[i] := by
  have hmem : (i ∈ s.trippedSlots u) = (s.holds u (fun p => decide (p.state ≠ .resting)
      && decide (s.runningLevel u ≤ p.stage)) i = true) := by
    rw [← s.decide_mem_slotsOf u _ i, decide_eq_true_eq]
    rfl
  rw [State.trippedReasons_eq, s.slots_mapSlots]
  simp only [hmem]

theorem State.trippedSlots_nodup (s : State) (u : UnitNo) : (s.trippedSlots u).Nodup := s.slotsOf_nodup u _

theorem State.trippedReasons_rested (s : State) (u : UnitNo) :
    ((s.trippedSlots u).foldl (fun t i => t.modifySlot i (Slot.setReason .tripped)) s).rested u = s.rested u := by
  rw [State.trippedReasons_eq]
  exact State.rested_congr u (s.withSlots_minOff u _)

theorem State.trippedDown_slots (s : State) (u : UnitNo) (i : SlotNo) : (s.trippedDown u).slots[i] =
    if i ∈ s.trippedSlots u then s.rested u (s.slots[i].setReason .tripped) else s.slots[i] := by
  have h := State.restAll_slots u (s.trippedSlots u)
    ((s.trippedSlots u).foldl (fun t i => t.modifySlot i (Slot.setReason .tripped)) s) (s.trippedSlots_nodup u) i
  rw [State.trippedReasons_rested, State.trippedReasons_slots] at h
  rw [State.trippedDown, h]
  split <;> rfl

theorem State.narrows_trippedDown (s : State) (u : UnitNo) : s.Narrows u (s.trippedDown u) := by
  refine (s.narrows_trippedReasons u).trans (State.narrows_restAll (s.trippedSlots_nodup u) fun i hi => ?_)
  obtain ⟨p, hp, hu, -⟩ := (s.mem_slotsOf u _ i).mp hi
  have hslot := (s.trippedReasons_slots u i).trans (if_pos hi)
  exact ⟨_, (congrArg Slot.permit hslot).trans (Slot.setReason_of hp .tripped), hu⟩

theorem State.narrows_trip (s : State) (u : UnitNo) : s.Narrows u (s.trip u) := by
  rw [State.trip_eq]
  exact (((s.narrows_trippedDown u).trans (State.narrows_settleCompliance _ u)).trans
    (State.narrows_topOrder _ u)).trans (State.narrows_handOver _ u _)

theorem State.mem_trippedSlots {i : SlotNo} {p : Permit} (hp : s.slots[i].permit = some p) (hu : p.unit = u) :
    i ∈ s.trippedSlots u ↔ p.state ≠ .resting ∧ s.runningLevel u ≤ p.stage := by
  rw [State.trippedSlots, s.mem_slotsOf]
  constructor
  · rintro ⟨q, hq, -, hs⟩
    cases hp.symm.trans hq
    simpa only [Bool.and_eq_true, decide_eq_true_eq] using hs
  · rintro ⟨h1, h2⟩
    exact ⟨p, hp, hu, by rw [decide_eq_true h1, decide_eq_true h2]; rfl⟩

/-- A trip takes the commanded-on permits off from the running level up (R38). -/
theorem State.InOrder.trippedDown (h : s.InOrder u) :
    (s.trippedDown u).InOrder u ∧ (s.trippedDown u).level u = min (s.level u) (s.runningLevel u) := by
  refine h.cut (fun i q hq hqu => ?_) fun i p hp hpu hon hk => ?_
  · obtain ⟨p, hp, hpu, hpk, -⟩ := (s.narrows_trippedDown u).back i q hq hqu
    refine ⟨p, hp, hpu, hpk, fun hon => ?_⟩
    rw [State.trippedDown_slots] at hq
    split at hq
    · rw [s.rested_state u hq] at hon; cases hon
    · next hi =>
      cases hp.symm.trans hq
      refine ⟨hon, Nat.lt_of_not_le fun hr => hi ((State.mem_trippedSlots hp hpu).mpr ⟨fun h => ?_, hr⟩)⟩
      rw [h] at hon; cases hon
  · refine ⟨p, ?_, hpu, rfl, hon⟩
    rw [State.trippedDown_slots, if_neg fun hi => Nat.not_le.mpr hk ((State.mem_trippedSlots hp hpu).mp hi).2]
    exact hp

theorem State.InOrder.trip (h : s.InOrder u) : (s.trip u).InOrder u ∧ (s.trip u).level u ≤ s.level u := by
  obtain ⟨ho, hl⟩ := h.trippedDown
  have hc := State.sameRoles_of_slots ((s.trippedDown u).settleCompliance_slots u)
  obtain ⟨ho', hl', -⟩ := (hc.inOrder ho).descend 4
  rw [State.trip_eq]
  obtain ⟨ho2, hl2⟩ := State.InOrder.handOver (s := ((s.trippedDown u).settleCompliance u).topOrder u) ho' (s.level u)
  refine ⟨ho2, hl2.trans_le (hl'.trans ?_)⟩
  rw [hc.level u, hl]
  exact Nat.min_le_left _ _

/-! ### The forced release (R39) -/

theorem State.narrows_forceRelease (s : State) (u : UnitNo) : s.Narrows u (s.forceRelease u) := by
  rw [State.forceRelease_eq]
  refine State.Narrows.trans ?_ (State.narrows_settleCompliance _ u)
  refine (State.narrows_restAll (s.slotsOf_nodup u _) fun i hi => s.mem_slotsOf_unit u _ hi).trans
    (State.narrows_foldl (fun t i hi => State.narrows_forceSlot hi)
      (fun t i j hj => (t.forceSlot_slots u i j).trans (if_neg hj)) _ _ (s.slotsOf_nodup u _) fun i hi => ?_)
  obtain ⟨p, hp, hu, hon⟩ := (s.mem_slotsOf u _ i).mp hi
  refine ⟨p, ?_, hu⟩
  rw [State.restAll_slots u _ s (s.slotsOf_nodup u _), if_neg fun hi' => ?_]
  · exact hp
  · obtain ⟨q, hq, -, hs⟩ := (s.mem_slotsOf u _ i).mp hi'
    cases hp.symm.trans hq
    rw [of_decide_eq_true hs] at hon
    cases hon

theorem State.InOrder.forceRelease (h : s.InOrder u) : (s.forceRelease u).InOrder u where
  distinct hp hq hpu hqu hk := by
    obtain ⟨p', hp', hpu', hpk, -⟩ := (s.narrows_forceRelease u).back _ _ hp hpu
    obtain ⟨q', hq', hqu', hqk, -⟩ := (s.narrows_forceRelease u).back _ _ hq hqu
    exact h.distinct hp' hq' hpu' hqu' (by omega)
  on_iff {i p} hp hpu := by
    have h0 := s.forceRelease_level u
    rw [h0]
    refine ⟨fun hon => ?_, fun hk => absurd hk (Nat.not_lt_zero _)⟩
    exact absurd h0 ((State.level_ne_zero_iff _ u).mpr ⟨i, p, hp, hpu, hon⟩)

end

end Sys2Proof.Machine


/-! New permits: what a grant, an adoption and an unpermitted stage leave of the tables (R21, R23, R42, R45, R99), and the
request event as a whole before its desire step (R9). -/

namespace Sys2Proof.Machine

section

variable {s t : State} {u : UnitNo}

/-! ### One more permit -/

/-- The head slot of the free list takes a permit at a stage of a unit that has none there. -/
theorem State.Tables.take (hs : s.Tables) {i : SlotNo} {q : Permit} (hfree : s.freeList = i :: t.freeList)
    (hslots : ∀ j : SlotNo, t.slots[j].permit = if j = i then some q else s.slots[j].permit)
    (hnone : s.slotAt q.unit q.stage = none) (hrating : s.rating q.unit q.stage = some q.rating)
    (hsite : t.site = s.site) (hunits : t.units = s.units) : t.Tables := by
  have hcore (v : UnitNo) : t.core v = s.core v := State.core_of_units (by rw [hunits])
  obtain ⟨hrec, hbound⟩ := State.records_of_core hs.records hs.bounded (hsite ▸ hs.records.1) fun v => .inl (hcore v)
  have hno := State.slotAt_none_iff.mp hnone
  refine ⟨State.freeListSound_of_taken hs.free hfree hslots, fun j k x hx y hy hu hk => ?_, fun j x hx => ?_, hrec, hbound⟩
  · have hx : (if j = i then some q else s.slots[j].permit) = some x := hslots j ▸ hx
    have hy : (if k = i then some q else s.slots[k].permit) = some y := hslots k ▸ hy
    split at hx
    · cases hx
      split at hy
      · next h1 h2 => rw [h1, h2]
      · exact absurd hk.symm (hno k y hy hu.symm)
    · split at hy
      · cases hy
        exact absurd hk (hno j x hx hu)
      · exact hs.distinct j k x hx y hy hu hk
  · have hrate (v : UnitNo) (n : Nat) : t.rating v n = s.rating v n := by
      simp only [State.rating, State.record, hunits]
    rw [hrate]
    have hx : (if j = i then some q else s.slots[j].permit) = some x := hslots j ▸ hx
    split at hx
    · cases hx
      exact hrating
    · exact hs.ratings j x hx

/-- A slot that holds no permit of the unit, or its permit at the next stage, comes on there: the level rises by 1. -/
theorem State.InOrder.raise (h : s.InOrder u) {i : SlotNo} {q : Permit}
    (hslots : ∀ j : SlotNo, t.slots[j].permit = if j = i then some q else s.slots[j].permit) (hqu : q.unit = u)
    (hqk : q.stage = s.level u) (hqon : q.state.commandedOn = true)
    (hi : ∀ p, s.slots[i].permit = some p → p.unit = u → p.stage = s.level u)
    (hno : ∀ (j : SlotNo) (p : Permit), j ≠ i → s.slots[j].permit = some p → p.unit = u → p.stage ≠ s.level u) :
    t.InOrder u ∧ t.level u = s.level u + 1 := by
  have hoff : s.holds u (·.state.commandedOn) i = false := Bool.eq_false_iff.mpr fun hh => by
    obtain ⟨p, hp, hpu, hon⟩ := (s.holds_iff u _ i).mp hh
    have := (h.on_iff hp hpu).mp hon
    have := hi p hp hpu
    omega
  have hlevel : t.level u = s.level u + 1 := State.level_of_on u (i := i) (fun j hj => (hslots j).trans (if_neg hj)) hoff
    ((t.holds_iff u _ i).mpr ⟨q, (hslots i).trans (if_pos rfl), hqu, hqon⟩)
  refine ⟨⟨fun {j k x y} hx hy hxu hyu hk => ?_, fun {j x} hx hxu => ?_⟩, hlevel⟩
  · have hx : (if j = i then some q else s.slots[j].permit) = some x := hslots j ▸ hx
    have hy : (if k = i then some q else s.slots[k].permit) = some y := hslots k ▸ hy
    split at hx
    · cases hx
      split at hy
      · next h1 h2 => rw [h1, h2]
      · next h2 => exact absurd (hk.symm.trans hqk) (hno k y h2 hy hyu)
    · next h1 =>
      split at hy
      · cases hy
        exact absurd (hk.trans hqk) (hno j x h1 hx hxu)
      · exact h.distinct hx hy hxu hyu hk
  · have hx : (if j = i then some q else s.slots[j].permit) = some x := hslots j ▸ hx
    split at hx
    · cases hx
      exact iff_of_true hqon (by omega)
    · next hj =>
      have hne := hno j x hj hx hxu
      rw [h.on_iff hx hxu]
      omega

/-- A new permit that is off, at a stage that has none and is not commanded on. -/
theorem State.InOrder.addOff (h : s.InOrder u) {i : SlotNo} {q : Permit}
    (hslots : ∀ j : SlotNo, t.slots[j].permit = if j = i then some q else s.slots[j].permit)
    (hi : s.slots[i].permit = none) (hnone : s.slotAt u q.stage = none)
    (hqoff : q.state.commandedOn = false) : t.InOrder u ∧ t.level u = s.level u := by
  have hno := State.slotAt_none_iff.mp hnone
  have hlevel : t.level u = s.level u := congrArg List.length (State.slotsOf_congr u fun j => by
    by_cases hj : j = i
    · rw [State.holds_eq_any, State.holds_eq_any, hslots, if_pos hj, hj, hi, Option.any_some, hqoff, Bool.and_false]
      rfl
    · exact State.holds_congr u ((hslots j).trans (if_neg hj)) _)
  have hge : s.level u ≤ q.stage := Nat.le_of_not_lt fun hlt => by
    obtain ⟨j, p, hp, hpu, hpk, -⟩ := h.exists_on hlt
    exact hno j p hp hpu hpk
  refine ⟨⟨fun {j k x y} hx hy hxu hyu hk => ?_, fun {j x} hx hxu => ?_⟩, hlevel⟩
  · have hx : (if j = i then some q else s.slots[j].permit) = some x := hslots j ▸ hx
    have hy : (if k = i then some q else s.slots[k].permit) = some y := hslots k ▸ hy
    split at hx
    · cases hx
      split at hy
      · next h1 h2 => rw [h1, h2]
      · exact absurd hk.symm (hno k y hy hyu)
    · split at hy
      · cases hy
        exact absurd hk (hno j x hx hxu)
      · exact h.distinct hx hy hxu hyu hk
  · have hx : (if j = i then some q else s.slots[j].permit) = some x := hslots j ▸ hx
    rw [hlevel]
    split at hx
    · cases hx
      rw [hqoff]
      exact iff_of_false Bool.false_ne_true (by omega)
    · exact h.on_iff hx hxu

/-! ### The permits of every other unit -/

/-- Two states with the same permits and records of every unit but one. -/
structure State.Apart (u : UnitNo) (s t : State) : Prop where
  permits : ∀ (i : SlotNo) (p : Permit), p.unit ≠ u → (t.slots[i].permit = some p ↔ s.slots[i].permit = some p)
  units : ∀ v : UnitNo, v ≠ u → t.units[v] = s.units[v]

theorem State.Apart.refl (u : UnitNo) (s : State) : s.Apart u s := ⟨fun _ _ _ => Iff.rfl, fun _ _ => rfl⟩

theorem State.Apart.trans {r : State} (h : State.Apart u s t) (k : State.Apart u t r) : State.Apart u s r :=
  ⟨fun i p hp => (k.permits i p hp).trans (h.permits i p hp), fun v hv => (k.units v hv).trans (h.units v hv)⟩

theorem State.Narrows.apart (h : State.Narrows u s t) : State.Apart u s t := ⟨h.others, h.units⟩

/-- A slot that is FREE or of the unit takes a permit of the unit. -/
theorem State.Apart.of_set {i : SlotNo} {q : Permit}
    (hslots : ∀ j : SlotNo, t.slots[j].permit = if j = i then some q else s.slots[j].permit) (hqu : q.unit = u)
    (hi : ∀ p, s.slots[i].permit = some p → p.unit = u) (hunits : t.units = s.units) : State.Apart u s t :=
  ⟨fun j p hp => by
    rw [hslots]
    split
    · next h =>
      subst h
      exact iff_of_false (fun e => hp (by cases e; exact hqu)) fun e => hp (hi p e)
    · exact Iff.rfl, fun v _ => by rw [hunits]⟩

/-! ### Adoption (R42, R43) -/

theorem Slot.newPermit_permit (k rating : Nat) (st : PermitState) (o : Origin) (met : Bool) (r : Option StopReason) :
    (Slot.newPermit u k rating st o met r).permit = some ⟨u, k, rating, st, o, met, false, r⟩ := rfl

theorem Slot.adoptedNew_permit (k rating rot : Nat) :
    ((Slot.newPermit u k rating .running .adopted true none).enterRunningAdopted rot).permit
      = some ⟨u, k, rating, .running, .adopted, true, false, none⟩ :=
  congrArg Slot.permit (Slot.enterRunningAdopted_of (Slot.newPermit_permit k rating .running .adopted true none))

/-- What the head of the free list is: FREE, and off it once it is taken. -/
theorem State.takeFree_some {sl : Slot} (h : s.takeFree sl = some t) : ∃ i : SlotNo, s.freeList = i :: t.freeList
    ∧ (∀ j : SlotNo, t.slots[j] = if j = i then sl else s.slots[j]) ∧ t.units = s.units ∧ t.site = s.site := by
  unfold State.takeFree at h
  split at h
  · cases h
  · next i rest hf =>
    cases h
    exact ⟨i, hf, fun j => getElem_set_eq _ i j sl, rfl, rfl⟩

theorem State.head_free (hs : s.freeListSound) {i : SlotNo} {rest : List SlotNo} (h : s.freeList = i :: rest) :
    s.slots[i].permit = none := (hs.2 i).mp (h ▸ List.mem_cons_self)

theorem State.stageCount_congr (h : t.record u = s.record u) : t.stageCount u = s.stageCount u := by
  rw [State.stageCount, State.stageCount, h]

theorem State.rating_isSome {k : Nat} (h : k < s.stageCount u) : s.rating u k = some ((s.rating u k).getD 0) := by
  unfold State.stageCount at h
  unfold State.rating
  cases hr : s.record u with
  | none => rw [hr] at h; exact absurd h (Nat.not_lt_zero _)
  | some r =>
    rw [hr, Option.elim_some, UnitRecord.stageCount] at h
    rw [Option.bind_some, List.getElem?_eq_getElem h]
    rfl

/-- Adoption from the commanded level up leaves the tables right, with the unit's stages in order. -/
theorem State.adopt_sound (m : Nat) : ∀ (l : Nat) (s : State), s.Tables → s.InOrder u → s.level u = l →
    l + m ≤ s.stageCount u → (s.adopt u (List.range' l m)).Tables ∧ (s.adopt u (List.range' l m)).InOrder u
      ∧ s.Apart u (s.adopt u (List.range' l m)) ∧ (s.adopt u (List.range' l m)).units = s.units := by
  induction m with
  | zero => exact fun l s hs ho _ _ => ⟨hs, ho, .refl u s, rfl⟩
  | succ m ih =>
    intro l s hs ho hl hm
    rw [List.range'_succ, State.adopt]
    split
    · next i hi =>
      obtain ⟨p, hp, hpu, hpk⟩ := s.slotAt_some u hi
      let t := s.modifySlot i (Slot.enterRunningAdopted (s.rotation u))
      have hslot : t.slots[i].permit = some { p with
          state := .running, origin := .adopted, reason := none, minRunMet := true, rotationDue := false } := by
        rw [s.slots_modifySlot, if_pos rfl, Slot.enterRunningAdopted_of hp]
      have hn : s.Narrows u t := State.narrows_modifySlot hp hpu
        ⟨_, congrArg Slot.permit (Slot.enterRunningAdopted_of hp), rfl, rfl, rfl⟩
      obtain ⟨ho', hl'⟩ := ho.raise (t := t) (i := i) (q := { p with
          state := .running, origin := .adopted, reason := none, minRunMet := true, rotationDue := false })
        (fun j => by
          by_cases hj : j = i
          · rw [if_pos hj, hj]; exact hslot
          · rw [if_neg hj, s.slots_modifySlot, if_neg hj])
        hpu (hpk.trans hl.symm) rfl
        (fun x hx _ => by cases hp.symm.trans hx; omega)
        (fun j x hj hx hxu hxk => hj (ho.distinct hx hp hxu hpu (by omega)))
      obtain ⟨h1, h2, h3, h4⟩ := ih (l + 1) t (hn.tables hs) ho' (hl'.trans (by omega))
        (by rw [State.stageCount_congr (s := s) (t := t) rfl]; omega)
      exact ⟨h1, h2, hn.apart.trans h3, h4⟩
    · next hnone =>
      dsimp only
      split
      · next t ht =>
        obtain ⟨i, hfree, hslots, hunits, hsite⟩ := s.takeFree_some ht
        have hslots' (j : SlotNo) : t.slots[j].permit = if j = i then
            some ⟨u, l, (s.rating u l).getD 0, .running, .adopted, true, false, none⟩ else s.slots[j].permit := by
          rw [hslots j]
          split
          · exact Slot.adoptedNew_permit l _ _
          · rfl
        have hi : s.slots[i].permit = none := State.head_free hs.free hfree
        have hrec : t.record u = s.record u := (State.record_of_units (by rw [hunits])).1
        have ht' := hs.take hfree hslots' hnone (State.rating_isSome (show l < s.stageCount u by omega)) hsite hunits
        obtain ⟨ho', hl'⟩ := ho.raise hslots' rfl hl.symm rfl (fun x hx _ => absurd (hi.symm.trans hx) (by simp))
          fun j x _ hx hxu => hl ▸ State.slotAt_none_iff.mp hnone j x hx hxu
        obtain ⟨h1, h2, h3, h4⟩ := ih (l + 1) t ht' ho' (hl'.trans (by omega)) (by rw [State.stageCount_congr hrec]; omega)
        exact ⟨h1, h2, (State.Apart.of_set hslots' rfl (fun x hx => absurd (hi.symm.trans hx) (by simp)) hunits).trans h3,
          h4.trans hunits⟩
      · exact ⟨⟨hs.free, hs.distinct, hs.ratings, hs.records, hs.bounded⟩, ⟨ho.distinct, ho.on_iff⟩,
          ⟨fun _ _ _ => Iff.rfl, fun _ _ => rfl⟩, rfl⟩

/-! ### Unpermitted running (R45) -/

/-- A permit at rest, found running: STOPPING with reason UNPERMITTED. -/
def Slot.stopUnpermitted (compliance : Nat) (sl : Slot) : Slot :=
  Slot.setReason .unpermitted (Slot.enterStopping compliance
    { sl with permit := sl.permit.map fun p => { p with minRunMet := true } })

theorem Slot.stopUnpermitted_of {sl : Slot} {p : Permit} (hp : sl.permit = some p) (v : Nat) : sl.stopUnpermitted v = { sl with
    counter := 0, aValue := v, aArmed := decide (0 < v), pArmed := false
    permit := some { p with
      state := .stopping, rotationDue := false, minRunMet := true, reason := some .unpermitted } } := by
  simp [Slot.stopUnpermitted, Slot.setReason, Slot.enterStopping, Slot.disarmP, Slot.loadA, hp]

/-- What recording one unpermitted stage comes to (R45). -/
theorem State.recordUnpermitted_cases (s : State) (u : UnitNo) (k : Nat) :
    (∃ (i : SlotNo) (p : Permit), s.slotAt u k = some i ∧ s.slots[i].permit = some p ∧ p.state = .resting
      ∧ s.recordUnpermitted u k = (s.modifySlot i (Slot.stopUnpermitted s.site.complianceTimeout), false))
    ∨ (∃ (i : SlotNo) (p : Permit), s.slotAt u k = some i ∧ s.slots[i].permit = some p ∧ p.state ≠ .resting
      ∧ s.recordUnpermitted u k = (s, false))
    ∨ (∃ t : State, s.slotAt u k = none ∧ s.takeFree (Slot.stopUnpermitted s.site.complianceTimeout
        (Slot.newPermit u k ((s.rating u k).getD 0) .stopping .adopted true none)) = some t
      ∧ s.recordUnpermitted u k = (t, false))
    ∨ s.slotAt u k = none ∧ s.freeList = [] ∧ s.recordUnpermitted u k = (s, true) := by
  cases hslot : s.slotAt u k with
  | some i =>
    obtain ⟨p, hp, -, -⟩ := s.slotAt_some u hslot
    by_cases hr : p.state = .resting
    · refine .inl ⟨i, p, rfl, hp, hr, ?_⟩
      simp only [State.recordUnpermitted, hslot, hp, Option.any_some, hr, decide_true, if_true]
      rfl
    · refine .inr (.inl ⟨i, p, rfl, hp, hr, ?_⟩)
      simp only [State.recordUnpermitted, hslot, hp, Option.any_some, hr, decide_false, Bool.false_eq_true, if_false]
  | none =>
    cases ht : s.takeFree (Slot.stopUnpermitted s.site.complianceTimeout
        (Slot.newPermit u k ((s.rating u k).getD 0) .stopping .adopted true none)) with
    | some t =>
      refine .inr (.inr (.inl ⟨t, rfl, rfl, ?_⟩))
      simp only [Slot.stopUnpermitted] at ht
      simp only [State.recordUnpermitted, hslot, ht]
    | none =>
      refine .inr (.inr (.inr ⟨rfl, ?_, ?_⟩))
      · unfold State.takeFree at ht
        split at ht
        · assumption
        · cases ht
      · simp only [Slot.stopUnpermitted] at ht
        simp only [State.recordUnpermitted, hslot, ht]

theorem Slot.stopUnpermittedNew_permit (k rating v : Nat) :
    ((Slot.newPermit u k rating .stopping .adopted true none).stopUnpermitted v).permit
      = some ⟨u, k, rating, .stopping, .adopted, true, false, some .unpermitted⟩ :=
  congrArg Slot.permit (Slot.stopUnpermitted_of (Slot.newPermit_permit k rating .stopping .adopted true none) v)

/-- Recording an unpermitted stage leaves the tables right and the commanded level as it is. -/
theorem State.recordUnpermitted_sound {k : Nat} (hs : s.Tables) (ho : s.InOrder u) (hk : k < s.stageCount u) :
    (s.recordUnpermitted u k).1.Tables ∧ (s.recordUnpermitted u k).1.InOrder u ∧ s.Apart u (s.recordUnpermitted u k).1
      ∧ (s.recordUnpermitted u k).1.units = s.units := by
  rcases s.recordUnpermitted_cases u k with ⟨i, p, hi, hp, hr, h⟩ | ⟨i, p, -, -, -, h⟩ | ⟨t, hnone, ht, h⟩ | ⟨-, -, h⟩ <;>
    rw [h]
  · obtain ⟨x, hx, hxu, -⟩ := s.slotAt_some u hi
    cases hp.symm.trans hx
    have hslot := congrArg Slot.permit (Slot.stopUnpermitted_of hp s.site.complianceTimeout)
    have hn : s.Narrows u (s.modifySlot i (Slot.stopUnpermitted s.site.complianceTimeout)) :=
      State.narrows_modifySlot hp hxu ⟨_, hslot, rfl, rfl, rfl⟩
    have hroles : s.SameRoles (s.modifySlot i (Slot.stopUnpermitted s.site.complianceTimeout)) := fun j => by
      rw [s.slots_modifySlot]
      split
      · next hj =>
        rw [hj, hslot, hp, Option.map_some, Option.map_some, Permit.role, Permit.role, hr]
        rfl
      · rfl
    exact ⟨hn.tables hs, hroles.inOrder ho, hn.apart, rfl⟩
  · exact ⟨hs, ho, .refl u s, rfl⟩
  · obtain ⟨i, hfree, hslots, hunits, hsite⟩ := s.takeFree_some ht
    have hslots' (j : SlotNo) : t.slots[j].permit = if j = i then
        some ⟨u, k, (s.rating u k).getD 0, .stopping, .adopted, true, false, some .unpermitted⟩ else s.slots[j].permit := by
      rw [hslots j]
      split
      · exact Slot.stopUnpermittedNew_permit k _ _
      · rfl
    have hi : s.slots[i].permit = none := State.head_free hs.free hfree
    exact ⟨hs.take hfree hslots' hnone (State.rating_isSome hk) hsite hunits,
      (ho.addOff hslots' hi hnone rfl).1,
      State.Apart.of_set hslots' rfl (fun x hx => absurd (hi.symm.trans hx) (by simp)) hunits, hunits⟩
  · exact ⟨hs, ho, .refl u s, rfl⟩

theorem State.recordAllUnpermitted_sound (l : List Nat) : ∀ s : State, s.Tables → s.InOrder u →
    (∀ k ∈ l, k < s.stageCount u) → (s.recordAllUnpermitted u l).1.Tables ∧ (s.recordAllUnpermitted u l).1.InOrder u
      ∧ s.Apart u (s.recordAllUnpermitted u l).1 ∧ (s.recordAllUnpermitted u l).1.units = s.units := by
  induction l with
  | nil => exact fun s hs ho _ => ⟨hs, ho, .refl u s, rfl⟩
  | cons k l ih =>
    intro s hs ho hl
    obtain ⟨h1, h2, h3, h4⟩ := State.recordUnpermitted_sound hs ho (hl k List.mem_cons_self)
    have hcount : (s.recordUnpermitted u k).1.stageCount u = s.stageCount u :=
      State.stageCount_congr (State.record_of_units (by rw [h4])).1
    obtain ⟨k1, k2, k3, k4⟩ := ih (s.recordUnpermitted u k).1 h1 h2 fun n hn =>
      (hl n (List.mem_cons_of_mem k hn)).trans_eq hcount.symm
    exact ⟨k1, k2, h3.trans k3, k4.trans h4⟩

/-! ### States with the same tables -/

/-- Two states with the same slots, free list and records. -/
structure State.SameTables (s t : State) : Prop where
  slots : t.slots = s.slots
  freeList : t.freeList = s.freeList
  units : t.units = s.units
  site : t.site = s.site

theorem State.SameTables.tables (h : s.SameTables t) (hs : s.Tables) : t.Tables := by
  have hcore (v : UnitNo) : t.core v = s.core v := State.core_of_units (by rw [h.units])
  obtain ⟨hrec, hbound⟩ := State.records_of_core hs.records hs.bounded (h.site ▸ hs.records.1) fun v => .inl (hcore v)
  refine ⟨State.freeListSound_of_isSome hs.free h.freeList fun i => by rw [h.slots], ?_, ?_, hrec, hbound⟩
  · have := hs.distinct
    unfold State.stagesDistinct at this ⊢
    rw [h.slots]
    exact this
  · have := hs.ratings
    unfold State.ratingsSound State.rating State.record at this ⊢
    rw [h.slots, h.units]
    exact this

theorem State.SameTables.inOrder (h : s.SameTables t) (ho : s.InOrder u) : t.InOrder u :=
  (State.sameRoles_of_slots h.slots).inOrder ho

theorem State.SameTables.apart (h : s.SameTables t) : s.Apart u t :=
  ⟨fun _ _ _ => by rw [h.slots], fun _ _ => by rw [h.units]⟩

theorem State.raise_sameTables (s : State) (n : Notice) : s.SameTables (s.raise n) := ⟨rfl, rfl, rfl, rfl⟩

theorem State.raiseIf_sameTables (s : State) (b : Bool) (n : Notice) : s.SameTables (s.raiseIf b n) := by
  cases b <;> exact ⟨rfl, rfl, rfl, rfl⟩

/-! ### A request event before its desire step (R9) -/

/-- What an operation over one unit's permits and record keeps: the tables' conditions, the unit's stages in order, every
other unit, and the unit's working record, unless its retirement is complete. -/
structure State.Reworked (u : UnitNo) (s t : State) : Prop where
  tables : t.Tables
  order : t.InOrder u
  apart : s.Apart u t
  record : t.record u = s.record u ∧ (t.status u).state = (s.status u).state
    ∨ t.record u = none ∧ (t.status u).state = .unconfigured

theorem State.Reworked.trans {r : State} (h : State.Reworked u s t) (k : State.Reworked u t r) : State.Reworked u s r where
  tables := k.tables
  order := k.order
  apart := h.apart.trans k.apart
  record := by
    rcases k.record with ⟨k1, k2⟩ | hk
    · rcases h.record with ⟨h1, h2⟩ | ⟨h1, h2⟩
      · exact .inl ⟨k1.trans h1, k2.trans h2⟩
      · exact .inr ⟨k1.trans h1, k2.trans h2⟩
    · exact .inr hk

theorem State.Narrows.reworked (h : State.Narrows u s t) (hs : s.Tables) (ho : t.InOrder u) : State.Reworked u s t := by
  refine ⟨h.tables hs, ho, h.apart, ?_⟩
  have hc := h.unit
  simp only [State.core, Prod.mk.injEq] at hc
  rcases hc with ⟨h1, h2, -⟩ | ⟨⟨h1, h2, -⟩, -⟩
  · exact .inl ⟨h1, h2⟩
  · exact .inr ⟨h1, h2⟩

theorem State.SameTables.reworked (h : s.SameTables t) (hs : s.Tables) (ho : s.InOrder u) : State.Reworked u s t := by
  obtain ⟨h1, h2⟩ := State.record_of_units (s := s) (t := t) (v := u) (by rw [h.units])
  exact ⟨h.tables hs, h.inOrder ho, h.apart, .inl ⟨h1, by rw [h2]⟩⟩

/-- An operation that leaves the records as they are. -/
theorem State.Reworked.of_units (h1 : t.Tables) (h2 : t.InOrder u) (h3 : s.Apart u t) (h4 : t.units = s.units) :
    State.Reworked u s t := by
  obtain ⟨k1, k2⟩ := State.record_of_units (s := s) (t := t) (v := u) (by rw [h4])
  exact ⟨h1, h2, h3, .inl ⟨k1, by rw [k2]⟩⟩

theorem State.unpermitted_reworked {l : List Nat} (hs : s.Tables) (ho : s.InOrder u) (hl : ∀ k ∈ l, k < s.stageCount u) :
    State.Reworked u s (s.unpermitted u l) := by
  obtain ⟨h1, h2, h3, h4⟩ := State.recordAllUnpermitted_sound l s hs ho hl
  have hr : State.Reworked u s (s.recordAllUnpermitted u l).1 := .of_units h1 h2 h3 h4
  unfold State.unpermitted
  generalize s.recordAllUnpermitted u l = t at hr
  have hi := (t.1.raiseIf_sameTables t.2 .tableFull).reworked hr.tables hr.order
  exact (hr.trans hi).trans ((State.raise_sameTables _ .noncompliant).reworked hi.tables hi.order)

theorem State.enterStop_reworked (hs : s.Tables) (ho : s.InOrder u) (r : StopReason) (stages : Nat → Bool) :
    State.Reworked u s (s.enterStop u r stages) :=
  (s.narrows_enterStop u r stages).reworked hs (ho.enterStop r stages).1

theorem State.stopAdopted_reworked (hs : s.Tables) (ho : s.InOrder u) (l : Nat) : State.Reworked u s (s.stopAdopted u l) := by
  unfold State.stopAdopted
  split
  · exact State.enterStop_reworked hs ho _ _
  · exact (State.Narrows.refl u s).reworked hs ho

theorem State.settleCompliance_reworked (hs : s.Tables) (ho : s.InOrder u) : State.Reworked u s (s.settleCompliance u) :=
  (s.narrows_settleCompliance u).reworked hs ((State.sameRoles_of_slots (s.settleCompliance_slots u)).inOrder ho)

theorem State.joinUrgent_reworked (hs : s.Tables) (ho : s.InOrder u) : State.Reworked u s (s.joinUrgent u) :=
  (s.narrows_joinUrgent u).reworked hs ((State.sameRoles_of_slots (s.joinUrgent_slots u)).inOrder ho)

theorem range_drop (l r : Nat) : (List.range r).drop l = List.range' l (r - l) := by
  rw [List.range_eq_range', List.drop_range', Nat.mul_one, Nat.zero_add]

theorem State.adoptStages_reworked {r : Nat} (hs : s.Tables) (ho : s.InOrder u) (hl : s.level u < r) (hr : r ≤ s.stageCount u) :
    State.Reworked u s (s.adoptStages u (s.level u) r) := by
  rw [State.adoptStages_eq, range_drop]
  obtain ⟨h1, h2, h3, h4⟩ := State.adopt_sound (r - s.level u) (s.level u) s hs ho rfl (by omega)
  have ha : State.Reworked u s (s.adopt u (List.range' (s.level u) (r - s.level u))) := .of_units h1 h2 h3 h4
  have hc := ha.trans (State.settleCompliance_reworked ha.tables ha.order)
  have ht := hc.trans (State.stopAdopted_reworked hc.tables hc.order (s.level u))
  dsimp only
  split
  · exact ht
  · exact ht.trans (State.joinUrgent_reworked ht.tables ht.order)

theorem State.findRunning_reworked {r : Nat} (hs : s.Tables) (ho : s.InOrder u) (hr : r ≤ s.stageCount u) :
    State.Reworked u s (s.findRunning u r) := by
  unfold State.findRunning
  split
  · next hl =>
    split
    · exact State.adoptStages_reworked hs ho hl hr
    · rw [range_drop]
      refine State.unpermitted_reworked hs ho fun k hk => ?_
      obtain ⟨-, hk⟩ := List.mem_range'_1.mp hk
      omega
  · exact (State.Narrows.refl u s).reworked hs ho

theorem State.modifyStatus_reworked (hs : s.Tables) (ho : s.InOrder u) {f : UnitStatus → UnitStatus}
    (hstate : (f (s.status u)).state = (s.status u).state)
    (hbound : (f (s.status u)).desired ≤ s.stageCount u ∧ (f (s.status u)).running ≤ s.stageCount u) :
    State.Reworked u s (s.modifyStatus u f) := by
  have hunit (v : UnitNo) : (s.modifyStatus u f).record v = s.record v := s.record_modifyStatus u v f
  have hst (v : UnitNo) : (s.modifyStatus u f).status v = if v = u then f (s.status u) else s.status v := by
    unfold State.status
    rw [s.units_modifyStatus]
    split <;> rfl
  refine ⟨⟨hs.free, hs.distinct, fun i p hp => ?_, ⟨hs.records.1, fun v => ?_⟩, fun v => ?_⟩, ⟨ho.distinct, ho.on_iff⟩,
    ⟨fun _ _ _ => Iff.rfl, fun v hv => (s.units_modifyStatus u f v).trans (if_neg hv)⟩, .inl ⟨hunit u, ?_⟩⟩
  · rw [State.rating, hunit]
    exact hs.ratings i p hp
  · have hv : ((s.modifyStatus u f).status v).state = (s.status v).state := by
      rw [hst]
      split
      · next h => rw [hstate, h]
      · rfl
    rw [hv, hunit]
    exact hs.records.2 v
  · rw [State.stageCount_congr (hunit v), hst]
    split
    · next h => exact h ▸ hbound
    · exact hs.bounded v
  · rw [hst, if_pos rfl, hstate]

theorem State.runningLevel_le (hs : s.Tables) (ho : s.InOrder u) : s.runningLevel u ≤ s.stageCount u := by
  unfold State.runningLevel
  split
  · exact ho.level_le_stageCount hs.ratings
  · exact (hs.bounded u).2

theorem State.applyRunning_reworked (hs : s.Tables) (ho : s.InOrder u) : State.Reworked u s (s.applyRunning u) := by
  have hn := s.narrows_complete u (s.runningLevel u)
  have hc := hn.reworked hs (ho.complete (s.runningLevel u)).1
  rw [State.applyRunning_eq]
  have hr := State.runningLevel_le hs ho
  generalize s.complete u (s.runningLevel u) = t at hc
  dsimp only
  split
  · next hconf =>
    have hrec : t.record u = s.record u := by
      rcases hc.record with h | h
      · exact h.1
      · rw [State.configured, h.2] at hconf; cases hconf
    have hf := State.findRunning_reworked hc.tables hc.order (r := s.runningLevel u)
      ((State.stageCount_congr hrec).symm ▸ hr)
    generalize t.findRunning u (s.runningLevel u) = x at hf
    exact (hc.trans hf).trans (State.modifyStatus_reworked hf.tables hf.order rfl (hf.tables.bounded u))
  · exact hc

theorem State.recordRequest_reworked (hs : s.Tables) (ho : s.InOrder u) (d r : Nat) (c : Condition) :
    State.Reworked u s (s.recordRequest u d r c) :=
  State.modifyStatus_reworked hs ho rfl ⟨Nat.min_le_right _ _, Nat.min_le_right _ _⟩

theorem State.trip_reworked (hs : s.Tables) (ho : s.InOrder u) : State.Reworked u s (s.trip u) :=
  (s.narrows_trip u).reworked hs ho.trip.1

theorem State.applyDesired_reworked (hs : s.Tables) (ho : s.InOrder u) : State.Reworked u s (s.applyDesired u) :=
  (s.narrows_applyDesired u).reworked hs ho.applyDesired.1

/-- A request event, before its desire step, leaves the tables right (R9). -/
theorem State.requested_reworked (hs : s.Tables) (ho : s.InOrder u) (d r : Nat) (c : Condition) :
    State.Reworked u s (s.requested u d r c) := by
  unfold State.requested
  extract_lets s1 s2 s3
  have h1 : State.Reworked u s s1 := State.recordRequest_reworked hs ho d r c
  have h2 : State.Reworked u s s2 := by
    dsimp only [s2]
    split
    · exact h1.trans (State.trip_reworked h1.tables h1.order)
    · exact h1
  have h3 : State.Reworked u s s3 := by
    dsimp only [s3]
    split
    · exact h2.trans (State.applyRunning_reworked h2.tables h2.order)
    · exact h2
  exact h3.trans (State.applyDesired_reworked h3.tables h3.order)

end

end Sys2Proof.Machine


/-! The Wait Queue's conditions (R109 to R111) under an admission pass and the desire step. -/

namespace Sys2Proof.Machine

/-! ### A line of claims that fits -/

/-- What the queue's conditions read of an entry: unit, wanted level and class copy. -/
def QueueEntry.claim (e : QueueEntry) : UnitNo × Nat × Nat := (e.unit, e.wanted, e.cls)

/-- A claim as an entry may carry it: its unit eligible and wanting more, with the unit's class (R109, R110). -/
def State.Claims (s : State) (c : UnitNo × Nat × Nat) : Prop :=
  s.eligible c.1 = true ∧ c.2.2 = s.cls c.1 ∧ s.level c.1 < c.2.1 ∧ c.2.1 ≤ s.stageCount c.1

/-- At most 16 claims, one for a unit, by class (R110, R111). -/
structure Lined (l : List (UnitNo × Nat × Nat)) : Prop where
  length : l.length ≤ Config.queueCapacity
  nodup : (l.map Prod.fst).Nodup
  sorted : (l.map fun c => c.2.2).Pairwise (· ≤ ·)

theorem Lined.sublist {l m : List (UnitNo × Nat × Nat)} (h : Lined l) (hm : m.Sublist l) : Lined m :=
  ⟨hm.length_le.trans h.length, h.nodup.sublist (hm.map _), h.sorted.sublist (hm.map _)⟩

section

variable {s t : State} {u : UnitNo}

theorem State.queueOrdered_iff : s.queueOrdered ↔ Lined (s.queue.map QueueEntry.claim) := by
  have h1 : (s.queue.map QueueEntry.claim).map Prod.fst = s.queue.map QueueEntry.unit := by rw [List.map_map]; rfl
  have h2 : (s.queue.map QueueEntry.claim).map (fun c => c.2.2) = s.queue.map QueueEntry.cls := by rw [List.map_map]; rfl
  constructor
  · rintro ⟨h, hn, hs⟩
    exact ⟨by rw [List.length_map]; exact h, h1 ▸ hn, h2 ▸ hs⟩
  · rintro ⟨h, hn, hs⟩
    rw [List.length_map] at h
    exact ⟨h, h1 ▸ hn, h2 ▸ hs⟩

theorem State.entriesSound_iff : s.entriesSound ↔ ∀ c ∈ s.queue.map QueueEntry.claim, s.Claims c := by
  rw [List.forall_mem_map]
  rfl

/-- The tables' conditions, taken apart: what does not speak of levels, the order of the stages, and the queue. -/
theorem State.tablesSound_of (ht : s.Tables) (ho : ∀ v, s.InOrder v) (hl : Lined (s.queue.map QueueEntry.claim))
    (hq : ∀ c ∈ s.queue.map QueueEntry.claim, s.Claims c) : s.tablesSound :=
  have hsound := State.sound_of_inOrder s ho
  ⟨ht.free, hsound.1, hsound.2, ht.ratings, fun v => (ho v).level_le_stageCount ht.ratings, ht.records,
    State.queueOrdered_iff.mpr hl, State.entriesSound_iff.mpr hq, ht.bounded⟩

theorem State.lined_of_sound (h : s.tablesSound) : Lined (s.queue.map QueueEntry.claim) :=
  State.queueOrdered_iff.mp h.2.2.2.2.2.2.1

theorem State.claims_of_sound (h : s.tablesSound) : ∀ c ∈ s.queue.map QueueEntry.claim, s.Claims c :=
  State.entriesSound_iff.mp h.2.2.2.2.2.2.2.1

/-- A claim reads the unit's record, status and level alone. -/
theorem State.Claims.congr {c : UnitNo × Nat × Nat} (h : s.Claims c) (hu : t.units[c.1] = s.units[c.1])
    (hl : t.level c.1 = s.level c.1) : t.Claims c := by
  obtain ⟨h1, h2, h3, h4⟩ := h
  obtain ⟨hr, hst⟩ := State.record_of_units hu
  refine ⟨?_, ?_, hl ▸ h3, ?_⟩
  · rw [State.eligible, hst]; exact h1
  · rw [State.cls, hr]; exact h2
  · rw [State.stageCount, hr]; exact h4

/-- A state whose tables, records and claims are those of a sound one is sound. -/
theorem State.tablesSound_congr (h : s.tablesSound) (hs : s.SameTables t)
    (hq : (t.queue.map QueueEntry.claim).Sublist (s.queue.map QueueEntry.claim)) : t.tablesSound := by
  refine State.tablesSound_of (hs.tables (State.tables_of_sound h)) (fun v => hs.inOrder (State.tablesSound_inOrder h v))
    ((State.lined_of_sound h).sublist hq) fun c hc => ?_
  exact (State.claims_of_sound h c (hq.subset hc)).congr (by rw [hs.units]) (State.level_of_slots hs.slots _)

/-! ### The admission pass -/

/-- A grant: one more permit, at the next stage of a unit that has it and holds no permit there (R99). -/
theorem State.createGrant_reworked (hs : s.Tables) (ho : s.InOrder u) (hfree : s.freeList ≠ [])
    (hnone : s.slotAt u (s.level u) = none) (hk : s.level u < s.stageCount u) :
    State.Reworked u s (s.createGrant u) ∧ (s.createGrant u).level u = s.level u + 1 := by
  obtain ⟨i, rest, hf⟩ := List.exists_cons_of_ne_nil hfree
  obtain ⟨hslots, hfl, -, -⟩ := s.createGrant_slots u hf
  have hunits : (s.createGrant u).units = s.units := (s.createGrant_passed u).units
  have hsite : (s.createGrant u).site = s.site := (s.createGrant_passed u).base.site
  obtain ⟨q, hq, hqu, hqk, hqr, hqon⟩ := Slot.granted_permit u (s.level u) ((s.rating u (s.level u)).getD 0)
    s.site.settleTime (s.minRun u) (s.rotation u)
  have hi : s.slots[i].permit = none := State.head_free hs.free hf
  generalize s.createGrant u = t at hslots hfl hunits hsite
  have hslots' (j : SlotNo) : t.slots[j].permit = if j = i then some q else s.slots[j].permit := by
    rw [hslots, getElem_set_eq]
    split
    · exact hq
    · rfl
  have ht : t.Tables := hs.take (hf.trans (by rw [hfl])) hslots' (by rw [hqu, hqk]; exact hnone)
    (by rw [hqu, hqk, hqr]; exact State.rating_isSome hk) hsite hunits
  obtain ⟨ho', hl'⟩ := ho.raise hslots' hqu hqk hqon (fun p hp _ => absurd (hi.symm.trans hp) (by simp))
    fun j p _ hp hpu => State.slotAt_none_iff.mp hnone j p hp hpu
  exact ⟨.of_units ht ho' (State.Apart.of_set hslots' hqu (fun p hp => absurd (hi.symm.trans hp) (by simp)) hunits) hunits, hl'⟩

theorem map_claim_of_sameBut {p q : List QueueEntry} (h : List.Forall₂ QueueEntry.sameBut p q) :
    q.map QueueEntry.claim = p.map QueueEntry.claim := by
  induction h with
  | nil => rfl
  | cons hab _ ih =>
    obtain ⟨h1, h2, h3, -⟩ := hab
    rw [List.map_cons, List.map_cons, ih, QueueEntry.claim, QueueEntry.claim, h1, h2, h3]

theorem map_claim_passedOver (q : List QueueEntry) :
    (q.map QueueEntry.passedOver).map QueueEntry.claim = q.map QueueEntry.claim := by
  rw [List.map_map]
  refine List.map_congr_left fun e _ => ?_
  unfold Function.comp QueueEntry.passedOver
  split <;> rfl

/-- An admission pass keeps the tables sound (R99, R110, R111). -/
theorem State.admissionPass_sound (h : s.tablesSound) : s.admissionPass.tablesSound := by
  have hentries := map_claim_of_sameBut (s.walk_entries s.queue)
  unfold State.admissionPass
  dsimp only
  split
  · next hnone =>
    rw [Walk.entries, hnone, Option.toList_none, List.append_nil] at hentries
    exact State.tablesSound_congr h ⟨rfl, rfl, rfl, rfl⟩ (hentries ▸ List.Sublist.refl _)
  · next e he =>
    obtain ⟨hmem, hobstacle⟩ := s.walk_granted he
    obtain ⟨-, -, hfree, hnone⟩ := s.obstacle_none hobstacle
    obtain ⟨helig, hcls, hlt, hle⟩ := State.claims_of_sound h _ (List.mem_map_of_mem hmem)
    obtain ⟨hw, hlevel⟩ := State.createGrant_reworked (State.tables_of_sound h) (State.tablesSound_inOrder h e.unit) hfree
      hnone (Nat.lt_of_lt_of_le hlt hle)
    have hunits := (s.createGrant_passed e.unit).units
    generalize s.createGrant e.unit = t at hw hlevel hunits
    rw [Walk.entries, he, Option.toList_some, List.map_append, List.map_append] at hentries
    generalize s.walk s.queue = w at hentries
    have hq : (w.front.map QueueEntry.passedOver ++ t.grantedEntry e ++ w.behind).map QueueEntry.claim
        = w.front.map QueueEntry.claim ++ (t.grantedEntry e).map QueueEntry.claim ++ w.behind.map QueueEntry.claim := by
      rw [List.map_append, List.map_append, map_claim_passedOver]
    have hgranted : ((t.grantedEntry e).map QueueEntry.claim).Sublist [e.claim] := by
      unfold State.grantedEntry
      split
      · exact List.nil_sublist _
      · exact List.Sublist.refl _
    have hsub : (w.front.map QueueEntry.claim ++ (t.grantedEntry e).map QueueEntry.claim
        ++ w.behind.map QueueEntry.claim).Sublist (s.queue.map QueueEntry.claim) :=
      hentries ▸ List.Sublist.append (List.Sublist.append (List.Sublist.refl _) hgranted) (List.Sublist.refl _)
    have hnd := (State.lined_of_sound h).nodup
    refine State.tablesSound_of ?_ (fun v => ?_) ?_ fun c hc => ?_
    · exact State.SameTables.tables (s := t) ⟨rfl, rfl, rfl, rfl⟩ hw.tables
    · refine State.SameTables.inOrder (s := t) ⟨rfl, rfl, rfl, rfl⟩ ?_
      by_cases hv : v = e.unit
      · exact hv ▸ hw.order
      · exact (State.inOrder_of_others hv hw.apart.permits (State.tablesSound_inOrder h v)).1
    · exact hq ▸ (State.lined_of_sound h).sublist hsub
    · have hc : c ∈ w.front.map QueueEntry.claim ++ (t.grantedEntry e).map QueueEntry.claim ++ w.behind.map QueueEntry.claim :=
        hq ▸ hc
      have hclaim : t.Claims c := by
        by_cases hcu : c.1 = e.unit
        · rw [← hentries, List.map_append, List.map_append] at hnd
          simp only [List.map_cons, List.map_nil] at hnd
          have hcg : c ∈ (t.grantedEntry e).map QueueEntry.claim := by
            rw [List.mem_append, List.mem_append] at hc
            rw [List.nodup_append, List.nodup_append] at hnd
            obtain ⟨⟨-, -, h1⟩, -, h2⟩ := hnd
            rcases hc with (hc | hc) | hc
            · exact absurd hcu (h1 _ (List.mem_map_of_mem hc) _ (List.mem_singleton_self _))
            · exact hc
            · exact absurd hcu.symm (h2 _ (List.mem_append_right _ (List.mem_singleton_self _)) _ (List.mem_map_of_mem hc))
          unfold State.grantedEntry at hcg
          split at hcg
          · cases hcg
          · next hne =>
            obtain rfl := List.mem_singleton.mp hcg
            obtain ⟨hr, hst⟩ := State.record_of_units (s := s) (t := t) (v := e.unit) (by rw [hunits])
            refine ⟨?_, ?_, ?_, ?_⟩
            · show t.eligible e.unit = true
              rw [State.eligible, hst]; exact helig
            · show e.cls = t.cls e.unit
              rw [State.cls, hr]; exact hcls
            · show t.level e.unit < e.wanted
              have hlt : s.level e.unit < e.wanted := hlt
              omega
            · show e.wanted ≤ t.stageCount e.unit
              rw [State.stageCount_congr hr]; exact hle
        · exact (State.claims_of_sound h c (hsub.subset hc)).congr (by rw [hunits])
            (State.inOrder_of_others hcu hw.apart.permits (State.tablesSound_inOrder h c.1)).2
      exact hclaim.congr rfl (State.level_of_slots rfl _)

/-! ### The desire step (R12, R112 to R116) -/

theorem insertByClass_sorted (e : QueueEntry) {q : List QueueEntry} (h : (q.map QueueEntry.cls).Pairwise (· ≤ ·)) :
    ((insertByClass e q).map QueueEntry.cls).Pairwise (· ≤ ·) := by
  rw [insertByClass_eq e h, List.map_append, List.map_cons, List.pairwise_append]
  have hbelow (f : QueueEntry) (hf : f ∈ q.filter fun f => decide (f.cls ≤ e.cls)) : f.cls ≤ e.cls :=
    of_decide_eq_true (List.mem_filter.mp hf).2
  have habove (f : QueueEntry) (hf : f ∈ q.filter fun f => decide (e.cls < f.cls)) : e.cls < f.cls :=
    of_decide_eq_true (List.mem_filter.mp hf).2
  refine ⟨h.sublist (List.filter_sublist.map _), List.pairwise_cons.mpr ⟨fun a ha => ?_,
    h.sublist (List.filter_sublist.map _)⟩, fun a ha b hb => ?_⟩
  · obtain ⟨f, hf, rfl⟩ := List.mem_map.mp ha
    exact (habove f hf).le
  · obtain ⟨f, hf, rfl⟩ := List.mem_map.mp ha
    rcases List.mem_cons.mp hb with rfl | hb
    · exact hbelow f hf
    · obtain ⟨g, hg, rfl⟩ := List.mem_map.mp hb
      exact (hbelow f hf).trans (habove g hg).le

/-- An entry inserted into a line that has none of its unit, and has a place. -/
theorem lined_insertByClass {e : QueueEntry} {q : List QueueEntry} (h : Lined (q.map QueueEntry.claim))
    (hlen : q.length < Config.queueCapacity) (hno : ∀ f ∈ q, f.unit ≠ e.unit) :
    Lined ((insertByClass e q).map QueueEntry.claim) := by
  have hperm := insertByClass_perm e q
  have hmap (l : List QueueEntry) : (l.map QueueEntry.claim).map (fun c => c.2.2) = l.map QueueEntry.cls := by
    rw [List.map_map]; rfl
  refine ⟨?_, ?_, ?_⟩
  · rw [List.length_map, hperm.length_eq, List.length_cons]
    exact hlen
  · refine ((hperm.map QueueEntry.claim).map Prod.fst).nodup_iff.mpr ?_
    rw [List.map_cons, List.map_cons, List.nodup_cons]
    refine ⟨fun hm => ?_, h.nodup⟩
    obtain ⟨c, hc, hcu⟩ := List.mem_map.mp hm
    obtain ⟨f, hf, rfl⟩ := List.mem_map.mp hc
    exact hno f hf hcu
  · have hsorted := h.sorted
    rw [hmap] at hsorted ⊢
    exact insertByClass_sorted e hsorted

/-- The conditions of the tables, but for what an entry of one unit says of the unit at the moment. -/
structure State.SoundBut (u : UnitNo) (s : State) : Prop where
  tables : s.Tables
  order : ∀ v, s.InOrder v
  lined : Lined (s.queue.map QueueEntry.claim)
  others : ∀ e ∈ s.queue, e.unit ≠ u → s.Claims e.claim
  own : ∀ e ∈ s.queue, e.unit = u → (s.status u).state = .unconfigured ∨ e.cls = s.cls u

theorem State.soundBut_of_sound (h : s.tablesSound) (u : UnitNo) : s.SoundBut u where
  tables := State.tables_of_sound h
  order := State.tablesSound_inOrder h
  lined := State.lined_of_sound h
  others e he _ := State.claims_of_sound h _ (List.mem_map_of_mem he)
  own e he hu := by
    have := (State.claims_of_sound h _ (List.mem_map_of_mem he)).2.1
    rw [← hu]
    exact .inr this

theorem State.SoundBut.cls_eq (h : s.SoundBut u) (hw : s.wants u = true) {e : QueueEntry} (he : e ∈ s.queue)
    (hu : e.unit = u) : e.cls = s.cls u := by
  refine (h.own e he hu).resolve_left fun hst => ?_
  rw [s.wants_of_not_active u (by rw [hst]; decide)] at hw
  cases hw

theorem State.SoundBut.sound (h : s.SoundBut u) (hown : ∀ e ∈ s.queue, e.unit = u → s.Claims e.claim) : s.tablesSound :=
  State.tablesSound_of h.tables h.order h.lined fun c hc => by
    obtain ⟨e, he, rfl⟩ := List.mem_map.mp hc
    by_cases hu : e.unit = u
    · exact hown e he hu
    · exact h.others e he hu

/-- A new line for the queue of a state whose tables are right. -/
theorem State.SoundBut.withQueue (h : s.SoundBut u) {q : List QueueEntry} (hl : Lined (q.map QueueEntry.claim))
    (hq : ∀ e ∈ q, s.Claims e.claim) : (s.withQueue q).tablesSound := by
  have hs : s.SameTables (s.withQueue q) := ⟨rfl, rfl, rfl, rfl⟩
  refine State.tablesSound_of (hs.tables h.tables) (fun v => hs.inOrder (h.order v)) hl fun c hc => ?_
  obtain ⟨e, he, rfl⟩ := List.mem_map.mp hc
  exact (hq e he).congr rfl (State.level_of_slots rfl _)

/-- The unit's desired level, where it wants more, is one that an entry may carry. -/
theorem State.SoundBut.claims_wanted (h : s.SoundBut u) (hw : s.wants u = true) :
    s.Claims (u, s.effectiveDesired u, s.cls u) := by
  obtain ⟨he, hd⟩ := Bool.and_eq_true_iff.mp hw
  refine ⟨he, rfl, of_decide_eq_true hd, ?_⟩
  show s.effectiveDesired u ≤ s.stageCount u
  unfold State.effectiveDesired
  split
  · exact (h.tables.bounded u).1
  · exact Nat.zero_le _

theorem State.SoundBut.rewanted (h : s.SoundBut u) (hw : s.wants u = true) :
    (s.withQueue (s.queue.map fun e => if e.unit = u then { e with wanted := s.effectiveDesired u } else e)).tablesSound := by
  refine h.withQueue ⟨?_, ?_, ?_⟩ fun e he => ?_
  · rw [List.length_map, List.length_map]
    exact (List.length_map _).symm.trans_le h.lined.length
  · have := h.lined.nodup
    rw [List.map_map] at this
    rw [List.map_map, List.map_map]
    refine (List.map_congr_left fun e _ => ?_) ▸ this
    unfold Function.comp
    dsimp only
    split <;> rfl
  · have := h.lined.sorted
    rw [List.map_map] at this
    rw [List.map_map, List.map_map]
    refine (List.map_congr_left fun e _ => ?_) ▸ this
    unfold Function.comp
    dsimp only
    split <;> rfl
  · obtain ⟨f, hf, rfl⟩ := List.mem_map.mp he
    split
    · next hu =>
      have hown := h.cls_eq hw hf hu
      have := h.claims_wanted hw
      show s.Claims (f.unit, s.effectiveDesired u, f.cls)
      rw [hu, hown]
      exact this
    · next hu => exact h.others f hf hu

/-- A newcomer that finds a place. -/
theorem State.SoundBut.placed (h : s.SoundBut u) (hw : s.wants u = true) {q : List QueueEntry} (hsub : q.Sublist s.queue)
    (hlen : q.length < Config.queueCapacity) (hno : ∀ e ∈ s.queue, e.unit ≠ u) :
    (s.withQueue (insertByClass (.new u (s.effectiveDesired u) (s.cls u)) q)).tablesSound := by
  refine h.withQueue (lined_insertByClass (h.lined.sublist (hsub.map _)) hlen fun f hf => hno f (hsub.subset hf))
    fun e he => ?_
  rcases List.mem_cons.mp ((insertByClass_perm _ q).mem_iff.mp he) with rfl | he
  · exact h.claims_wanted hw
  · exact h.others e (hsub.subset he) (hno e (hsub.subset he))

theorem State.entryOf_some {e : QueueEntry} (h : s.entryOf u = some e) : e ∈ s.queue ∧ e.unit = u := by
  unfold State.entryOf at h
  have hp := List.find?_some h
  exact ⟨List.mem_of_find?_eq_some h, of_decide_eq_true hp⟩

/-- The desire step makes the queue right where nothing but the unit's own entry may be wrong (R12). -/
theorem State.SoundBut.desireStep (h : s.SoundBut u) : (s.desireStep u).tablesSound := by
  cases hw : s.wants u with
  | false =>
    rw [s.desireStep_of_not_wants u hw, State.dequeue_eq]
    refine h.withQueue (h.lined.sublist (List.filter_sublist.map _)) fun e he => ?_
    obtain ⟨hmem, hu⟩ := List.mem_filter.mp he
    exact h.others e hmem (of_decide_eq_true hu)
  | true =>
    cases he : s.entryOf u with
    | some e =>
      rw [s.desireStep_of_entry u hw he, State.rewant_eq]
      split
      · next hd =>
        obtain ⟨hmem, heu⟩ := State.entryOf_some he
        refine h.sound fun f hf hfu => ?_
        have hfe : f = e := List.inj_on_of_nodup_map (f := QueueEntry.unit)
          (by have := h.lined.nodup; rwa [List.map_map] at this) hf hmem (hfu.trans heu.symm)
        have hown := h.cls_eq hw hf hfu
        have := h.claims_wanted hw
        show s.Claims (f.unit, f.wanted, f.cls)
        rw [hfu, hown, hfe, hd]
        exact this
      · exact State.admissionPass_sound (h.rewanted hw)
    | none =>
      have hno : ∀ e ∈ s.queue, e.unit ≠ u := fun e hmem hu =>
        List.find?_eq_none.mp he e hmem (decide_eq_true hu)
      rw [s.desireStep_of_noEntry u hw he, State.enqueue_eq, State.enqueueFull_eq]
      split
      · next hlen => exact State.admissionPass_sound (h.placed hw (List.Sublist.refl _) hlen hno)
      · next hlen =>
        have hsame : s.SameTables (s.raise .queueFull) := s.raise_sameTables .queueFull
        split
        · have hcap : s.queue.dropLast.length < Config.queueCapacity := by
            have := h.lined.length
            rw [List.length_map] at this
            rw [List.length_dropLast]
            have : 0 < Config.queueCapacity := by decide
            omega
          have hplaced := h.placed hw (List.dropLast_sublist s.queue) hcap hno
          exact State.admissionPass_sound (State.tablesSound_congr (s := s.withQueue _) hplaced ⟨rfl, rfl, rfl, rfl⟩
            (List.Sublist.refl _))
        · have hsound := h.sound fun e hmem hu => absurd hu (hno e hmem)
          exact State.tablesSound_congr hsound hsame (List.Sublist.refl _)

/-- An operation over one unit keeps what the queue says of the others. -/
theorem State.Reworked.soundBut (h : State.Reworked u s t) (hs : s.SoundBut u) (hq : t.queue = s.queue) : t.SoundBut u where
  tables := h.tables
  order v := by
    by_cases hv : v = u
    · exact hv ▸ h.order
    · exact (State.inOrder_of_others hv h.apart.permits (hs.order v)).1
  lined := hq ▸ hs.lined
  others e he hu := (hs.others e (hq ▸ he) hu).congr (h.apart.units _ hu)
    (State.inOrder_of_others hu h.apart.permits (hs.order _)).2
  own e he hu := by
    rcases h.record with ⟨hr, hst⟩ | ⟨-, hst⟩
    · rw [hst, State.cls, hr]
      exact hs.own e (hq ▸ he) hu
    · exact .inl hst

end

end Sys2Proof.Machine


/-! What a step can do to the tables, the gates, the ring and the urgent list: a condition that each of these effects keeps is
kept by every step. -/

namespace Sys2Proof.Machine

/-! ### The effects of a step -/

/-- Two states that agree in what the kept conditions read: the tables, the queue, the start gate and the hold, the urgent
list, the site record and the ring, which may also be emptied (R71, R79, R86). -/
structure State.Framed (s t : State) : Prop where
  units : t.units = s.units
  slots : t.slots = s.slots
  freeList : t.freeList = s.freeList
  queue : t.queue = s.queue
  startGate : t.startGate = s.startGate
  hold : t.hold = s.hold
  site : t.site = s.site
  urgent : t.link.urgent = s.link.urgent
  ring : t.meter.ring = s.meter.ring ∧ t.meter.rolling = s.meter.rolling ∨ t.meter.ring = [] ∧ t.meter.rolling = 0

/-- A state with another site record and Meter Interface. -/
def State.withSite (s : State) (r : SiteRecord) (m : Meter) : State := { s with site := r, meter := m }

/-- A working record as either reset leaves it, of a unit whose record passes its tests. -/
def UnitEntry.loaded (u : UnitNo) (e : UnitEntry) : Prop :=
  e = .blank ∨ ∃ r : UnitRecord, r.valid u = true ∧ e = { record := some r, status := .fresh }

theorem UnitEntry.loaded_compliant {u : UnitNo} {e : UnitEntry} (h : e.loaded u) : e.status.noncompliant = false := by
  rcases h with rfl | ⟨r, -, rfl⟩ <;> rfl

/-- A condition that each effect of a step keeps. -/
structure Kept (I : State → Prop) : Prop where
  framed : ∀ {s t : State}, s.Framed t → I s → I t
  pass : ∀ {s : State}, I s → I s.admissionPass
  desire : ∀ {s : State} (u : UnitNo), I s → I (s.desireStep u)
  request : ∀ {s : State} (u : UnitNo) (d r : Nat) (c : Condition), I s → I (s.requestEvent u d r c)
  windDown : ∀ {s : State} {u : UnitNo} {st : UnitState} {r : StopReason},
    (s.status u).state = .active ∨ (s.status u).state = .locked → st ≠ .active → st ≠ .unconfigured → r.spared = false →
    I s → I (s.windDown u st r)
  retire : ∀ {s : State} (u : UnitNo), I s → I (s.retireIfEmpty u)
  unlock : ∀ {s : State} {u : UnitNo}, (s.status u).state = .locked → I s → I ((s.unlocked u).desireStep u)
  release : ∀ {s : State} {u : UnitNo}, s.configured u = true → I s → I ((s.forceRelease u).settleLevel u (s.level u))
  install : ∀ {s : State} {u : UnitNo} {r : UnitRecord}, s.record u = none → r.valid u = true → I s → I (s.install u r)
  change : ∀ {s : State} {u : UnitNo} {old r : UnitRecord}, s.record u = some old → (s.status u).state ≠ .retiring →
    r.valid u = true → r.ratings = old.ratings ∨ s.hasPermit u = false → I s → I (s.changeRecord u old r)
  site : ∀ {s : State} {r : SiteRecord} {m : Meter}, (s.site.valid = true → r.valid = true) →
    (r.subCount = s.site.subCount ∧ r.subLength = s.site.subLength ∧ m.ring = s.meter.ring ∧ m.rolling = s.meter.rolling
      ∨ m.ring = [] ∧ m.rolling = 0) → I s → I (s.withSite r m)
  stop : ∀ {s : State} {u : UnitNo} {r : StopReason} (stages : Nat → Bool), (r.spared = true → s.cls u ≠ 0) →
    I s → I ((s.enterStop u r stages).settleLevel u (s.level u))
  settle : ∀ {s : State} (i : SlotNo), I s → I (s.settleExpiry i)
  minRun : ∀ {s : State} (i : SlotNo), I s → I (s.minRunExpiry i)
  draining : ∀ {s : State} (i : SlotNo), I s → I (s.drainingExpiry i)
  rotation : ∀ {s : State} (i : SlotNo), I s → I (s.rotationExpiry i)
  compliance : ∀ {s : State} (i : SlotNo), I s → I (s.complianceExpiry i)
  minOff : ∀ {s : State} (i : SlotNo), I s → I (s.minOffExpiry i)
  slotTick : ∀ {s : State}, I s → I (s.takePart .slotCounters)
  holdTick : ∀ {s : State}, I s → I (s.takePart .restartHold)
  gateTick : ∀ {s : State}, I s → I (s.takePart .startGate)
  holdEnd : ∀ {s : State}, I s → I { s with hold := .ended, startGate := .opened }
  close : ∀ {s : State}, I s → I s.closeSubinterval
  missOf : ∀ {s : State} (u : UnitNo), I s → I (s.missOf u)
  hear : ∀ {s : State} (u : UnitNo), I s → I (s.hear u)
  transaction : ∀ {s : State}, I s → I s.nextTransaction
  reinit : ∀ {s : State} {site : SiteRecord} {units : Vector UnitEntry 36} (n : BitVec 16),
    (∀ u : UnitNo, units[u].status.noncompliant = false) →
    (s.recordsSound → site.valid = true ∧ ∀ u : UnitNo, units[u].loaded u) → I s → I (s.reinitialise site units n)

section

variable {I : State → Prop} {s : State}

/-! ### The commands of the panel port -/

theorem Kept.latched (h : Kept I) (hs : I s) (r : Response) : I (s.latch r) :=
  h.framed (s := s) ⟨rfl, rfl, rfl, rfl, rfl, rfl, rfl, rfl, .inl ⟨rfl, rfl⟩⟩ hs

theorem Kept.serve (h : Kept I) {f : State → Reply} (hf : ∀ t : State, I t → I (f t).1) (bytes : List Byte) (hs : I s) :
    I (s.serve bytes f) := by
  unfold State.serve
  split
  · exact hs
  · have ht : I (s.buffered (bytes.take Config.bufferCapacity)) :=
      h.framed (s := s) ⟨rfl, rfl, rfl, rfl, rfl, rfl, rfl, rfl, .inl ⟨rfl, rfl⟩⟩ hs
    exact h.latched (hf _ ht) _

theorem Kept.withUnit (f : UnitNo → State → Reply) (hf : ∀ (u : UnitNo) (t : State), I t → I (f u t).1) (b : Byte)
    (t : State) (ht : I t) : I (withUnit b f t).1 := by
  unfold Machine.withUnit
  split
  · exact hf _ t ht
  · exact ht

theorem Kept.callEvent (h : Kept I) (c : ChannelNo) (b : Bool) (hs : I s) : I (s.callEvent c b) :=
  h.request (channelUnit c) _ _ _
    (h.framed (s := s) ⟨rfl, rfl, rfl, rfl, rfl, rfl, rfl, rfl, .inl ⟨rfl, rfl⟩⟩ hs)

theorem Kept.wakeLine (h : Kept I) (hs : I s) : I s.wakeLine := by
  unfold State.wakeLine
  split
  · exact h.transaction hs
  · exact hs

theorem Kept.setUnitRecord (h : Kept I) {u : UnitNo} {r : UnitRecord} (hr : r.valid u = true) (hs : I s) :
    I (s.setUnitRecord u r).1 := by
  unfold State.setUnitRecord
  split
  · next hrec =>
    have hi := h.install hrec hr hs
    show I (s.configureUnit u r)
    unfold State.configureUnit
    dsimp only
    split
    · exact h.callEvent _ _ hi
    · exact h.wakeLine hi
  · next old hrec =>
    split
    · exact hs
    · next hst =>
      split
      · exact hs
      · next hrat =>
        refine h.change hrec hst hr ?_ hs
        by_contra hno
        obtain ⟨h1, h2⟩ := not_or.mp hno
        exact hrat (by rw [decide_eq_true h1, Bool.true_and]; exact Bool.not_eq_false _ |>.mp h2)

theorem Kept.setUnit (h : Kept I) (params : List Byte) (hs : I s) : I (s.setUnit params).1 := by
  unfold State.setUnit
  split
  · exact hs
  · split
    · next u r hp => exact h.setUnitRecord (encode_of_parseUnitRecord hp).2 hs
    · exact hs

theorem Kept.lockUnit (h : Kept I) (u : UnitNo) (hs : I s) : I (s.lockUnit u).1 := by
  cases hst : (s.status u).state with
  | active =>
    simpa only [State.lockUnit, hst] using
      h.windDown (.inl hst) (st := .locked) (r := .locked) (by decide) (by decide) rfl hs
  | locked => simpa only [State.lockUnit, hst] using hs
  | retiring => simpa only [State.lockUnit, refusedWith, hst] using hs
  | unconfigured => simpa only [State.lockUnit, refusedWith, hst] using hs

theorem Kept.unlockUnit (h : Kept I) (u : UnitNo) (hs : I s) : I (s.unlockUnit u).1 := by
  cases hst : (s.status u).state with
  | active => simpa only [State.unlockUnit, hst] using hs
  | locked =>
    have ht := h.unlock hst hs
    unfold State.unlocked at ht
    simpa only [State.unlockUnit, hst] using ht
  | retiring => simpa only [State.unlockUnit, refusedWith, hst] using hs
  | unconfigured => simpa only [State.unlockUnit, refusedWith, hst] using hs

theorem Kept.retireUnit (h : Kept I) (u : UnitNo) (hs : I s) : I (s.retireUnit u).1 := by
  have hwind (hst : (s.status u).state = .active ∨ (s.status u).state = .locked) :
      I ((s.windDown u .retiring .retired).retireIfEmpty u) :=
    h.retire u (h.windDown hst (by decide) (by decide) rfl hs)
  cases hst : (s.status u).state with
  | active => simpa only [State.retireUnit, hst] using hwind (.inl hst)
  | locked => simpa only [State.retireUnit, hst] using hwind (.inr hst)
  | retiring => simpa only [State.retireUnit, refusedWith, hst] using hs
  | unconfigured => simpa only [State.retireUnit, refusedWith, hst] using hs

theorem Kept.releaseUnit (h : Kept I) (u : UnitNo) (hs : I s) : I (s.releaseUnit u).1 := by
  unfold State.releaseUnit
  split
  · next hc => exact h.release hc hs
  · exact hs

theorem Kept.stopVictim (h : Kept I) {r : StopReason} {i : SlotNo}
    (hi : ∀ p, s.slots[i].permit = some p → s.cls p.unit ≠ 0) (hs : I s) : I (s.stopVictim r i) := by
  unfold State.stopVictim
  split
  · next p hp =>
    have ht := h.framed (s := s) (t := { s with shedGate := .counting (s.site.shedSpacing + 1) })
      ⟨rfl, rfl, rfl, rfl, rfl, rfl, rfl, rfl, .inl ⟨rfl, rfl⟩⟩ hs
    exact h.stop (u := p.unit) (r := r) (fun k => decide (k = p.stage)) (fun _ => hi p hp) ht
  · exact hs

theorem firstVictim_mem : ∀ {l : List SlotNo} {i : SlotNo}, s.firstVictim l = some i → i ∈ l := by
  intro l
  induction l with
  | nil => exact fun h => by cases h
  | cons j l ih =>
    intro i h
    unfold State.firstVictim at h
    split at h
    · cases h; exact List.mem_cons_self
    · next k hk =>
      split at h
      · cases h; exact List.mem_cons_of_mem j (ih hk)
      · cases h; exact List.mem_cons_self

/-- A victim is of a class other than 0 (R128). -/
theorem State.victim_cls {f : Permit → Bool} {i : SlotNo} (h : s.firstVictim (s.victims f) = some i) (p : Permit)
    (hp : s.slots[i].permit = some p) : s.cls p.unit ≠ 0 := by
  obtain ⟨q, hq, -, -, hc, -⟩ := State.mem_victims.mp (firstVictim_mem h)
  cases hp.symm.trans hq
  exact hc

theorem State.rotationChoice_some {q : List QueueEntry} {i : SlotNo} (h : s.rotationChoice q = some i) :
    ∃ f, s.firstVictim (s.victims f) = some i := by
  induction q with
  | nil => cases h
  | cons e q ih =>
    unfold State.rotationChoice at h
    split at h
    · split at h
      · split at h
        · next j hj => cases h; exact ⟨_, hj⟩
        · exact ih h
      · exact ih h
    · exact ih h

theorem Kept.shedAction (h : Kept I) (hs : I s) : I s.shedAction := by
  unfold State.shedAction
  split
  · split
    · next i hi => exact h.stopVictim (State.victim_cls hi) hs
    · split
      · exact hs
      · exact h.framed (s := s) ⟨rfl, rfl, rfl, rfl, rfl, rfl, rfl, rfl, .inl ⟨rfl, rfl⟩⟩ hs
  · split
    · next i hi =>
      unfold State.curtailVictim at hi
      split at hi
      · exact h.stopVictim (State.victim_cls hi) hs
      · cases hi
    · split
      · next i hi =>
        obtain ⟨f, hf⟩ := State.rotationChoice_some hi
        exact h.stopVictim (State.victim_cls hf) hs
      · exact hs

theorem State.moveDemand_framed (s : State) : s.Framed s.moveDemand := by
  unfold State.moveDemand
  split
  · split <;> exact ⟨rfl, rfl, rfl, rfl, rfl, rfl, rfl, rfl, .inl ⟨rfl, rfl⟩⟩
  · exact ⟨rfl, rfl, rfl, rfl, rfl, rfl, rfl, rfl, .inl ⟨rfl, rfl⟩⟩

theorem Kept.actIfOpen (h : Kept I) (hs : I s) : I s.actIfOpen := by
  unfold State.actIfOpen
  split
  · exact h.shedAction hs
  · exact hs

theorem Kept.shedEvaluation (h : Kept I) (hs : I s) : I s.shedEvaluation :=
  h.actIfOpen (h.framed s.moveDemand_framed hs)

theorem Meter.takeSite_ring (old new : SiteRecord) (m : Meter) :
    new.subCount = old.subCount ∧ new.subLength = old.subLength ∧ (m.takeSite old new).ring = m.ring
        ∧ (m.takeSite old new).rolling = m.rolling
      ∨ (m.takeSite old new).ring = [] ∧ (m.takeSite old new).rolling = 0 := by
  unfold Meter.takeSite
  dsimp only
  by_cases hsame : (decide (old.subLength = new.subLength) && decide (old.subCount = new.subCount)) = true
  · rw [if_pos hsame]
    obtain ⟨h1, h2⟩ := Bool.and_eq_true_iff.mp hsame
    refine .inl ⟨(of_decide_eq_true h2).symm, (of_decide_eq_true h1).symm, ?_⟩
    split <;> exact ⟨rfl, rfl⟩
  · rw [if_neg hsame]
    refine .inr ?_
    split <;> exact ⟨rfl, rfl⟩

theorem Kept.setSite (h : Kept I) (params : List Byte) (hs : I s) : I (s.setSite params).1 := by
  unfold State.setSite
  split
  · exact hs
  · split
    · next r hr =>
      have hsite := h.site (s := s) (fun _ => (encode_of_parseSiteRecord hr).2) (Meter.takeSite_ring s.site r s.meter) hs
      show I (s.replaceSite r)
      unfold State.replaceSite
      dsimp only
      split
      · exact hsite
      · exact h.shedEvaluation hsite
    · exact hs

theorem SiteRecord.valid_withLimit {r : SiteRecord} (h : r.valid = true) {d m : Nat} (hd : 1 ≤ d) (hd' : d ≤ 65535)
    (hm : m ≤ d) : { r with limit := d, margin := m }.valid = true := by
  simp only [SiteRecord.valid, inRange, Bool.and_eq_true, decide_eq_true_eq] at h ⊢
  simp_all

theorem Kept.setLimit (h : Kept I) (d m : BitVec 16) (hs : I s) : I (s.setLimit d.toNat m.toNat).1 := by
  unfold State.setLimit
  split
  · exact hs
  · next hok =>
    rw [Bool.or_eq_true, decide_eq_true_eq, decide_eq_true_eq, not_or] at hok
    refine h.shedEvaluation (h.site (s := s) (m := s.meter) (fun hv => ?_) (.inl ⟨rfl, rfl, rfl, rfl⟩) hs)
    exact SiteRecord.valid_withLimit hv (Nat.pos_of_ne_zero hok.1) (by have := d.isLt; omega) (Nat.not_lt.mp hok.2)

theorem Kept.curtail (h : Kept I) (n : Nat) (hs : I s) : I (s.curtail n).1 := by
  unfold State.curtail
  split
  · exact hs
  · exact h.actIfOpen (h.framed (s := s) ⟨rfl, rfl, rfl, rfl, rfl, rfl, rfl, rfl, .inl ⟨rfl, rfl⟩⟩ hs)

/-! ### The events of the part -/

theorem Kept.live {f : State → State} (h : I s → I (f s)) (hs : I s) : I (s.live f) := by
  unfold State.live
  split
  · exact hs
  · exact h hs

theorem Kept.openStartGate (h : Kept I) (hs : I s) : I s.openStartGate := by
  unfold State.openStartGate
  split
  · exact h.pass (h.framed (s := s) ⟨rfl, rfl, rfl, rfl, rfl, rfl, rfl, rfl, .inl ⟨rfl, rfl⟩⟩ hs)
  · exact hs

theorem Kept.openShedGate (h : Kept I) (hs : I s) : I s.openShedGate := by
  unfold State.openShedGate
  split
  · exact h.shedAction (h.framed (s := s) ⟨rfl, rfl, rfl, rfl, rfl, rfl, rfl, rfl, .inl ⟨rfl, rfl⟩⟩ hs)
  · exact hs

theorem Kept.endHold (h : Kept I) (hs : I s) : I s.endHold := by
  unfold State.endHold
  split
  · exact h.pass (h.holdEnd hs)
  · exact hs

/-- A change of the Meter Interface that leaves the ring, or empties it. -/
theorem Kept.modifyMeter (h : Kept I) {f : Meter → Meter}
    (hf : (f s.meter).ring = s.meter.ring ∧ (f s.meter).rolling = s.meter.rolling
      ∨ (f s.meter).ring = [] ∧ (f s.meter).rolling = 0) (hs : I s) : I (s.modifyMeter f) :=
  h.framed (s := s) ⟨rfl, rfl, rfl, rfl, rfl, rfl, rfl, rfl, hf⟩ hs

theorem Kept.raise (h : Kept I) (n : Notice) (hs : I s) : I (s.raise n) :=
  h.framed (s := s) ⟨rfl, rfl, rfl, rfl, rfl, rfl, rfl, rfl, .inl ⟨rfl, rfl⟩⟩ hs

theorem Kept.raiseIf (h : Kept I) (b : Bool) (n : Notice) (hs : I s) : I (s.raiseIf b n) := by
  cases b
  · exact hs
  · exact h.raise n hs

theorem Kept.meterLoss (h : Kept I) (hs : I s) : I s.meterLoss := by
  unfold State.meterLoss
  split
  · exact h.raise _ (h.modifyMeter (.inl ⟨rfl, rfl⟩) hs)
  · exact hs

theorem Kept.freeClose (h : Kept I) (hs : I s) : I s.freeClose := by
  unfold State.freeClose
  split
  · exact h.close hs
  · exact hs

theorem Kept.selfClose (h : Kept I) (hs : I s) : I s.selfClose := by
  unfold State.selfClose
  split
  · exact h.raise _ (h.close (h.modifyMeter (.inl ⟨rfl, rfl⟩) hs))
  · exact hs

theorem Kept.eoiMark (h : Kept I) (hs : I s) : I s.eoiMark := by
  have ht : I (s.modifyMeter fun m => { m with eoiDue := false }) := h.modifyMeter (.inl ⟨rfl, rfl⟩) hs
  unfold State.eoiMark
  dsimp only
  split
  · split
    · exact ht
    · split
      · exact h.close (h.modifyMeter (.inl ⟨rfl, rfl⟩) ht)
      · exact h.raiseIf _ _ (h.close ht)
  · exact hs

theorem Meter.countPulse_ring (site : SiteRecord) (b : Bool) (m : Meter) :
    (m.countPulse site b).ring = m.ring ∧ (m.countPulse site b).rolling = m.rolling
      ∨ (m.countPulse site b).ring = [] ∧ (m.countPulse site b).rolling = 0 := by
  unfold Meter.countPulse
  dsimp only
  split
  · exact .inr ⟨rfl, rfl⟩
  all_goals exact .inl ⟨rfl, rfl⟩

theorem Kept.pulseEdge (h : Kept I) (b : Bool) (hs : I s) : I (s.pulseEdge b) := by
  have ht : I (s.modifyMeter fun m => { m with pulseDue := false }) := h.modifyMeter (.inl ⟨rfl, rfl⟩) hs
  unfold State.pulseEdge
  dsimp only
  split
  · split
    · exact h.raise _ ht
    · exact h.shedEvaluation (h.modifyMeter (Meter.countPulse_ring _ _ _) ht)
  · exact hs

theorem Kept.callChange (h : Kept I) (c : ChannelNo) (hs : I s) : I (s.callChange c) := by
  unfold State.callChange
  split
  · split
    · exact h.callEvent c _ hs
    · exact h.framed (s := s) ⟨rfl, rfl, rfl, rfl, rfl, rfl, rfl, rfl, .inl ⟨rfl, rfl⟩⟩ hs
  · exact hs

theorem Kept.cycleStop (h : Kept I) (c : ChannelNo) (hs : I s) : I (s.cycleStop c) := by
  unfold State.cycleStop
  have ht : I (s.modifyChannel c fun ch => { ch with testDue := false }) :=
    h.framed (s := s) ⟨rfl, rfl, rfl, rfl, rfl, rfl, rfl, rfl, .inl ⟨rfl, rfl⟩⟩ hs
  split
  · dsimp only
    split
    · exact h.stop (u := channelUnit c) (r := .cycled) (fun k => decide (k = 0)) (fun hsp => absurd hsp (by decide)) ht
    · exact ht
  · exact hs

/-! ### The ticks and crystal time -/

theorem Kept.takePart (h : Kept I) (p : TickPart) (hs : I s) : I (s.takePart p) := by
  cases p with
  | restartHold => exact h.holdTick hs
  | startGate => exact h.gateTick hs
  | shedGate => exact h.framed (s := s) ⟨rfl, rfl, rfl, rfl, rfl, rfl, rfl, rfl, .inl ⟨rfl, rfl⟩⟩ hs
  | slotCounters => exact h.slotTick hs
  | subintervalClock => exact h.modifyMeter (.inl ⟨rfl, rfl⟩) hs
  | rateDecay =>
    refine h.modifyMeter (.inl ?_) hs
    unfold Meter.secondTick
    split
    · exact ⟨rfl, rfl⟩
    · split
      · split <;> exact ⟨rfl, rfl⟩
      · exact ⟨rfl, rfl⟩
  | cycleCounters => exact h.framed (s := s) ⟨rfl, rfl, rfl, rfl, rfl, rfl, rfl, rfl, .inl ⟨rfl, rfl⟩⟩ hs
  | shedEvaluation => exact h.shedEvaluation hs
  | wiredRetry c =>
    show I (s.retryWired c)
    unfold State.retryWired
    split
    · exact h.desire _ hs
    · exact hs
  | regularPass => exact h.pass hs

theorem Kept.takeEvent (h : Kept I) (e : TickEvent) (hs : I s) : I (s.takeEvent e) := by
  cases e with
  | settleExpiry i => exact h.settle i hs
  | minRunExpiry i => exact h.minRun i hs
  | drainingMinRunExpiry i => exact h.draining i hs
  | rotationExpiry i => exact h.rotation i hs
  | complianceExpiry i => exact h.compliance i hs
  | minOffExpiry i => exact h.minOff i hs
  | startGateOpening => exact h.openStartGate hs
  | shedGateOpening => exact h.openShedGate hs
  | restartHoldEnd => exact h.endHold hs
  | meterLoss => exact h.meterLoss hs
  | freeClose => exact h.freeClose hs
  | selfClose => exact h.selfClose hs
  | cycleOnLimitStop c => exact h.cycleStop c hs

theorem Kept.takeItems (h : Kept I) (l : List TickItem) : ∀ s : State, I s → I (l.foldl State.takeItem s) := by
  induction l with
  | nil => exact fun s hs => hs
  | cons i l ih =>
    intro s hs
    refine ih _ ?_
    cases i with
    | part p => exact h.takePart p hs
    | event e => exact h.takeEvent e hs

theorem Kept.secondTick (h : Kept I) (order : List TickItem) (hs : I s) : I (s.secondTick order) :=
  h.takeItems _ _ (h.framed (s := s) ⟨rfl, rfl, rfl, rfl, rfl, rfl, rfl, rfl, .inl ⟨rfl, rfl⟩⟩ hs)

theorem RoofLink.millisecondTick_urgent (l : RoofLink) : l.millisecondTick.urgent = l.urgent := by
  unfold RoofLink.millisecondTick
  split <;> rfl

theorem Kept.millisecondTick (h : Kept I) (inputs : InputLevels) (hs : I s) : I (s.millisecondTick inputs) := by
  unfold State.millisecondTick
  dsimp only
  split
  · exact h.framed (s := s) ⟨rfl, rfl, rfl, rfl, rfl, rfl, rfl, s.link.millisecondTick_urgent, .inl ⟨rfl, rfl⟩⟩ hs
  · exact h.framed (s := s) ⟨rfl, rfl, rfl, rfl, rfl, rfl, rfl, s.link.millisecondTick_urgent, .inl ⟨rfl, rfl⟩⟩ hs

theorem Kept.crystalCycle (h : Kept I) (hs : I s) : I s.crystalCycle :=
  h.framed (s := s) ⟨rfl, rfl, rfl, rfl, rfl, rfl, rfl, rfl, .inl ⟨rfl, rfl⟩⟩ hs

/-! ### The roof link -/

theorem Kept.modifyLink (h : Kept I) {f : RoofLink → RoofLink} (hf : (f s.link).urgent = s.link.urgent) (hs : I s) :
    I (s.modifyLink f) :=
  h.framed (s := s) ⟨rfl, rfl, rfl, rfl, rfl, rfl, rfl, hf, .inl ⟨rfl, rfl⟩⟩ hs

theorem Kept.beginGap (h : Kept I) (hs : I s) : I s.beginGap := h.modifyLink (s := s) rfl hs

theorem Kept.gapEnd (h : Kept I) (hs : I s) : I s.gapEnd := by
  unfold State.gapEnd
  split
  · exact h.transaction hs
  · exact hs

theorem Kept.report (h : Kept I) (u : UnitNo) (l : List Byte) (hs : I s) : I (s.report u l) := by
  unfold State.report
  split
  · exact h.request u _ _ _ (h.hear u hs)
  · exact hs

theorem Kept.endReply (h : Kept I) (hs : I s) : I s.endReply := by
  unfold State.endReply
  split
  · split
    · split
      · exact h.report _ _ (h.beginGap hs)
      · exact h.missOf _ (h.beginGap hs)
    · exact hs
  · exact hs

theorem Kept.endBroken (h : Kept I) (hs : I s) : I s.endBroken := by
  unfold State.endBroken
  split
  · split
    · exact h.missOf _ (h.beginGap hs)
    · exact hs
  · exact hs

theorem Kept.endTimeout (h : Kept I) (hs : I s) : I s.endTimeout := by
  unfold State.endTimeout
  split
  · split
    · exact h.missOf _ (h.beginGap hs)
    · exact hs
  · exact hs

theorem RoofLink.sent_urgent (l : RoofLink) : l.sent.urgent = l.urgent := by
  unfold RoofLink.sent; split <;> rfl

theorem RoofLink.receive_urgent (data : Byte) (mark : Bool) (l : RoofLink) : (l.receive data mark).urgent = l.urgent := by
  unfold RoofLink.receive RoofLink.takeCharacter
  split
  · rfl
  · split
    · rfl
    · split
      · split <;> rfl
      · split <;> rfl

theorem RoofLink.framingError_urgent (mark : Bool) (l : RoofLink) : (l.framingError mark).urgent = l.urgent := by
  unfold RoofLink.framingError
  split <;> rfl

theorem RoofLink.lineHigh_urgent (l : RoofLink) : l.lineHigh.urgent = l.urgent := by
  unfold RoofLink.lineHigh
  split <;> rfl

/-! ### The store and the resets -/

theorem UnitEntry.loaded_afterReset {u : UnitNo} {r : Option UnitRecord} (h : ∀ x ∈ r, x.valid u = true) :
    (UnitEntry.afterReset r).loaded u := by
  cases r with
  | none => exact .inl rfl
  | some x => exact .inr ⟨x, h x rfl, rfl⟩

theorem UnitEntry.afterReset_compliant (r : Option UnitRecord) : (UnitEntry.afterReset r).status.noncompliant = false := by
  cases r <;> rfl

theorem Kept.softRestart (h : Kept I) (hs : I s) : I s.softRestart := by
  refine h.reinit _ (fun u => ?_) (fun hr => ⟨hr.1, fun u => ?_⟩) hs
  · rw [Fin.getElem_fin, Vector.getElem_ofFn]
    unfold UnitEntry.afterRestart
    split
    · rfl
    · exact UnitEntry.afterReset_compliant _
  · rw [Fin.getElem_fin, Vector.getElem_ofFn]
    unfold UnitEntry.afterRestart
    split
    · exact .inl rfl
    · exact UnitEntry.loaded_afterReset fun x hx => (hr.2 u).2 x hx

theorem Kept.servedRestart (h : Kept I) (hs : I s) : I s.servedRestart := by
  unfold State.servedRestart
  split
  · exact hs
  · exact h.softRestart hs

theorem SettingsStore.load_some {st : SettingsStore} {site : SiteRecord} {units : Vector UnitEntry 36}
    (h : st.load = some (site, units)) : site.valid = true ∧ ∀ u : UnitNo, units[u].loaded u := by
  unfold SettingsStore.load at h
  split at h
  · next hall =>
    obtain ⟨x, hx, hxu⟩ := Option.map_eq_some_iff.mp h
    cases hxu
    refine ⟨(encode_of_parseSiteRecord hx).2, fun u => ?_⟩
    rw [Fin.getElem_fin, Vector.getElem_ofFn]
    refine UnitEntry.loaded_afterReset fun r hr => ?_
    have hload : placeLoads u st.places[u] = true :=
      List.all_eq_true.mp (Bool.and_eq_true_iff.mp hall).2 u (List.mem_finRange u)
    change r ∈ placeRecord st.places[u] at hr
    cases hp : st.places[u] with
    | none => rw [hp] at hr; cases hr
    | some bytes =>
      rw [hp] at hr hload
      unfold placeRecord at hr
      unfold placeLoads at hload
      obtain ⟨⟨v, r'⟩, hparse, hrr⟩ := Option.map_eq_some_iff.mp hr
      cases hrr
      dsimp only at hload
      rw [hparse] at hload
      exact (of_decide_eq_true hload) ▸ (encode_of_parseUnitRecord hparse).2
  · cases h

theorem Kept.powerOn (h : Kept I) (straps : BitVec 2) (hs : I s) : I (s.powerOn straps) := by
  have ht : I { s with store := s.store.cutOff, panel := { s.panel with straps := straps } } :=
    h.framed (s := s) ⟨rfl, rfl, rfl, rfl, rfl, rfl, rfl, rfl, .inl ⟨rfl, rfl⟩⟩ hs
  unfold State.powerOn
  dsimp only
  split
  · next site units hload =>
    exact h.reinit _ (fun u => UnitEntry.loaded_compliant ((SettingsStore.load_some hload).2 u))
      (fun _ => SettingsStore.load_some hload) ht
  · refine h.reinit _ (fun u => ?_) (fun _ => ⟨by decide, fun u => .inl ?_⟩) ht
    · rw [Fin.getElem_fin, Vector.getElem_replicate]; rfl
    · rw [Fin.getElem_fin, Vector.getElem_replicate]

theorem Kept.endSave (h : Kept I) (hs : I s) : I s.endSave := by
  unfold State.endSave
  split
  · exact h.framed (s := s) ⟨rfl, rfl, rfl, rfl, rfl, rfl, rfl, rfl, .inl ⟨rfl, rfl⟩⟩ hs
  · exact hs

/-! ### The commands -/

/-- A reading command leaves everything but the response as it was. -/
theorem Kept.answer (h : Kept I) (f : State → List Byte) (bytes : List Byte) (hs : I s) : I (s.serve bytes (answering f)) :=
  h.serve (fun _ ht => ht) bytes hs

theorem Kept.runWrite (h : Kept I) (bytes : List Byte) (c : Sys2Proof.Instr) (hs : I s) : I (s.runWrite bytes c) := by
  cases c with
  | setUnit params => exact h.serve (fun t ht => h.setUnit params ht) bytes hs
  | lockUnit b => exact h.serve (Kept.withUnit _ (fun u t ht => h.lockUnit u ht) b) bytes hs
  | unlockUnit b => exact h.serve (Kept.withUnit _ (fun u t ht => h.unlockUnit u ht) b) bytes hs
  | retireUnit b => exact h.serve (Kept.withUnit _ (fun u t ht => h.retireUnit u ht) b) bytes hs
  | releaseUnit b => exact h.serve (Kept.withUnit _ (fun u t ht => h.releaseUnit u ht) b) bytes hs
  | setSite params => exact h.serve (fun t ht => h.setSite params ht) bytes hs
  | setLimit d m => exact h.serve (fun t ht => h.setLimit d m ht) bytes hs
  | curtail c => exact h.serve (fun t ht => h.curtail c.toNat ht) bytes hs
  | getUnit b => exact h.serve (Kept.withUnit _ (fun _ _ ht => ht) b) bytes hs
  | readUnitStatus b => exact h.serve (Kept.withUnit _ (fun _ _ ht => ht) b) bytes hs
  | readPermit b =>
    refine h.serve (fun t ht => ?_) bytes hs
    unfold State.readPermit
    split <;> exact ht
  | getSite => exact h.answer _ bytes hs
  | readDemand => exact h.answer _ bytes hs
  | readQueue => exact h.answer _ bytes hs
  | resetPeak =>
    exact h.serve (fun t ht => h.framed (s := t) ⟨rfl, rfl, rfl, rfl, rfl, rfl, rfl, rfl, .inl ⟨rfl, rfl⟩⟩ ht) bytes hs
  | readNotices =>
    exact h.serve (fun t ht => h.framed (s := t) ⟨rfl, rfl, rfl, rfl, rfl, rfl, rfl, rfl, .inl ⟨rfl, rfl⟩⟩ ht) bytes hs
  | save =>
    exact h.serve (fun t ht => h.framed (s := t) ⟨rfl, rfl, rfl, rfl, rfl, rfl, rfl, rfl, .inl ⟨rfl, rfl⟩⟩ ht) bytes hs
  | restart => exact h.servedRestart hs
  | _ => exact hs

theorem Kept.writeTransaction (h : Kept I) (a : BitVec 7) (bytes : List Byte) (broken : Bool) (hs : I s) :
    I (s.writeTransaction a bytes broken) := by
  have hrefused : I (s.serve bytes (refusedWith .badCommand)) := h.serve (fun _ ht => ht) bytes hs
  unfold State.writeTransaction
  split
  · exact hs
  · split
    · exact hrefused
    · split
      · exact hs
      · exact hrefused
      · exact hrefused
      · exact hrefused
      · exact h.runWrite bytes _ hs

theorem Kept.assertReset (h : Kept I) (hs : I s) : I s.assertReset :=
  h.framed (s := s) ⟨rfl, rfl, rfl, rfl, rfl, rfl, rfl, rfl, .inl ⟨rfl, rfl⟩⟩ hs

theorem Kept.exec (h : Kept I) (c : Sys2Proof.Instr) (hs : I s) {t : State} (ht : Machine.exec c s = .next t) : I t := by
  cases c with
  | setUnit params => cases ht; exact h.runWrite _ (.setUnit params) hs
  | getUnit b => cases ht; exact h.runWrite _ (.getUnit b) hs
  | readUnitStatus b => cases ht; exact h.runWrite _ (.readUnitStatus b) hs
  | lockUnit b => cases ht; exact h.runWrite _ (.lockUnit b) hs
  | unlockUnit b => cases ht; exact h.runWrite _ (.unlockUnit b) hs
  | retireUnit b => cases ht; exact h.runWrite _ (.retireUnit b) hs
  | releaseUnit b => cases ht; exact h.runWrite _ (.releaseUnit b) hs
  | setSite params => cases ht; exact h.runWrite _ (.setSite params) hs
  | getSite => cases ht; exact h.runWrite _ .getSite hs
  | setLimit d m => cases ht; exact h.runWrite _ (.setLimit d m) hs
  | curtail c => cases ht; exact h.runWrite _ (.curtail c) hs
  | readDemand => cases ht; exact h.runWrite _ .readDemand hs
  | resetPeak => cases ht; exact h.runWrite _ .resetPeak hs
  | readPermit b => cases ht; exact h.runWrite _ (.readPermit b) hs
  | readQueue => cases ht; exact h.runWrite _ .readQueue hs
  | readNotices => cases ht; exact h.runWrite _ .readNotices hs
  | save => cases ht; exact h.runWrite _ .save hs
  | restart => cases ht; exact h.servedRestart hs
  | saveEnd =>
    cases ht
    split
    · exact hs
    · exact h.endSave hs
  | panelWrite a bytes broken => cases ht; exact h.writeTransaction a bytes broken hs
  | powerOnReset straps => cases ht; exact h.powerOn straps hs
  | resetAsserted => cases ht; exact h.assertReset hs
  | secondTick order => cases ht; exact Kept.live (h.secondTick order) hs
  | settleExpiry i => cases ht; exact Kept.live (h.settle i) hs
  | minRunExpiry i => cases ht; exact Kept.live (h.minRun i) hs
  | drainingMinRunExpiry i => cases ht; exact Kept.live (h.draining i) hs
  | rotationExpiry i => cases ht; exact Kept.live (h.rotation i) hs
  | complianceExpiry i => cases ht; exact Kept.live (h.compliance i) hs
  | minOffExpiry i => cases ht; exact Kept.live (h.minOff i) hs
  | startGateOpening => cases ht; exact Kept.live h.openStartGate hs
  | shedGateOpening => cases ht; exact Kept.live h.openShedGate hs
  | restartHoldEnd => cases ht; exact Kept.live h.endHold hs
  | meterLoss => cases ht; exact Kept.live h.meterLoss hs
  | freeClose => cases ht; exact Kept.live h.freeClose hs
  | selfClose => cases ht; exact Kept.live h.selfClose hs
  | eoiMark => cases ht; exact Kept.live h.eoiMark hs
  | pulseEdge b => cases ht; exact Kept.live (h.pulseEdge b) hs
  | callChange c => cases ht; exact Kept.live (h.callChange c) hs
  | cycleOnLimitStop c => cases ht; exact Kept.live (h.cycleStop c) hs
  | linkGapEnd => cases ht; exact Kept.live h.gapEnd hs
  | pollSent => cases ht; exact Kept.live (h.modifyLink s.link.sent_urgent) hs
  | reportReceived => cases ht; exact Kept.live h.endReply hs
  | replyEndedEarly => cases ht; exact Kept.live h.endBroken hs
  | replyTimeout => cases ht; exact Kept.live h.endTimeout hs
  | millisecondTick inputs => cases ht; exact Kept.live (h.millisecondTick inputs) hs
  | characterReceived data mark => cases ht; exact Kept.live (h.modifyLink (s.link.receive_urgent data mark)) hs
  | receiverFramingError mark => cases ht; exact Kept.live (h.modifyLink (s.link.framingError_urgent mark)) hs
  | receiverLineHigh => cases ht; exact Kept.live (h.modifyLink s.link.lineHigh_urgent) hs

/-- What each effect keeps, a step keeps. -/
theorem Kept.step (h : Kept I) (hs : I s) {t : State} (ht : Machine.step s = .next t) : I t := by
  unfold Machine.step at ht
  split at ht
  · cases ht; exact Kept.live h.crystalCycle hs
  · next c rest _ =>
    exact h.exec c (h.framed (s := s) (t := { s with pending := rest })
      ⟨rfl, rfl, rfl, rfl, rfl, rfl, rfl, rfl, .inl ⟨rfl, rfl⟩⟩ hs) ht

end

end Sys2Proof.Machine


/-! Every effect of a step keeps the tables sound (R2, R4, R21 to R24, R85, R110, R111). -/

namespace Sys2Proof.Machine

section

variable {s t : State} {u : UnitNo}

/-! ### A unit's own entry -/

/-- What an operation over one unit may do to what its entry reads: to an ACTIVE unit nothing that makes it less eligible. -/
def State.StaysEligible (u : UnitNo) (s t : State) : Prop :=
  s.eligible u = true → t.record u = s.record u ∧ t.eligible u = true

theorem State.eligible_active (h : s.eligible u = true) : (s.status u).state = .active := by
  obtain ⟨h1, -⟩ := Bool.and_eq_true_iff.mp h
  exact of_decide_eq_true (Bool.and_eq_true_iff.mp h1).1

theorem State.StaysEligible.of_units (h : t.units[u] = s.units[u]) : State.StaysEligible u s t := fun he => by
  obtain ⟨hr, hst⟩ := State.record_of_units h
  exact ⟨hr, by rw [State.eligible, hst]; exact he⟩

theorem State.StaysEligible.of_not_active (h : (s.status u).state ≠ .active) : State.StaysEligible u s t :=
  fun he => absurd (State.eligible_active he) h

theorem State.StaysEligible.of_status (hr : t.record u = s.record u) (hst : (t.status u).state = (s.status u).state)
    (hl : (t.status u).link = (s.status u).link) (hc : (t.status u).condition = (s.status u).condition) :
    State.StaysEligible u s t := fun he => by
  refine ⟨hr, ?_⟩
  rw [State.eligible, hst, hl, hc]
  exact he

/-- An entry that its unit's level and eligibility still bear out. -/
theorem State.Claims.stays {c : UnitNo × Nat × Nat} (h : s.Claims c) (hst : State.StaysEligible c.1 s t)
    (hl : t.level c.1 = s.level c.1) : t.Claims c := by
  obtain ⟨h1, h2, h3, h4⟩ := h
  obtain ⟨hr, he⟩ := hst h1
  exact ⟨he, by rw [State.cls, hr]; exact h2, hl ▸ h3, by rw [State.stageCount, hr]; exact h4⟩

/-- An operation over one unit that leaves its level and its eligibility leaves the tables sound. -/
theorem State.Reworked.sound (h : State.Reworked u s t) (hs : s.tablesSound) (hq : t.queue = s.queue)
    (hst : State.StaysEligible u s t) (hl : t.level u = s.level u) : t.tablesSound := by
  refine (h.soundBut (State.soundBut_of_sound hs u) hq).sound fun e he hu => ?_
  have hc := State.claims_of_sound hs _ (List.mem_map_of_mem (hq ▸ he))
  refine hc.stays ?_ ?_
  · show State.StaysEligible e.unit s t
    rw [hu]; exact hst
  · show t.level e.unit = s.level e.unit
    rw [hu]; exact hl

/-- An operation over one unit that may lower its level, with the desire step that follows where it does (R12, R24). -/
theorem State.Reworked.settled (h : State.Reworked u s t) (hs : s.tablesSound) (hq : t.queue = s.queue)
    (hst : State.StaysEligible u s t) (hl : t.level u ≤ s.level u) : (t.settleLevel u (s.level u)).tablesSound := by
  have hhand : State.Reworked u t (t.handOver u (s.level u)) :=
    (t.narrows_handOver u _).reworked h.tables (h.order.handOver _).1
  have hunit : (t.handOver u (s.level u)).units[u] = t.units[u] := by rw [t.handOver_units u]
  have hqueue : (t.handOver u (s.level u)).queue = s.queue := (t.handOver_aside u _).queue.trans hq
  have hlevel := (h.order.handOver (s.level u)).2
  unfold State.settleLevel
  dsimp only
  generalize t.handOver u (s.level u) = r at hhand hunit hqueue hlevel
  split
  · exact ((h.trans hhand).soundBut (State.soundBut_of_sound hs u) hqueue).desireStep
  · refine (h.trans hhand).sound hs hqueue (fun he => ?_) (by omega)
    obtain ⟨hr, he'⟩ := hst he
    obtain ⟨hr', hst'⟩ := State.record_of_units hunit
    exact ⟨hr'.trans hr, by rw [State.eligible, hst']; exact he'⟩

theorem State.StaysEligible.of_keptOrRetired (h : s.KeptOrRetired u t) : State.StaysEligible u s t := by
  rcases h with h | ⟨h, -⟩
  · exact .of_units h
  · exact .of_not_active (by rw [h]; decide)

/-! ### The operations over one unit -/

/-- Another slot's permit with the same unit, stage and side of commanded on. -/
theorem State.modifySlot_sound (hs : s.tablesSound) {i : SlotNo} {p : Permit} (hp : s.slots[i].permit = some p)
    {f : Slot → Slot} (hf : ∃ q, (f s.slots[i]).permit = some q ∧ q.unit = p.unit ∧ q.stage = p.stage
      ∧ q.rating = p.rating ∧ q.state.commandedOn = p.state.commandedOn) : (s.modifySlot i f).tablesSound := by
  obtain ⟨q, hq, hqu, hqk, hqr, hqs⟩ := hf
  have hroles : s.SameRoles (s.modifySlot i f) := fun j => by
    rw [State.slots_modifySlot]
    split
    · next hj => subst hj; rw [hq, hp, Option.map_some, Option.map_some, Permit.role, Permit.role, hqu, hqk, hqs]
    · rfl
  have hn : s.Narrows p.unit (s.modifySlot i f) := State.narrows_modifySlot hp rfl ⟨q, hq, hqu, hqk, hqr⟩
  exact (hn.reworked (State.tables_of_sound hs) (hroles.inOrder (State.tablesSound_inOrder hs p.unit))).sound hs rfl
    (.of_units rfl) (hroles.level p.unit)

theorem State.enterStop_sound (hs : s.tablesSound) (r : StopReason) (stages : Nat → Bool) :
    ((s.enterStop u r stages).settleLevel u (s.level u)).tablesSound := by
  have ho := State.tablesSound_inOrder hs u
  exact (State.enterStop_reworked (State.tables_of_sound hs) ho r stages).settled hs (s.enterStop_aside u r stages).queue
    (.of_keptOrRetired (s.enterStop_keptOrRetired u r stages)) (ho.enterStop r stages).2

theorem State.requestEvent_sound (hs : s.tablesSound) (u : UnitNo) (d r : Nat) (c : Condition) :
    (s.requestEvent u d r c).tablesSound := by
  rw [State.requestEvent_eq]
  exact ((State.requested_reworked (State.tables_of_sound hs) (State.tablesSound_inOrder hs u) d r c).soundBut
    (State.soundBut_of_sound hs u) (s.requested_aside u d r c).queue).desireStep

/-- Another state of a configured unit, which its entry does not know of yet. -/
theorem State.soundBut_modifyState (hs : s.tablesSound) {st : UnitState} (hc : (s.status u).state ≠ .unconfigured)
    (hst : st ≠ .unconfigured) : (s.modifyStatus u fun x => { x with state := st }).SoundBut u := by
  obtain ⟨hfree, hdist, hrat, ⟨hsite, hrec⟩, hb⟩ := State.tables_of_sound hs
  have hunits (v : UnitNo) (hv : v ≠ u) : (s.modifyStatus u fun x => { x with state := st }).units[v] = s.units[v] :=
    (s.modifyStatus_aside u _).units v hv
  have hrecord (v : UnitNo) : (s.modifyStatus u fun x => { x with state := st }).record v = s.record v :=
    s.record_modifyStatus u v _
  have hself : (s.modifyStatus u fun x => { x with state := st }).status u = { s.status u with state := st } :=
    s.status_modifyStatus_same u _
  have hslots : (s.modifyStatus u fun x => { x with state := st }).slots = s.slots := rfl
  have hqueue : (s.modifyStatus u fun x => { x with state := st }).queue = s.queue := rfl
  have hfl : (s.modifyStatus u fun x => { x with state := st }).freeList = s.freeList := rfl
  have hsite' : (s.modifyStatus u fun x => { x with state := st }).site = s.site := rfl
  generalize (s.modifyStatus u fun x => { x with state := st }) = t at *
  refine ⟨⟨?_, ?_, ?_, ⟨hsite' ▸ hsite, fun v => ?_⟩, fun v => ?_⟩, fun v => ?_, ?_, fun e he hv => ?_, fun e he hv => ?_⟩
  · exact State.freeListSound_of_isSome hfree hfl fun i => by rw [hslots]
  · rw [State.stagesDistinct, hslots]; exact hdist
  · intro i p hp
    rw [hslots] at hp
    rw [State.rating, hrecord]
    exact hrat i p hp
  · rw [hrecord]
    refine ⟨?_, (hrec v).2⟩
    by_cases hv : v = u
    · subst hv
      rw [hself]
      exact ⟨fun h => absurd h hst, fun h => absurd ((hrec v).1.mpr h) hc⟩
    · rw [(State.record_of_units (hunits v hv)).2]
      exact (hrec v).1
  · rw [State.stageCount_congr (hrecord v)]
    by_cases hv : v = u
    · subst hv
      rw [hself]
      exact hb v
    · rw [(State.record_of_units (hunits v hv)).2]
      exact hb v
  · exact (State.sameRoles_of_slots hslots).inOrder (State.tablesSound_inOrder hs v)
  · rw [hqueue]; exact State.lined_of_sound hs
  · rw [hqueue] at he
    exact (State.claims_of_sound hs _ (List.mem_map_of_mem he)).congr (hunits _ hv) (State.level_of_slots hslots _)
  · rw [hqueue] at he
    have := (State.claims_of_sound hs _ (List.mem_map_of_mem he)).2.1
    rw [State.cls, hrecord, ← hv]
    exact .inr this

theorem State.windDown_sound (hs : s.tablesSound) {st : UnitState} {r : StopReason}
    (hc : (s.status u).state = .active ∨ (s.status u).state = .locked) (hst : st ≠ .unconfigured) :
    (s.windDown u st r).tablesSound := by
  have hbut : (s.modifyStatus u fun x => { x with state := st }).SoundBut u :=
    State.soundBut_modifyState hs (by rcases hc with h | h <;> rw [h] <;> decide) hst
  rw [State.windDown_eq]
  unfold State.woundDown
  generalize (s.modifyStatus u fun x => { x with state := st }) = t at hbut
  have h1 : State.Reworked u t (t.replaceDraining u r) :=
    (t.narrows_replaceDraining u r).reworked hbut.tables ((t.replaceDraining_sameRoles u r).inOrder (hbut.order u))
  have hq1 := (t.replaceDraining_aside u r).queue
  generalize t.replaceDraining u r = t1 at h1 hq1
  have h2 := State.enterStop_reworked h1.tables h1.order r fun _ => true
  have hq2 := (t1.enterStop_aside u r fun _ => true).queue
  generalize (t1.enterStop u r fun _ => true) = t2 at h2 hq2
  have h3 : State.Reworked u t2 (t2.handOver u (s.level u)) :=
    (t2.narrows_handOver u _).reworked h2.tables (h2.order.handOver _).1
  exact (((h1.trans h2).trans h3).soundBut hbut ((t2.handOver_aside u _).queue.trans (hq2.trans hq1))).desireStep

theorem State.retireIfEmpty_sound (hs : s.tablesSound) (u : UnitNo) : (s.retireIfEmpty u).tablesSound := by
  by_cases hr : (s.status u).state = .retiring
  · have hroles : s.SameRoles (s.retireIfEmpty u) := State.sameRoles_of_slots (s.retireIfEmpty_slots u)
    exact ((s.narrows_retireIfEmpty u).reworked (State.tables_of_sound hs)
      (hroles.inOrder (State.tablesSound_inOrder hs u))).sound hs (s.retireIfEmpty_aside u).queue
      (.of_not_active (by rw [hr]; decide)) (hroles.level u)
  · rw [s.retireIfEmpty_of_not_retiring u hr]
    exact hs

theorem State.unlocked_sound (hs : s.tablesSound) (hl : (s.status u).state = .locked) :
    ((s.unlocked u).desireStep u).tablesSound :=
  (State.soundBut_modifyState hs (by rw [hl]; decide) (by decide)).desireStep

theorem State.forceRelease_sound (hs : s.tablesSound) (u : UnitNo) :
    ((s.forceRelease u).settleLevel u (s.level u)).tablesSound := by
  have ho := State.tablesSound_inOrder hs u
  refine ((s.narrows_forceRelease u).reworked (State.tables_of_sound hs) ho.forceRelease).settled hs
    (s.forceRelease_aside u).queue ?_ (by rw [s.forceRelease_level u]; exact Nat.zero_le _)
  by_cases hst : (s.status u).state = .active
  · have hunit := State.Lasting.forceRelease_unit (s := s) (u := u) (.inl (by rw [hst]; decide))
    split at hunit
    · exact .of_units hunit
    · refine .of_status ?_ ?_ ?_ ?_
      · rw [State.record, hunit]; rfl
      all_goals rw [State.status, hunit]; rfl
  · exact .of_not_active hst

/-! ### The expiries and the link's records -/

theorem State.of_expired {st : PermitState} {i : SlotNo} {p : Permit} (h : s.expired st i = some p) :
    s.slots[i].permit = some p ∧ p.state = st := by
  unfold State.expired at h
  split at h
  · next q hq =>
    split at h
    · next hc =>
      cases h
      exact ⟨hq, of_decide_eq_true (Bool.and_eq_true_iff.mp hc).1⟩
    · cases h
  · cases h

theorem State.settleExpiry_sound (hs : s.tablesSound) (i : SlotNo) : (s.settleExpiry i).tablesSound := by
  unfold State.settleExpiry
  split
  · next p he =>
    obtain ⟨hp, hst⟩ := State.of_expired he
    refine State.modifySlot_sound hs hp ?_
    rw [Slot.enterRunningSettled_of hp]
    exact ⟨_, rfl, rfl, rfl, rfl, by rw [hst]; rfl⟩
  · exact hs

theorem Slot.meetMinRun_permit {sl : Slot} {p : Permit} (hp : sl.permit = some p) :
    sl.disarmA.meetMinRun.permit = some { p with minRunMet := true } := by
  rw [Slot.meetMinRun, Slot.disarmA]
  dsimp only
  rw [hp, Option.map_some]

theorem State.minRunExpiry_sound (hs : s.tablesSound) (i : SlotNo) : (s.minRunExpiry i).tablesSound := by
  unfold State.minRunExpiry
  split
  · next p he =>
    obtain ⟨hp, -⟩ := State.of_expired he
    exact State.modifySlot_sound hs hp ⟨_, Slot.meetMinRun_permit hp, rfl, rfl, rfl, rfl⟩
  · exact hs

theorem State.rotationExpiry_sound (hs : s.tablesSound) (i : SlotNo) : (s.rotationExpiry i).tablesSound := by
  unfold State.rotationExpiry
  split
  · next p hp =>
    split
    · exact State.modifySlot_sound hs hp ⟨_, congrArg (Option.map _) hp, rfl, rfl, rfl, rfl⟩
    · exact hs
  · exact hs

theorem State.drainingExpiry_sound (hs : s.tablesSound) (i : SlotNo) : (s.drainingExpiry i).tablesSound := by
  unfold State.drainingExpiry
  split
  · next p he =>
    obtain ⟨hp, -⟩ := State.of_expired he
    have hmet : (s.modifySlot i fun sl => sl.disarmA.meetMinRun).tablesSound :=
      State.modifySlot_sound hs hp ⟨_, Slot.meetMinRun_permit hp, rfl, rfl, rfl, rfl⟩
    have hroles : s.SameRoles (s.modifySlot i fun sl => sl.disarmA.meetMinRun) := fun j => by
      rw [State.slots_modifySlot]
      split
      · next hj => subst hj; rw [Slot.meetMinRun_permit hp, hp]; rfl
      · rfl
    rw [← hroles.level p.unit]
    generalize (s.modifySlot i fun sl => sl.disarmA.meetMinRun) = t at hmet
    have ho := State.tablesSound_inOrder hmet p.unit
    obtain ⟨ho', hle, -⟩ := ho.descend 4
    exact ((t.narrows_topOrder p.unit).reworked (State.tables_of_sound hmet) ho').settled hmet
      (t.topOrder_aside p.unit).queue (.of_keptOrRetired (State.descend_keptOrRetired p.unit 4 t)) hle
  · exact hs

/-- A change of the unit's miss count, or of its link and adoption window in favour of its entry. -/
theorem State.modifyStatus_sound (hs : s.tablesSound) {f : UnitStatus → UnitStatus}
    (hstate : (f (s.status u)).state = (s.status u).state) (hcond : (f (s.status u)).condition = (s.status u).condition)
    (hlink : (s.status u).link = .heard → (f (s.status u)).link = .heard)
    (hd : (f (s.status u)).desired = (s.status u).desired) (hr : (f (s.status u)).running = (s.status u).running) :
    (s.modifyStatus u f).tablesSound := by
  have hto := State.tables_of_sound hs
  refine (State.modifyStatus_reworked hto (State.tablesSound_inOrder hs u) hstate
    (by rw [hd, hr]; exact hto.bounded u)).sound hs rfl (fun he => ⟨s.record_modifyStatus u u f, ?_⟩) rfl
  rw [State.eligible_iff] at he ⊢
  rw [s.status_modifyStatus_same u f, hstate, hcond]
  exact ⟨he.1, he.2.1.imp id hlink, he.2.2⟩

theorem State.complianceExpiry_sound (hs : s.tablesSound) (i : SlotNo) : (s.complianceExpiry i).tablesSound := by
  unfold State.complianceExpiry
  split
  · next p he =>
    obtain ⟨hp, -⟩ := State.of_expired he
    have hdis : (s.modifySlot i Slot.disarmA).tablesSound := State.modifySlot_sound hs hp ⟨p, hp, rfl, rfl, rfl, rfl⟩
    generalize s.modifySlot i Slot.disarmA = t at hdis
    exact State.tablesSound_congr (State.modifyStatus_sound hdis rfl rfl id rfl rfl) (State.raise_sameTables _ _)
      (List.Sublist.refl _)
  · exact hs

/-- A slot whose permit is off is freed (R35). -/
theorem State.InOrder.freeSlot (h : s.InOrder u) {i : SlotNo} {p : Permit} (hp : s.slots[i].permit = some p)
    (hoff : p.state.commandedOn = false) : (s.freeSlot u i).InOrder u ∧ (s.freeSlot u i).level u = s.level u := by
  have hslots (j : SlotNo) : (s.freeSlot u i).slots[j] = if j = i then .free else s.slots[j] := by
    rw [State.freeSlot_eq]
    exact (congrArg (·[j]) (State.retireIfEmpty_slots _ u)).trans (getElem_set_eq s.slots i j .free)
  generalize s.freeSlot u i = t at hslots
  have hcut : t.InOrder u ∧ t.level u = min (s.level u) (s.level u) := by
    refine h.cut (fun j q hq hqu => ?_) fun j q hq hqu hqon _ => ?_
    · rw [hslots] at hq
      split at hq
      · cases hq
      · exact ⟨q, hq, hqu, rfl, fun hon => ⟨hon, (h.on_iff hq hqu).mp hon⟩⟩
    · refine ⟨q, ?_, hqu, rfl, hqon⟩
      rw [hslots, if_neg]
      · exact hq
      · rintro rfl
        cases hp.symm.trans hq
        rw [hoff] at hqon
        cases hqon
  exact ⟨hcut.1, hcut.2.trans (Nat.min_self _)⟩

theorem State.minOffExpiry_sound (hs : s.tablesSound) (i : SlotNo) : (s.minOffExpiry i).tablesSound := by
  unfold State.minOffExpiry
  split
  · next p he =>
    obtain ⟨hp, hst⟩ := State.of_expired he
    obtain ⟨ho, hl⟩ := (State.tablesSound_inOrder hs p.unit).freeSlot hp (by rw [hst]; rfl)
    refine ((State.narrows_freeSlot ⟨p, hp, rfl⟩).reworked (State.tables_of_sound hs) ho).sound hs
      (s.freeSlot_aside p.unit i).queue ?_ hl
    rcases s.freeSlot_units p.unit i p.unit with h | ⟨-, h, -⟩
    · exact .of_units h
    · exact .of_not_active (by rw [h]; decide)
  · exact hs

theorem State.missOf_sound (hs : s.tablesSound) (u : UnitNo) : (s.missOf u).tablesSound := by
  unfold State.missOf
  split
  · unfold State.miss
    dsimp only
    have ht : (s.modifyStatus u fun st => { st with misses := min Config.nibbleMax ((s.status u).misses + 1) }).tablesSound :=
      State.modifyStatus_sound hs rfl rfl id rfl rfl
    generalize (s.modifyStatus u fun st => { st with misses := min Config.nibbleMax ((s.status u).misses + 1) }) = t at ht
    split
    · have hto := State.tables_of_sound ht
      have hw := State.modifyStatus_reworked hto (State.tablesSound_inOrder ht u) (u := u)
        (f := fun st => { st with link := .silent }) rfl (hto.bounded u)
      exact ((hw.trans ((State.raise_sameTables _ _).reworked hw.tables hw.order)).soundBut
        (State.soundBut_of_sound ht u) rfl).desireStep
    · exact ht
  · exact hs

theorem State.hear_sound (hs : s.tablesSound) (u : UnitNo) : (s.hear u).tablesSound := by
  unfold State.hear
  dsimp only
  have ht : (s.modifyStatus u fun st => { st with misses := 0 }).tablesSound :=
    State.modifyStatus_sound hs rfl rfl id rfl rfl
  generalize (s.modifyStatus u fun st => { st with misses := 0 }) = t at ht
  split
  · exact State.tablesSound_congr (State.modifyStatus_sound ht rfl rfl (fun _ => rfl) rfl rfl)
      (State.raise_sameTables _ _) (List.Sublist.refl _)
  · exact ht

/-! ### The slot counters, the site record and the resets -/

theorem Slot.tick_permit (sl : Slot) : sl.tick.permit = sl.permit := by
  unfold Slot.tick
  split <;> rfl

theorem State.slots_takeCounters (s : State) (i : SlotNo) : (s.takePart .slotCounters).slots[i] = s.slots[i].tick := by
  show (Vector.ofFn fun i => s.slots[i].tick)[i] = _
  rw [Fin.getElem_fin, Vector.getElem_ofFn]

theorem State.takeCounters_sound (hs : s.tablesSound) : (s.takePart .slotCounters).tablesSound := by
  have hpermit (i : SlotNo) : (s.takePart .slotCounters).slots[i].permit = s.slots[i].permit := by
    rw [State.slots_takeCounters, Slot.tick_permit]
  have hqueue : ((s.takePart .slotCounters).queue.map QueueEntry.claim) = s.queue.map QueueEntry.claim := by
    show (s.queue.map QueueEntry.restTick).map QueueEntry.claim = _
    rw [List.map_map]
    refine List.map_congr_left fun e _ => ?_
    unfold Function.comp QueueEntry.restTick
    split <;> rfl
  have hfl : (s.takePart .slotCounters).freeList = s.freeList := by unfold State.takePart; rfl
  have hunits : (s.takePart .slotCounters).units = s.units := by unfold State.takePart; rfl
  have hsite : (s.takePart .slotCounters).site = s.site := by unfold State.takePart; rfl
  generalize s.takePart .slotCounters = t at *
  have hn (u : UnitNo) : s.Narrows u t := State.Narrows.of_slots (c := fun _ => False) (fun _ h => h.elim)
    (fun i _ => hpermit i) (fun _ _ h => h.elim) hfl hsite (fun v _ => by rw [hunits])
    (State.core_of_units (by rw [hunits]))
  have hroles : s.SameRoles t := fun i => by rw [hpermit]
  refine State.tablesSound_of ((hn 0).tables (State.tables_of_sound hs)) (fun v => hroles.inOrder (State.tablesSound_inOrder hs v))
    (hqueue ▸ State.lined_of_sound hs) fun c hc => ?_
  exact (State.claims_of_sound hs c (hqueue ▸ hc)).congr (by rw [hunits]) (hroles.level _)

theorem State.closeSubinterval_sound (hs : s.tablesSound) : s.closeSubinterval.tablesSound :=
  State.tablesSound_congr (State.tablesSound_congr (s := s) (t := s.modifyMeter (Meter.close s.site)) hs ⟨rfl, rfl, rfl, rfl⟩
    (List.Sublist.refl _)) (State.raiseIf_sameTables _ _ _)
    (by rw [State.closeSubinterval, (State.raiseIf_aside _ 0 _ _).queue])

theorem State.nextTransaction_sound (hs : s.tablesSound) : s.nextTransaction.tablesSound := by
  rw [State.nextTransaction_link]
  exact State.tablesSound_congr (s := s) hs ⟨rfl, rfl, rfl, rfl⟩ (List.Sublist.refl _)

theorem State.withSite_sound (hs : s.tablesSound) {r : SiteRecord} {m : Meter} (hr : s.site.valid = true → r.valid = true) :
    (s.withSite r m).tablesSound := by
  obtain ⟨h1, h2, h3, h4, h5, ⟨h6, h7⟩, h8, h9, h10⟩ := hs
  exact ⟨h1, h2, h3, h4, h5, ⟨hr h6, h7⟩, h8, h9, h10⟩

theorem State.reinitialise_sound {site : SiteRecord} {units : Vector UnitEntry 36} (n : BitVec 16) (hsite : site.valid = true)
    (hunits : ∀ u : UnitNo, units[u].loaded u) : (s.reinitialise site units n).tablesSound := by
  have hfree (i : SlotNo) : (s.reinitialise site units n).slots[i].permit = none := by
    show ((Vector.replicate 96 Slot.free)[i]).permit = none
    rw [Fin.getElem_fin, Vector.getElem_replicate]
    rfl
  have hunit (u : UnitNo) : (s.reinitialise site units n).units[u].loaded u := hunits u
  have hfl : (s.reinitialise site units n).freeList = allSlots := rfl
  have hq : (s.reinitialise site units n).queue = [] := rfl
  have hs : (s.reinitialise site units n).site.valid = true := hsite
  generalize s.reinitialise site units n = t at *
  have hnone {i : SlotNo} {p : Permit} (hp : t.slots[i].permit = some p) : False := by
    rw [hfree] at hp; cases hp
  refine State.tablesSound_of ⟨⟨hfl ▸ List.nodup_finRange 96, fun i => ?_⟩, fun i j p hp => (hnone hp).elim,
    fun i p hp => (hnone hp).elim, ⟨hs, fun u => ?_⟩, fun u => ?_⟩
    (fun v => ⟨fun hp => (hnone hp).elim, fun hp => (hnone hp).elim⟩) ?_ fun c hc => ?_
  · exact iff_of_true (hfl ▸ List.mem_finRange i) (hfree i)
  · rw [State.status, State.record]
    rcases hunit u with h | ⟨r, hr, h⟩ <;> rw [h]
    · exact ⟨iff_of_true rfl rfl, fun r hr => absurd hr (by simp [UnitEntry.blank])⟩
    · exact ⟨iff_of_false (fun h => UnitState.noConfusion h) (Option.some_ne_none r), fun x hx => by cases hx; exact hr⟩
  · rw [State.status, State.stageCount, State.record]
    rcases hunit u with h | ⟨r, -, h⟩ <;> rw [h] <;> exact ⟨Nat.zero_le _, Nat.zero_le _⟩
  · rw [hq]
    exact ⟨Nat.zero_le _, List.Pairwise.nil, List.Pairwise.nil⟩
  · rw [hq] at hc; cases hc

/-! ### A unit's record is installed or changed (R3 to R5, R118, R119) -/

/-- A new entry for one unit, of which every permit has its rating. -/
theorem State.Tables.withEntry (hs : s.Tables) {e : UnitEntry} {r : UnitRecord} (hslots : t.slots = s.slots)
    (hfl : t.freeList = s.freeList) (hsite : t.site = s.site) (hunits : t.units = s.units.set u e) (hr : e.record = some r)
    (hv : r.valid u = true) (hst : e.status.state ≠ .unconfigured)
    (hb : e.status.desired ≤ r.stageCount ∧ e.status.running ≤ r.stageCount)
    (hrat : ∀ (i : SlotNo) (p : Permit), s.slots[i].permit = some p → p.unit = u → r.ratings[p.stage]? = some p.rating) :
    t.Tables := by
  have hunit (v : UnitNo) : t.units[v] = if v = u then e else s.units[v] := hunits ▸ getElem_set_eq s.units u v e
  have hother {v : UnitNo} (hvu : v ≠ u) := State.record_of_units ((hunit v).trans (if_neg hvu))
  have hself : t.record u = some r ∧ t.status u = e.status := by
    rw [State.record, State.status, hunit, if_pos rfl]
    exact ⟨hr, rfl⟩
  refine ⟨State.freeListSound_of_isSome hs.free hfl fun i => by rw [hslots], ?_, fun i p hp => ?_,
    ⟨hsite ▸ hs.records.1, fun v => ?_⟩, fun v => ?_⟩
  · rw [State.stagesDistinct, hslots]; exact hs.distinct
  · rw [hslots] at hp
    by_cases hpu : p.unit = u
    · rw [hpu, State.rating, hself.1]
      exact hrat i p hp hpu
    · rw [State.rating, (hother hpu).1]
      exact hs.ratings i p hp
  · by_cases hvu : v = u
    · subst hvu
      rw [hself.1, hself.2]
      exact ⟨iff_of_false hst (Option.some_ne_none r), fun x hx => by cases hx; exact hv⟩
    · rw [(hother hvu).1, (hother hvu).2]
      exact hs.records.2 v
  · by_cases hvu : v = u
    · subst hvu
      rw [State.stageCount, hself.1, hself.2]
      exact hb
    · rw [State.stageCount, (hother hvu).1, (hother hvu).2]
      exact hs.bounded v

theorem State.onChannelOf_tables (s : State) (u : UnitNo) (f : Channel → Channel) :
    s.SameTables (s.onChannelOf u f) ∧ (s.onChannelOf u f).queue = s.queue := by
  unfold State.onChannelOf
  split <;> exact ⟨⟨rfl, rfl, rfl, rfl⟩, rfl⟩

/-- A unit without a record holds no permit. -/
theorem State.Tables.noPermit_of_noRecord (hs : s.Tables) (h : s.record u = none) {i : SlotNo} {p : Permit}
    (hp : s.slots[i].permit = some p) : p.unit ≠ u := fun hu => by
  have := hs.ratings i p hp
  rw [hu, State.rating, h] at this
  cases this

/-- A state with another entry for one unit. -/
def State.withEntry (u : UnitNo) (e : UnitEntry) (s : State) : State := { s with units := s.units.set u e }

theorem State.install_sound (hs : s.tablesSound) {r : UnitRecord} (hnone : s.record u = none) (hv : r.valid u = true) :
    (s.install u r).tablesSound := by
  have hto := State.tables_of_sound hs
  have hnoEntry : ∀ e ∈ s.queue, e.unit ≠ u := fun e he hu => by
    have hc := State.eligible_active (State.claims_of_sound hs _ (List.mem_map_of_mem he)).1
    rw [show e.claim.1 = u from hu, (hto.records.2 u).1.mpr hnone] at hc
    cases hc
  have hslots : (s.withEntry u { record := some r, status := .fresh }).slots = s.slots := rfl
  have hmid : (s.withEntry u { record := some r, status := .fresh }).tablesSound := by
    refine State.tablesSound_of ?_ (fun v => ?_) (State.lined_of_sound (s := s) hs) fun c hc => ?_
    · exact hto.withEntry (e := { record := some r, status := .fresh }) rfl rfl rfl rfl rfl hv
        (fun h => UnitState.noConfusion h)
        ⟨Nat.zero_le _, Nat.zero_le _⟩ fun i p hp hu => absurd hu (hto.noPermit_of_noRecord hnone hp)
    · exact (State.sameRoles_of_slots hslots).inOrder (State.tablesSound_inOrder hs v)
    · obtain ⟨e, he, rfl⟩ := List.mem_map.mp hc
      refine (State.claims_of_sound hs _ hc).congr ?_ (State.level_of_slots hslots _)
      exact (getElem_set_eq s.units u e.unit _).trans (if_neg (hnoEntry e he))
  obtain ⟨hsame, hqueue⟩ := State.onChannelOf_tables (s.withEntry u { record := some r, status := .fresh }) u
    Channel.clearCycle
  exact State.tablesSound_congr (t := s.install u r) hmid hsame
    ((congrArg (List.map QueueEntry.claim) hqueue) ▸ List.Sublist.refl _)

/-- The unit's own entry, of its new class, may want more than the unit has stages. -/
structure State.OwnClaim (u : UnitNo) (s : State) : Prop where
  but : s.SoundBut u
  cls : ∀ e ∈ s.queue, e.unit = u → e.cls = s.cls u
  eligible : ∀ e ∈ s.queue, e.unit = u → s.eligible u = true ∧ s.level u < e.wanted ∧ s.level u < s.stageCount u

theorem State.OwnClaim.rewant (h : s.OwnClaim u) {n : Nat} (hn : s.level u < n ∧ n ≤ s.stageCount u) : (s.rewant u n).tablesSound := by
  rw [State.rewant_eq]
  have hmap {β : Type} (g : QueueEntry → β) (hg : ∀ (f : QueueEntry) (m : Nat), g { f with wanted := m } = g f) :
      (s.queue.map fun e => if e.unit = u then { e with wanted := n } else e).map g = s.queue.map g := by
    rw [List.map_map]
    refine List.map_congr_left fun f _ => ?_
    unfold Function.comp
    dsimp only
    split
    · exact hg f n
    · rfl
  refine State.admissionPass_sound (h.but.withQueue ⟨?_, ?_, ?_⟩ fun f hf => ?_)
  · rw [List.length_map, List.length_map]
    exact (List.length_map _).symm.trans_le h.but.lined.length
  · have := h.but.lined.nodup
    rw [List.map_map] at this
    rw [List.map_map, hmap _ fun _ _ => rfl]
    exact this
  · have := h.but.lined.sorted
    rw [List.map_map] at this
    rw [List.map_map, hmap _ fun _ _ => rfl]
    exact this
  · obtain ⟨g, hg, rfl⟩ := List.mem_map.mp hf
    split
    · next hgu =>
      refine ⟨?_, ?_, ?_, ?_⟩
      · show s.eligible g.unit = true
        rw [hgu]; exact (h.eligible g hg hgu).1
      · show g.cls = s.cls g.unit
        rw [hgu]; exact h.cls g hg hgu
      · show s.level g.unit < n
        rw [hgu]; exact hn.1
      · show n ≤ s.stageCount g.unit
        rw [hgu]; exact hn.2
    · next hgu => exact h.but.others g hg hgu

theorem State.OwnClaim.clampWanted (h : s.OwnClaim u) {r : UnitRecord} (hr : s.record u = some r) :
    (s.clampWanted u r).tablesSound := by
  have hcount : s.stageCount u = r.stageCount := by rw [State.stageCount, hr]; rfl
  unfold State.clampWanted
  split
  · next e he =>
    obtain ⟨hmem, hu⟩ := State.entryOf_some he
    split
    · exact h.rewant ⟨hcount ▸ (h.eligible e hmem hu).2.2, hcount.ge⟩
    · next hw =>
      refine h.but.sound fun f hf hfu => ?_
      have hfe : f = e := List.inj_on_of_nodup_map (f := QueueEntry.unit)
        (by have := h.but.lined.nodup; rwa [List.map_map] at this) hf hmem (hfu.trans hu.symm)
      subst hfe
      refine ⟨?_, ?_, ?_, ?_⟩
      · show s.eligible f.unit = true
        rw [hfu]; exact (h.eligible f hf hfu).1
      · show f.cls = s.cls f.unit
        rw [hfu]; exact h.cls f hf hfu
      · show s.level f.unit < f.wanted
        rw [hfu]; exact (h.eligible f hf hfu).2.1
      · show f.wanted ≤ s.stageCount f.unit
        rw [hfu]; omega
  · next he =>
    exact h.but.sound fun e hmem hu => absurd hu (fun hu => List.find?_eq_none.mp he e hmem (decide_eq_true hu))

/-- The moved entry stands by its new class (R118). -/
theorem State.moveByClass_own {n : Nat} (hto : s.Tables) (ho : ∀ v, s.InOrder v) (hl : Lined (s.queue.map QueueEntry.claim))
    (hothers : ∀ e ∈ s.queue, e.unit ≠ u → s.Claims e.claim) (hn : s.cls u = n)
    (hown : ∀ e ∈ s.queue, e.unit = u → s.eligible u = true ∧ s.level u < e.wanted ∧ s.level u < s.stageCount u) :
    (s.moveByClass u n).OwnClaim u := by
  unfold State.moveByClass
  split
  · next e he =>
    obtain ⟨hmem, hu⟩ := State.entryOf_some he
    show (s.withQueue (insertByClass { e with cls := n } (s.queue.filter fun f => decide (f.unit ≠ u)))).OwnClaim u
    have hsub : (s.queue.filter fun f => decide (f.unit ≠ u)).Sublist s.queue := List.filter_sublist
    have hlt : (s.queue.filter fun f => decide (f.unit ≠ u)).length < s.queue.length := by
      refine List.length_filter_lt_length_iff_exists.mpr ⟨e, hmem, ?_⟩
      simp [hu]
    have hcap : s.queue.length ≤ Config.queueCapacity := (List.length_map _).symm.trans_le hl.length
    have hno : ∀ f ∈ s.queue.filter fun f => decide (f.unit ≠ u), f.unit ≠ e.unit := fun f hf =>
      hu ▸ of_decide_eq_true (List.mem_filter.mp hf).2
    have hin {f : QueueEntry} (hf : f ∈ insertByClass { e with cls := n } (s.queue.filter fun f => decide (f.unit ≠ u))) :
        f = { e with cls := n } ∨ f ∈ s.queue ∧ f.unit ≠ u := by
      rcases List.mem_cons.mp ((insertByClass_perm _ _).mem_iff.mp hf) with hf | hf
      · exact .inl hf
      · exact .inr ⟨hsub.subset hf, of_decide_eq_true (List.mem_filter.mp hf).2⟩
    have hlined := lined_insertByClass (e := { e with cls := n }) (hl.sublist (hsub.map QueueEntry.claim)) (by omega) hno
    generalize insertByClass { e with cls := n } (s.queue.filter fun f => decide (f.unit ≠ u)) = q at hin hlined
    have hsame : s.SameTables (s.withQueue q) := ⟨rfl, rfl, rfl, rfl⟩
    have hcls {f : QueueEntry} (hf : f ∈ q) (hfu : f.unit = u) : f.cls = (s.withQueue q).cls u := by
      rcases hin hf with rfl | ⟨-, h⟩
      · exact hn.symm
      · exact absurd hfu h
    refine ⟨⟨hsame.tables hto, fun v => hsame.inOrder (ho v), hlined, fun f hf hfu => ?_, fun f hf hfu => .inr (hcls hf hfu)⟩,
      fun f => hcls, fun f hf hfu => ?_⟩
    · rcases hin hf with rfl | ⟨h, -⟩
      · exact absurd hu hfu
      · exact (hothers f h hfu).congr rfl (State.level_of_slots rfl _)
    · rcases hin hf with rfl | ⟨-, h⟩
      · exact hown e hmem hu
      · exact absurd hfu h
  · next he =>
    have hno : ∀ e ∈ s.queue, e.unit ≠ u := fun e hmem hu => List.find?_eq_none.mp he e hmem (decide_eq_true hu)
    exact ⟨⟨hto, ho, hl, hothers, fun e hmem hu => absurd hu (hno e hmem)⟩, fun e hmem hu => absurd hu (hno e hmem),
      fun e hmem hu => absurd hu (hno e hmem)⟩

theorem State.changeClass_own {a b : Nat} (hto : s.Tables) (ho : ∀ v, s.InOrder v)
    (hl : Lined (s.queue.map QueueEntry.claim)) (hothers : ∀ e ∈ s.queue, e.unit ≠ u → s.Claims e.claim) (hb : s.cls u = b)
    (ha : ∀ e ∈ s.queue, e.unit = u → e.cls = a)
    (hown : ∀ e ∈ s.queue, e.unit = u → s.eligible u = true ∧ s.level u < e.wanted ∧ s.level u < s.stageCount u) :
    (s.changeClass u a b).OwnClaim u ∧ (s.changeClass u a b).record u = s.record u := by
  unfold State.changeClass
  dsimp only
  split
  · next hab =>
    have hcls (e : QueueEntry) (he : e ∈ s.queue) (hu : e.unit = u) : e.cls = s.cls u := by rw [ha e he hu, hb, hab]
    exact ⟨⟨⟨hto, ho, hl, hothers, fun e he hu => .inr (hcls e he hu)⟩, hcls, hown⟩, rfl⟩
  · split
    · have hw : State.Reworked u s (s.spareClassZero u) :=
        (s.narrows_spareClassZero u).reworked hto ((s.spareClassZero_sameRoles u).inOrder (ho u))
      have hunits : (s.spareClassZero u).units = s.units := by
        rw [State.spareClassZero_eq]
        exact State.withSlots_units _ _
      have hq := (s.spareClassZero_aside u).queue
      have hlevel (v : UnitNo) := (s.spareClassZero_sameRoles u).level v
      have hroles := s.spareClassZero_sameRoles u
      generalize s.spareClassZero u = t at hw hunits hq hlevel hroles
      have hstatus : t.status u = s.status u := by rw [State.status, hunits]; rfl
      have hrecord : t.record u = s.record u := by rw [State.record, hunits]; rfl
      refine ⟨State.moveByClass_own hw.tables (fun v => hroles.inOrder (ho v)) (hq ▸ hl) (fun e he hu => ?_)
        (by rw [State.cls, hrecord]; exact hb) fun e he hu => ?_, ?_⟩
      · exact (hothers e (hq ▸ he) hu).congr (by rw [hunits]) (hlevel _)
      · rw [State.eligible, hstatus, hlevel, State.stageCount_congr hrecord]
        exact hown e (hq ▸ he) hu
      · rw [State.record, t.moveByClass_units u b]
        exact hrecord
    · refine ⟨State.moveByClass_own hto ho hl hothers hb hown, ?_⟩
      rw [State.record, s.moveByClass_units u b]
      rfl

theorem State.unit_replaceRecord (s : State) (u : UnitNo) (r : UnitRecord) (v : UnitNo) :
    (s.replaceRecord u r).units[v] = if v = u then s.units[u].replaced r else s.units[v] := getElem_set_eq s.units u v _

theorem UnitRecord.stageCount_pos {r : UnitRecord} (h : r.valid u = true) : 0 < r.stageCount := by
  simp only [UnitRecord.valid, inRange, Bool.and_eq_true, decide_eq_true_eq] at h
  exact h.1.1.1.1.1.1.1

theorem State.changeRecord_sound (hs : s.tablesSound) {old r : UnitRecord} (hold : s.record u = some old)
    (hv : r.valid u = true) (hrat : r.ratings = old.ratings ∨ s.hasPermit u = false) :
    (s.changeRecord u old r).tablesSound := by
  have hto := State.tables_of_sound hs
  have hunit := State.unit_replaceRecord s u r
  have ht : (s.replaceRecord u r).Tables := hto.withEntry (u := u) (e := s.units[u].replaced r) rfl rfl rfl rfl rfl hv
    (fun h => absurd ((hto.records.2 u).1.mp h) (by rw [hold]; exact Option.some_ne_none old))
    ⟨Nat.min_le_right _ _, Nat.min_le_right _ _⟩ fun i p hp hu => by
      rcases hrat with h | h
      · have := hto.ratings i p hp
        rw [hu, State.rating, hold] at this
        rw [h]; exact this
      · exact absurd hu ((s.hasPermit_eq_false_iff u).mp h i p hp)
  have hslots : (s.replaceRecord u r).slots = s.slots := rfl
  have hq : (s.replaceRecord u r).queue = s.queue := rfl
  have hself : (s.replaceRecord u r).record u = some r := by rw [State.record, hunit, if_pos rfl]; rfl
  have hlevel : (s.replaceRecord u r).level u = s.level u := State.level_of_slots hslots u
  have hcls {e : QueueEntry} (he : e ∈ s.queue) (hu : e.unit = u) : e.cls = old.cls := by
    have := (State.claims_of_sound hs _ (List.mem_map_of_mem he)).2.1
    rw [show e.claim.1 = u from hu, State.cls, hold] at this
    exact this
  have hown {e : QueueEntry} (he : e ∈ s.queue) (hu : e.unit = u) : (s.replaceRecord u r).eligible u = true
      ∧ s.level u < e.wanted ∧ s.level u < r.stageCount := by
    obtain ⟨h1, -, h3, h4⟩ := State.claims_of_sound hs _ (List.mem_map_of_mem he)
    have hcount : s.stageCount u = old.stageCount := by rw [State.stageCount, hold]; rfl
    rw [show e.claim.1 = u from hu] at h1 h3 h4
    refine ⟨?_, h3, ?_⟩
    · rw [State.eligible, State.status, hunit, if_pos rfl]
      exact h1
    · rcases hrat with h | h
      · rw [UnitRecord.stageCount, h]
        rw [hcount] at h4
        exact Nat.lt_of_lt_of_le h3 h4
      · rw [State.level_of_noPermit s u h]
        exact UnitRecord.stageCount_pos hv
  unfold State.changeRecord
  have hself' : (s.replaceRecord u r).cls u = r.cls := by rw [State.cls, hself]; rfl
  have hcount' : (s.replaceRecord u r).stageCount u = r.stageCount := by rw [State.stageCount, hself]; rfl
  generalize s.replaceRecord u r = t at *
  obtain ⟨hc, hrec⟩ := State.changeClass_own (u := u) (a := old.cls) (b := r.cls) ht
    (fun v => (State.sameRoles_of_slots hslots).inOrder (State.tablesSound_inOrder hs v)) (hq ▸ State.lined_of_sound hs)
    (fun e he hu => (State.claims_of_sound hs _ (List.mem_map_of_mem (hq ▸ he))).congr ((hunit e.unit).trans (if_neg hu))
      (State.level_of_slots hslots _))
    hself' (fun e he hu => hcls (hq ▸ he) hu) fun e he hu => by
      rw [hlevel, hcount']
      exact hown (hq ▸ he) hu
  exact hc.clampWanted (hrec.trans hself)

/-! ### Every step (O57) -/

theorem State.kept_tablesSound : Kept State.tablesSound where
  framed hf h := State.tablesSound_congr h ⟨hf.slots, hf.freeList, hf.units, hf.site⟩ (by rw [hf.queue])
  pass := State.admissionPass_sound
  desire u h := (State.soundBut_of_sound h u).desireStep
  request u d r c h := State.requestEvent_sound h u d r c
  windDown hc _ hst _ h := State.windDown_sound h hc hst
  retire u h := State.retireIfEmpty_sound h u
  unlock hl h := State.unlocked_sound h hl
  release _ h := State.forceRelease_sound h _
  install hnone hv h := State.install_sound h hnone hv
  change hold _ hv hrat h := State.changeRecord_sound h hold hv hrat
  site hr _ h := State.withSite_sound h hr
  stop stages _ h := State.enterStop_sound h _ stages
  settle i h := State.settleExpiry_sound h i
  minRun i h := State.minRunExpiry_sound h i
  draining i h := State.drainingExpiry_sound h i
  rotation i h := State.rotationExpiry_sound h i
  compliance i h := State.complianceExpiry_sound h i
  minOff i h := State.minOffExpiry_sound h i
  slotTick := State.takeCounters_sound
  holdTick h := State.tablesSound_congr h ⟨rfl, rfl, rfl, rfl⟩ (List.Sublist.refl _)
  gateTick h := State.tablesSound_congr h ⟨rfl, rfl, rfl, rfl⟩ (List.Sublist.refl _)
  holdEnd h := State.tablesSound_congr h ⟨rfl, rfl, rfl, rfl⟩ (List.Sublist.refl _)
  close := State.closeSubinterval_sound
  missOf u h := State.missOf_sound h u
  hear u h := State.hear_sound h u
  transaction := State.nextTransaction_sound
  reinit n _ hu h :=
    have ⟨hsite, hunits⟩ := hu (State.tables_of_sound h).records
    State.reinitialise_sound n hsite hunits

/-- Settles O57: every effect of a step keeps the tables sound. -/
theorem tablesStaySound : Obligations.TablesStaySound := fun _ _ h ht => State.kept_tablesSound.step h ht

end

end Sys2Proof.Machine


/-! What every effect of a step leaves of each slot: its counter and timers (R53, R56, R64), and the rules of minimum runs and
stop reasons (R28, R36, R128). -/

namespace Sys2Proof.Machine

/-! ### One slot -/

/-- The fields of a permit agree with its state, and a minimum run is broken by FORCED and TRIPPED alone (R28, R36). -/
def Permit.rulesKept (p : Permit) : Prop :=
  (p.state = .stopping ∨ p.state = .resting → p.minRunMet = true ∨ p.reason = some .forced ∨ p.reason = some .tripped)
    ∧ (p.reason.isSome = true ↔ p.state = .draining ∨ p.state = .stopping ∨ p.state = .resting)
    ∧ (p.rotationDue = true → p.state = .running)

/-- A FREE slot's counter and timers are at rest, and no counter passes 65535 (R53, R56, R64). -/
def Slot.timersSound (sl : Slot) : Prop := sl.counter ≤ Config.counterMax
  ∧ (sl.permit = none → sl.counter = 0 ∧ sl.aArmed = false ∧ sl.aValue = 0 ∧ sl.pArmed = false)

/-- A change of a slot that keeps its conditions; a stop reason that spares class 0 is new in a unit of which C holds alone
(R128). -/
structure Slot.Keeps (C : UnitNo → Prop) (a b : Slot) : Prop where
  timers : a.timersSound → b.timersSound
  rules : (∀ p, a.permit = some p → p.rulesKept) → ∀ q, b.permit = some q → q.rulesKept
  spared : ∀ q, b.permit = some q → q.reason.any StopReason.spared = true →
    C q.unit ∨ ∃ p, a.permit = some p ∧ p.reason.any StopReason.spared = true ∧ p.unit = q.unit

section

variable {C : UnitNo → Prop} {a b : Slot} {p q : Permit}

theorem Slot.Keeps.refl (a : Slot) : a.Keeps C a := ⟨id, id, fun q hq hs => .inr ⟨q, hq, hs, rfl⟩⟩

theorem Slot.Keeps.trans {c : Slot} (h : a.Keeps C b) (k : b.Keeps C c) : a.Keeps C c where
  timers := k.timers ∘ h.timers
  rules := k.rules ∘ h.rules
  spared r hr hs := by
    rcases k.spared r hr hs with hc | ⟨q, hq, hqs, hqr⟩
    · exact .inl hc
    · rcases h.spared q hq hqs with hc | ⟨p, hp, hps, hpq⟩
      · exact .inl (hqr ▸ hc)
      · exact .inr ⟨p, hp, hps, hpq.trans hqr⟩

/-- A permit that goes on in its slot. -/
theorem Slot.Keeps.of_permit (hp : a.permit = some p) (hq : b.permit = some q)
    (hcount : a.counter ≤ Config.counterMax → b.counter ≤ Config.counterMax) (hr : p.rulesKept → q.rulesKept)
    (hs : q.reason.any StopReason.spared = true → C q.unit ∨ p.reason = q.reason ∧ p.unit = q.unit) : a.Keeps C b where
  timers h := ⟨hcount h.1, fun hn => absurd (hq.symm.trans hn) (Option.some_ne_none q)⟩
  rules h x hx := by
    cases hq.symm.trans hx
    exact hr (h p hp)
  spared x hx hxs := by
    cases hq.symm.trans hx
    exact (hs hxs).imp id fun ⟨h1, h2⟩ => ⟨p, hp, h1 ▸ hxs, h2⟩

/-- A permit that is new in its slot. -/
theorem Slot.Keeps.of_new (hq : b.permit = some q) (hcount : b.counter ≤ Config.counterMax) (hr : q.rulesKept)
    (hs : q.reason.any StopReason.spared = false) : a.Keeps C b where
  timers _ := ⟨hcount, fun hn => absurd (hq.symm.trans hn) (Option.some_ne_none q)⟩
  rules _ x hx := by cases hq.symm.trans hx; exact hr
  spared x hx hxs := by
    cases hq.symm.trans hx
    rw [hs] at hxs
    cases hxs

theorem Slot.Keeps.free : a.Keeps C .free where
  timers _ := ⟨Nat.zero_le _, fun _ => ⟨rfl, rfl, rfl, rfl⟩⟩
  rules _ _ hq := by cases hq
  spared _ hq := by cases hq

/-- A stop reason is recorded where one stands already (R37, R128). -/
theorem Slot.keeps_setReason (hp : a.permit = some p) {r : StopReason} (hr : r.spared = true → C p.unit)
    (hst : p.rulesKept → p.reason.isSome = true
      ∧ (p.minRunMet = true ∨ p.state = .draining ∨ r = .forced ∨ r = .tripped)) : a.Keeps C (a.setReason r) := by
  refine .of_permit hp (Slot.setReason_of hp r) id (fun h => ?_) fun hs => .inl (hr hs)
  obtain ⟨hsome, hmet⟩ := hst h
  obtain ⟨-, h2, h3⟩ := h
  refine ⟨fun hstop => ?_, iff_of_true rfl (h2.mp hsome), h3⟩
  rcases hmet with hmet | hmet | hmet | hmet
  · exact .inl hmet
  · rw [show p.state = .draining from hmet] at hstop
    rcases hstop with h | h <;> cases h
  · exact .inr (.inl (congrArg some hmet))
  · exact .inr (.inr (congrArg some hmet))

/-- STARTING and RUNNING go to DRAINING with the reason (R29). -/
theorem Slot.keeps_enterDraining (hp : a.permit = some p) {r : StopReason} (hr : r.spared = true → C p.unit) (v : Nat) :
    a.Keeps C (a.enterDraining r v) := by
  refine .of_permit (q := { p with
    state := .draining, reason := some r, minRunMet := p.minRunMet || decide (v ≤ a.counter), rotationDue := false }) hp
    (by rw [a.enterDraining_permit, hp]; rfl) (fun h => by rw [a.enterDraining_counter]; exact h) (fun _ => ?_)
    fun hs => .inl (hr hs)
  exact ⟨fun h => (by rcases h with h | h <;> cases h), iff_of_true rfl (.inl rfl), fun h => by cases h⟩

/-- A permit whose stop is justified, in STOPPING or RESTING (R31, R36). -/
theorem Permit.rulesKept_stopped (hr : p.reason.isSome = true)
    (hmet : p.minRunMet = true ∨ p.reason = some .forced ∨ p.reason = some .tripped) {st : PermitState}
    (hst : st = .stopping ∨ st = .resting) : Permit.rulesKept { p with state := st, rotationDue := false } :=
  ⟨fun _ => hmet, iff_of_true hr (.inr hst), fun h => by cases h⟩

/-- What lets a permit go on to STOPPING or RESTING. -/
def Permit.mayStop (p : Permit) : Prop :=
  p.reason.isSome = true ∧ (p.minRunMet = true ∨ p.reason = some .forced ∨ p.reason = some .tripped)

theorem Slot.keeps_enterStopping (hp : a.permit = some p) (h : p.rulesKept → p.mayStop) (v : Nat) :
    a.Keeps C (a.enterStopping v) :=
  .of_permit (q := { p with state := .stopping, rotationDue := false }) hp (by rw [a.enterStopping_permit, hp]; rfl)
    (fun _ => Nat.zero_le _) (fun hr => Permit.rulesKept_stopped (h hr).1 (h hr).2 (.inl rfl)) fun _ => .inr ⟨rfl, rfl⟩

theorem Slot.keeps_enterResting (hp : a.permit = some p) (h : p.rulesKept → p.mayStop) (v : Nat) :
    a.Keeps C (a.enterResting v) :=
  .of_permit (q := { p with state := .resting, rotationDue := false }) hp (by rw [a.enterResting_permit, hp]; rfl)
    (fun _ => Nat.zero_le _) (fun hr => Permit.rulesKept_stopped (h hr).1 (h hr).2 (.inr rfl)) fun _ => .inr ⟨rfl, rfl⟩

theorem State.keeps_rested (s : State) (u : UnitNo) (hp : a.permit = some p) (h : p.rulesKept → p.mayStop) :
    a.Keeps C (s.rested u a) := by
  unfold State.rested
  split
  · exact .free
  · exact Slot.keeps_enterResting hp h _

theorem State.keeps_stopped (s : State) (u : UnitNo) (hp : a.permit = some p) (h : p.rulesKept → p.mayStop) :
    a.Keeps C (s.stopped u a) := by
  unfold State.stopped
  split
  · exact s.keeps_rested u hp h
  · exact Slot.keeps_enterStopping hp h _

theorem State.rested_counter (s : State) (u : UnitNo) (sl : Slot) : (s.rested u sl).counter = 0 := by
  unfold State.rested
  split <;> rfl

theorem State.stopped_counter (s : State) (u : UnitNo) (sl : Slot) : (s.stopped u sl).counter = 0 := by
  unfold State.stopped
  split
  · exact s.rested_counter u sl
  · rfl

/-- A permit stopped with a reason that breaks its minimum run (R38, R39). -/
theorem Slot.Keeps.broken {r : StopReason} (hr : r = .forced ∨ r = .tripped) (h : (a.setReason r).Keeps C b)
    (hcount : b.counter = 0) (hall : ∀ q, b.permit = some q → q.rulesKept ∧ q.reason = some r) : a.Keeps C b where
  timers ha := ⟨hcount ▸ Nat.zero_le _, fun hn => (h.timers ⟨ha.1, fun hs => ha.2 (by
    cases hp : a.permit with
    | none => rfl
    | some p => rw [Slot.setReason_of hp] at hs; cases hs)⟩).2 hn⟩
  rules _ q hq := (hall q hq).1
  spared q hq hs := by
    rw [(hall q hq).2] at hs
    rcases hr with rfl | rfl <;> cases hs

theorem Permit.mayStop_of_broken {r : StopReason} (hr : r = .forced ∨ r = .tripped) (p : Permit) :
    Permit.mayStop { p with reason := some r } :=
  ⟨rfl, by rcases hr with rfl | rfl; exacts [.inr (.inl rfl), .inr (.inr rfl)]⟩

theorem State.keeps_broken_rested (s : State) (u : UnitNo) (hp : a.permit = some p) {r : StopReason}
    (hr : r = .forced ∨ r = .tripped) : a.Keeps C (s.rested u (a.setReason r)) := by
  have hp' := Slot.setReason_of hp r
  refine Slot.Keeps.broken hr (s.keeps_rested u hp' fun _ => Permit.mayStop_of_broken hr p) (s.rested_counter u _)
    fun q hq => ?_
  rw [s.rested_permit] at hq
  split at hq
  · cases hq
  · rw [hp'] at hq
    cases hq
    exact ⟨Permit.rulesKept_stopped (Permit.mayStop_of_broken hr p).1 (Permit.mayStop_of_broken hr p).2 (.inr rfl), rfl⟩

theorem State.keeps_broken_stopped (s : State) (u : UnitNo) (hp : a.permit = some p) {r : StopReason}
    (hr : r = .forced ∨ r = .tripped) : a.Keeps C (s.stopped u (a.setReason r)) := by
  unfold State.stopped
  split
  · exact s.keeps_broken_rested u hp hr
  · have hp' := Slot.setReason_of hp r
    refine Slot.Keeps.broken hr (Slot.keeps_enterStopping hp' (fun _ => Permit.mayStop_of_broken hr p) _) rfl
      fun q hq => ?_
    rw [Slot.enterStopping_permit, hp'] at hq
    cases hq
    exact ⟨Permit.rulesKept_stopped (Permit.mayStop_of_broken hr p).1 (Permit.mayStop_of_broken hr p).2 (.inl rfl), rfl⟩

/-- A permit in RUNNING carries no reason (R27, R40, R43). -/
theorem Permit.rulesKept_running (hst : p.state = .running) (hr : p.reason = none) : p.rulesKept :=
  ⟨fun h => (by rw [hst] at h; rcases h with h | h <;> cases h),
   iff_of_false (by rw [hr]; exact Bool.false_ne_true) (by rw [hst]; rintro (h | h | h) <;> cases h), fun _ => hst⟩

theorem Slot.keeps_enterRunningSettled (hp : a.permit = some p) (v w : Nat) : a.Keeps C (a.enterRunningSettled v w) := by
  rw [Slot.enterRunningSettled_of hp]
  exact .of_permit hp rfl id (fun _ => Permit.rulesKept_running rfl rfl) fun h => by cases h

theorem Slot.keeps_enterRunningRestored (hp : a.permit = some p) (w : Nat) : a.Keeps C (a.enterRunningRestored w) := by
  rw [Slot.enterRunningRestored_of hp]
  exact .of_permit hp rfl id (fun _ => Permit.rulesKept_running rfl rfl) fun h => by cases h

theorem Slot.keeps_enterRunningAdopted (hp : a.permit = some p) (w : Nat) : a.Keeps C (a.enterRunningAdopted w) := by
  rw [Slot.enterRunningAdopted_of hp]
  exact .of_permit hp rfl (fun _ => Nat.zero_le _) (fun _ => Permit.rulesKept_running rfl rfl) fun h => by cases h

theorem Slot.keeps_disarmA (hp : a.permit = some p) : a.Keeps C a.disarmA :=
  .of_permit hp (q := p) hp id id fun _ => .inr ⟨rfl, rfl⟩

theorem Slot.keeps_meetMinRun (hp : a.permit = some p) : a.Keeps C a.disarmA.meetMinRun :=
  .of_permit hp (Slot.meetMinRun_permit hp) id (fun h => ⟨fun _ => .inl rfl, h.2⟩) fun _ => .inr ⟨rfl, rfl⟩

theorem Slot.tick_counter (h : a.counter ≤ Config.counterMax) : a.tick.counter ≤ Config.counterMax := by
  unfold Slot.tick
  split
  · exact Nat.min_le_left _ _
  · exact h

theorem Slot.keeps_tick : a.Keeps C a.tick := by
  cases hp : a.permit with
  | none =>
    have hsame : a.tick = a := if_neg (by rw [hp]; exact Bool.false_ne_true)
    rw [hsame]
    exact .refl a
  | some p =>
    exact .of_permit hp (q := p) (a.tick_permit.trans hp) Slot.tick_counter id fun _ => .inr ⟨rfl, rfl⟩

theorem Slot.keeps_stopUnpermitted (hp : a.permit = some p) (v : Nat) : a.Keeps C (a.stopUnpermitted v) := by
  rw [Slot.stopUnpermitted_of hp]
  exact .of_permit hp rfl (fun _ => Nat.zero_le _)
    (fun _ => ⟨fun _ => .inl rfl, iff_of_true rfl (.inr (.inl rfl)), fun h => by cases h⟩) fun h => by cases h

/-- A granted permit starts without a reason, or runs at once (R25, R99). -/
theorem Slot.keeps_granted (u : UnitNo) (k rating settle minRun rot : Nat) :
    a.Keeps C (Slot.granted u k rating settle minRun rot) := by
  unfold Slot.granted
  dsimp only
  have hp : ((Slot.newPermit u k rating .starting .granted false none).loadA settle).permit
      = some ⟨u, k, rating, .starting, .granted, false, false, none⟩ := rfl
  have hstart : a.Keeps C ((Slot.newPermit u k rating .starting .granted false none).loadA settle) :=
    .of_new hp (Nat.zero_le _) ⟨fun h => (by rcases h with h | h <;> cases h),
      iff_of_false Bool.false_ne_true (by rintro (h | h | h) <;> cases h), fun h => by cases h⟩ rfl
  split
  · exact hstart.trans (Slot.keeps_enterRunningSettled hp minRun rot)
  · exact hstart

end

/-! ### The Permit Table -/

/-- Every slot's conditions are kept. -/
def State.SlotsKeep (C : UnitNo → Prop) (s t : State) : Prop := ∀ i : SlotNo, s.slots[i].Keeps C t.slots[i]

section

variable {C : UnitNo → Prop} {s t : State} {u : UnitNo}

theorem State.SlotsKeep.of_slots (h : t.slots = s.slots) : State.SlotsKeep C s t := fun i => by rw [h]; exact .refl _

theorem State.SlotsKeep.refl (s : State) : State.SlotsKeep C s s := fun _ => .refl _

theorem State.SlotsKeep.trans {r : State} (h : State.SlotsKeep C s t) (k : State.SlotsKeep C t r) : State.SlotsKeep C s r :=
  fun i => (h i).trans (k i)

theorem State.slotsKeep_modifySlot {i : SlotNo} {f : Slot → Slot} (h : s.slots[i].Keeps C (f s.slots[i])) :
    State.SlotsKeep C s (s.modifySlot i f) := fun j => by
  rw [State.slots_modifySlot]
  split
  · next hj => rw [hj]; exact h
  · exact .refl _

theorem State.slotsKeep_mapSlots {c : Permit → Bool} {f : Slot → Slot}
    (h : ∀ (i : SlotNo) (p : Permit), s.slots[i].permit = some p → p.unit = u → c p = true → s.slots[i].Keeps C (f s.slots[i])) :
    State.SlotsKeep C s (s.mapSlots (s.holds u c) f) := fun i => by
  rw [State.slots_mapSlots]
  split
  · next hi =>
    obtain ⟨p, hp, hu, hc⟩ := (s.holds_iff u c i).mp hi
    exact h i p hp hu hc
  · exact .refl _

theorem State.slotsKeep_takeFree {sl : Slot} (h : s.takeFree sl = some t) (hsl : ∀ a : Slot, a.Keeps C sl) :
    State.SlotsKeep C s t := fun j => by
  obtain ⟨i, -, hslots, -⟩ := State.takeFree_some h
  rw [hslots]
  split
  · exact hsl _
  · exact .refl _

theorem Permit.mayStop_of_descends {p : Permit} (h : p.descends = true) (hr : p.rulesKept) : p.mayStop := by
  obtain ⟨hst, hmet⟩ := Bool.and_eq_true_iff.mp h
  exact ⟨hr.2.1.mpr (.inl (of_decide_eq_true hst)), .inl hmet⟩

theorem Permit.mayStop_of_stopping {p : Permit} (h : p.state = .stopping) (hr : p.rulesKept) : p.mayStop :=
  ⟨hr.2.1.mpr (.inr (.inl h)), hr.1 (.inl h)⟩

theorem State.slotsKeep_topOrder (s : State) (u : UnitNo) : State.SlotsKeep C s (s.topOrder u) := fun i => by
  rcases State.descend_slots (u := u) 4 s i with h | ⟨hd, h⟩
  · rw [State.topOrder, h]; exact .refl _
  · obtain ⟨p, hp, -, hpd⟩ := (s.holds_iff u _ i).mp hd
    rw [State.topOrder, h]
    exact s.keeps_stopped u hp (Permit.mayStop_of_descends hpd)

theorem State.slotsKeep_enterStop {r : StopReason} (hr : r.spared = true → C u) (stages : Nat → Bool) :
    State.SlotsKeep C s (s.enterStop u r stages) := by
  rw [State.enterStop_eq]
  refine State.SlotsKeep.trans ?_ (State.slotsKeep_topOrder _ u)
  exact State.slotsKeep_mapSlots fun i p hp hu _ => Slot.keeps_enterDraining hp (fun h => hu ▸ hr h) _

theorem State.slotsKeep_replaceDraining {r : StopReason} (hr : r.spared = false) :
    State.SlotsKeep C s (s.replaceDraining u r) := by
  rw [State.replaceDraining_eq]
  refine State.slotsKeep_mapSlots fun i p hp _ hst => Slot.keeps_setReason hp (fun h => ?_) fun h => ?_
  · rw [hr] at h; cases h
  · have hst := of_decide_eq_true hst
    exact ⟨h.2.1.mpr (.inl hst), .inr (.inl hst)⟩

theorem State.slotsKeep_spareClassZero (s : State) (u : UnitNo) : State.SlotsKeep C s (s.spareClassZero u) := by
  rw [State.spareClassZero_eq]
  refine State.slotsKeep_mapSlots fun i p hp _ hsp => Slot.keeps_setReason hp (fun h => by cases h) fun h => ?_
  obtain ⟨r, hr, hrs⟩ := (Option.any_eq_true _ _).mp hsp
  have hsome : p.reason.isSome = true := by rw [hr]; rfl
  refine ⟨hsome, ?_⟩
  rcases h.2.1.mp hsome with hst | hst | hst
  · exact .inr (.inl hst)
  all_goals
    rcases h.1 (by rw [hst]; simp) with hmet | hmet | hmet
    · exact .inl hmet
    · rw [hr] at hmet; cases hmet; cases hrs
    · rw [hr] at hmet; cases hmet; cases hrs

theorem State.slotsKeep_restoreBelow (s : State) (u : UnitNo) (d : Nat) : State.SlotsKeep C s (s.restoreBelow u d) := by
  rw [State.restoreBelow_eq]
  exact State.slotsKeep_mapSlots fun i p hp _ _ => Slot.keeps_enterRunningRestored hp _

theorem State.slotsKeep_releaseFrom (s : State) (u : UnitNo) (d : Nat) : State.SlotsKeep C s (s.releaseFrom u d) := by
  unfold State.releaseFrom
  dsimp only
  split
  · exact (State.slotsKeep_enterStop (fun h => by cases h) _).trans (.of_slots (State.handOver_slots _ u _))
  · exact .refl s

theorem State.slotsKeep_applyDesired (s : State) (u : UnitNo) : State.SlotsKeep C s (s.applyDesired u) := by
  unfold State.applyDesired
  split
  · exact (s.slotsKeep_restoreBelow u _).trans (State.slotsKeep_releaseFrom _ u _)
  · exact .refl s

theorem State.slotsKeep_trip (s : State) (u : UnitNo) : State.SlotsKeep C s (s.trip u) := by
  rw [State.trip_eq]
  have hdown : State.SlotsKeep C s (s.trippedDown u) := fun i => by
    rw [State.trippedDown_slots]
    split
    · next hi =>
      obtain ⟨p, hp, -⟩ := (s.mem_slotsOf u _ i).mp hi
      exact s.keeps_broken_rested u hp (.inr rfl)
    · exact .refl _
  exact ((hdown.trans (.of_slots (State.settleCompliance_slots _ u))).trans (State.slotsKeep_topOrder _ u)).trans
    (.of_slots (State.handOver_slots _ u _))

theorem State.slotsKeep_complete (s : State) (u : UnitNo) (r : Nat) : State.SlotsKeep C s (s.complete u r) := fun i => by
  rw [State.complete, State.settleCompliance_slots, State.restAll_slots u _ s (s.slotsOf_nodup u _) i]
  split
  · next hi =>
    obtain ⟨p, hp, -, hst⟩ := (s.mem_slotsOf u _ i).mp hi
    exact s.keeps_rested u hp (Permit.mayStop_of_stopping (of_decide_eq_true (Bool.and_eq_true_iff.mp hst).1))
  · exact .refl _

theorem State.slotsKeep_forceRelease (s : State) (u : UnitNo) : State.SlotsKeep C s (s.forceRelease u) := fun i => by
  rw [State.forceRelease_slots, State.forcedSlot]
  split
  · next hi =>
    obtain ⟨p, hp, -⟩ := (s.holds_iff u _ i).mp hi
    exact s.keeps_broken_stopped u hp (.inl rfl)
  · split
    · next hi =>
      obtain ⟨p, hp, -, hst⟩ := (s.holds_iff u _ i).mp hi
      exact s.keeps_rested u hp (Permit.mayStop_of_stopping (of_decide_eq_true hst))
    · exact .refl _

/-- Stages found running are in RUNNING without a reason (R43). -/
theorem State.slotsKeep_adopt (u : UnitNo) (l : List Nat) : ∀ s : State, State.SlotsKeep C s (s.adopt u l) := by
  induction l with
  | nil => exact fun s => .refl s
  | cons k l ih =>
    intro s
    unfold State.adopt
    split
    · next i hi =>
      obtain ⟨p, hp, -⟩ := (s.holds_iff u _ i).mp (List.find?_some hi)
      exact (State.slotsKeep_modifySlot (Slot.keeps_enterRunningAdopted hp _)).trans (ih _)
    · dsimp only
      split
      · next t h =>
        exact (State.slotsKeep_takeFree h fun a => .of_new (Slot.adoptedNew_permit k _ _) (Nat.zero_le _)
          (Permit.rulesKept_running rfl rfl) rfl).trans (ih t)
      · exact .of_slots rfl

theorem State.slotsKeep_adoptStages (s : State) (u : UnitNo) (l r : Nat) : State.SlotsKeep C s (s.adoptStages u l r) := by
  rw [State.adoptStages_eq]
  have hadopt : State.SlotsKeep C s ((s.adopt u ((List.range r).drop l)).settleCompliance u) :=
    (State.slotsKeep_adopt u _ s).trans (.of_slots (State.settleCompliance_slots _ u))
  dsimp only
  generalize (s.adopt u ((List.range r).drop l)).settleCompliance u = t at hadopt
  have hstop : State.SlotsKeep C s (t.stopAdopted u l) := by
    unfold State.stopAdopted
    split
    · next x hx =>
      refine hadopt.trans (State.slotsKeep_enterStop (fun h => ?_) _)
      unfold UnitState.stopReason at hx
      split at hx <;> cases hx <;> cases h
    · exact hadopt
  split
  · exact hstop
  · refine hstop.trans (.of_slots ?_)
    unfold State.joinUrgent
    split <;> rfl

theorem State.slotsKeep_recordUnpermitted (s : State) (u : UnitNo) (k : Nat) :
    State.SlotsKeep C s (s.recordUnpermitted u k).1 := by
  rcases s.recordUnpermitted_cases u k with ⟨i, p, -, hp, -, h⟩ | ⟨i, p, -, -, -, h⟩ | ⟨t, -, ht, h⟩ | ⟨-, -, h⟩ <;> rw [h]
  · exact State.slotsKeep_modifySlot (Slot.keeps_stopUnpermitted hp _)
  · exact .refl s
  · exact State.slotsKeep_takeFree ht fun a => .of_new (Slot.stopUnpermittedNew_permit k _ _) (Nat.zero_le _)
      ⟨fun _ => .inl rfl, iff_of_true rfl (.inr (.inl rfl)), fun h => by cases h⟩ rfl
  · exact .refl s

theorem State.slotsKeep_unpermitted (s : State) (u : UnitNo) (l : List Nat) : State.SlotsKeep C s (s.unpermitted u l) := by
  have hall : ∀ (l : List Nat) (s : State), State.SlotsKeep C s (s.recordAllUnpermitted u l).1 := by
    intro l
    induction l with
    | nil => exact fun s => .refl s
    | cons k l ih => exact fun s => (s.slotsKeep_recordUnpermitted u k).trans (ih _)
  refine (hall l s).trans (.of_slots ?_)
  unfold State.unpermitted
  dsimp only
  cases (s.recordAllUnpermitted u l).2 <;> rfl

theorem State.slotsKeep_findRunning (s : State) (u : UnitNo) (r : Nat) : State.SlotsKeep C s (s.findRunning u r) := by
  unfold State.findRunning
  split
  · split
    · exact s.slotsKeep_adoptStages u _ _
    · exact s.slotsKeep_unpermitted u _
  · exact .refl s

theorem State.slotsKeep_applyRunning (s : State) (u : UnitNo) : State.SlotsKeep C s (s.applyRunning u) := by
  rw [State.applyRunning_eq]
  have h := s.slotsKeep_complete (C := C) u (s.runningLevel u)
  dsimp only
  generalize s.complete u (s.runningLevel u) = t at h
  split
  · exact (h.trans (t.slotsKeep_findRunning u _)).trans (.of_slots rfl)
  · exact h

theorem State.slotsKeep_requested (s : State) (u : UnitNo) (d r : Nat) (c : Condition) :
    State.SlotsKeep C s (s.requested u d r c) := by
  unfold State.requested
  extract_lets s1 s2 s3
  have h1 : State.SlotsKeep C s s1 := .of_slots rfl
  have h2 : State.SlotsKeep C s s2 := by
    dsimp only [s2]; split
    · exact h1.trans (s1.slotsKeep_trip u)
    · exact h1
  have h3 : State.SlotsKeep C s s3 := by
    dsimp only [s3]; split
    · exact h2.trans (s2.slotsKeep_applyRunning u)
    · exact h2
  exact h3.trans (s3.slotsKeep_applyDesired u)

theorem State.slotsKeep_woundDown (s : State) (u : UnitNo) (st : UnitState) {r : StopReason} (hr : r.spared = false) :
    State.SlotsKeep C s (s.woundDown u st r) := by
  have h1 : State.SlotsKeep C s (s.modifyStatus u fun x => { x with state := st }) := .of_slots rfl
  unfold State.woundDown
  refine ((h1.trans (State.slotsKeep_replaceDraining hr)).trans (State.slotsKeep_enterStop (fun h => ?_) _)).trans
    (.of_slots (State.handOver_slots _ u _))
  rw [hr] at h; cases h

/-! ### Grants -/

theorem State.slotsKeep_createGrant (s : State) (u : UnitNo) : State.SlotsKeep C s (s.createGrant u) := by
  cases hf : s.freeList with
  | nil => rw [s.createGrant_nil u hf]; exact .refl s
  | cons i rest =>
    obtain ⟨hslots, -⟩ := s.createGrant_slots u hf
    intro j
    rw [hslots, getElem_set_eq]
    split
    · exact Slot.keeps_granted u _ _ _ _ _
    · exact .refl _

theorem State.raiseIf_slots (s : State) (b : Bool) (n : Notice) : (s.raiseIf b n).slots = s.slots := by
  cases b <;> rfl

theorem State.QueueStep.slotsKeep (h : s.QueueStep t) : State.SlotsKeep C s t := by
  obtain ⟨b, q, rfl | ⟨e, -, rfl⟩⟩ := h
  · exact .of_slots (s.raiseIf_slots b _)
  · have h1 : State.SlotsKeep C s (s.raiseIf b .queueFull) := .of_slots (s.raiseIf_slots b _)
    exact (h1.trans (State.slotsKeep_createGrant _ e.unit)).trans (.of_slots rfl)

theorem State.slotsKeep_desireStep (s : State) (u : UnitNo) : State.SlotsKeep C s (s.desireStep u) :=
  (s.desireStep_queueStep u).slotsKeep

theorem State.slotsKeep_admissionPass (s : State) : State.SlotsKeep C s s.admissionPass :=
  State.QueueStep.slotsKeep (s.admissionPass_queueStep false s.queue)

theorem State.slotsKeep_settleLevel (s : State) (u : UnitNo) (n : Nat) : State.SlotsKeep C s (s.settleLevel u n) := by
  have h : State.SlotsKeep C s (s.handOver u n) := .of_slots (s.handOver_slots u n)
  unfold State.settleLevel
  dsimp only
  split
  · exact h.trans (State.slotsKeep_desireStep _ u)
  · exact h

end

end Sys2Proof.Machine


/-! The rules of minimum runs, stop reasons and slot timers, kept by every step (R28, R36, R53, R56, R64, R128). -/

namespace Sys2Proof.Machine

section

variable {C : UnitNo → Prop} {s t : State} {u : UnitNo}

/-! ### The remaining effects, slot by slot -/

theorem State.install_slots (s : State) (u : UnitNo) (r : UnitRecord) : (s.install u r).slots = s.slots := by
  unfold State.install State.onChannelOf
  split <;> rfl

theorem State.moveByClass_slots (s : State) (u : UnitNo) (n : Nat) : (s.moveByClass u n).slots = s.slots := by
  unfold State.moveByClass
  split <;> rfl

theorem State.slotsKeep_rewant (s : State) (u : UnitNo) (n : Nat) : State.SlotsKeep C s (s.rewant u n) := by
  rw [State.rewant_eq]
  refine State.SlotsKeep.trans ?_ (State.slotsKeep_admissionPass _)
  exact .of_slots rfl

theorem State.slotsKeep_changeRecord (s : State) (u : UnitNo) (old r : UnitRecord) :
    State.SlotsKeep C s (s.changeRecord u old r) := by
  have hreplace : State.SlotsKeep C s (s.replaceRecord u r) := .of_slots rfl
  have hclass : State.SlotsKeep C s ((s.replaceRecord u r).changeClass u old.cls r.cls) := by
    unfold State.changeClass
    dsimp only
    split
    · exact hreplace
    · refine State.SlotsKeep.trans ?_ (.of_slots (State.moveByClass_slots _ u _))
      split
      · exact hreplace.trans (State.slotsKeep_spareClassZero _ u)
      · exact hreplace
  unfold State.changeRecord State.clampWanted
  split
  · split
    · exact hclass.trans (State.slotsKeep_rewant _ u _)
    · exact hclass
  · exact hclass

theorem State.slotsKeep_settleExpiry (s : State) (i : SlotNo) : State.SlotsKeep C s (s.settleExpiry i) := by
  unfold State.settleExpiry
  split
  · next p he => exact State.slotsKeep_modifySlot (Slot.keeps_enterRunningSettled (State.of_expired he).1 _ _)
  · exact .refl s

theorem State.slotsKeep_minRunExpiry (s : State) (i : SlotNo) : State.SlotsKeep C s (s.minRunExpiry i) := by
  unfold State.minRunExpiry
  split
  · next p he => exact State.slotsKeep_modifySlot (Slot.keeps_meetMinRun (State.of_expired he).1)
  · exact .refl s

theorem State.slotsKeep_drainingExpiry (s : State) (i : SlotNo) : State.SlotsKeep C s (s.drainingExpiry i) := by
  unfold State.drainingExpiry
  split
  · next p he =>
    have h : State.SlotsKeep C s (s.modifySlot i fun sl => sl.disarmA.meetMinRun) :=
      State.slotsKeep_modifySlot (Slot.keeps_meetMinRun (State.of_expired he).1)
    exact (h.trans (State.slotsKeep_topOrder _ p.unit)).trans (State.slotsKeep_settleLevel _ p.unit _)
  · exact .refl s

theorem State.slotsKeep_rotationExpiry (s : State) (i : SlotNo) : State.SlotsKeep C s (s.rotationExpiry i) := by
  unfold State.rotationExpiry
  split
  · next p hp =>
    split
    · next hc =>
      have hst := of_decide_eq_true (Bool.and_eq_true_iff.mp hc).1
      exact State.slotsKeep_modifySlot (.of_permit (q := { p with rotationDue := true }) hp (by rw [hp]; rfl) id
        (fun h => ⟨h.1, h.2.1, fun _ => hst⟩) fun _ => .inr ⟨rfl, rfl⟩)
    · exact .refl s
  · exact .refl s

theorem State.slotsKeep_complianceExpiry (s : State) (i : SlotNo) : State.SlotsKeep C s (s.complianceExpiry i) := by
  unfold State.complianceExpiry
  split
  · next p he =>
    have h : State.SlotsKeep C s (s.modifySlot i Slot.disarmA) :=
      State.slotsKeep_modifySlot (Slot.keeps_disarmA (State.of_expired he).1)
    exact h.trans (.of_slots rfl)
  · exact .refl s

theorem State.slotsKeep_minOffExpiry (s : State) (i : SlotNo) : State.SlotsKeep C s (s.minOffExpiry i) := by
  unfold State.minOffExpiry
  split
  · intro j
    rw [State.freeSlot_slots, getElem_set_eq]
    split
    · exact .free
    · exact .refl _
  · exact .refl s

theorem State.slotsKeep_takeCounters (s : State) : State.SlotsKeep C s (s.takePart .slotCounters) := fun i => by
  rw [State.slots_takeCounters]
  exact Slot.keeps_tick

theorem State.slotsKeep_missOf (s : State) (u : UnitNo) : State.SlotsKeep C s (s.missOf u) := by
  unfold State.missOf
  split
  · unfold State.miss
    dsimp only
    split
    · refine State.SlotsKeep.trans ?_ (State.slotsKeep_desireStep _ u)
      exact .of_slots rfl
    · exact .of_slots rfl
  · exact .refl s

theorem State.hear_slots (s : State) (u : UnitNo) : (s.hear u).slots = s.slots := by
  unfold State.hear
  dsimp only
  split <;> rfl

theorem State.slotsKeep_reinitialise (s : State) (site : SiteRecord) (units : Vector UnitEntry 36) (n : BitVec 16) :
    State.SlotsKeep C s (s.reinitialise site units n) := fun i => by
  have hfree : (s.reinitialise site units n).slots[i] = .free := by
    show (Vector.replicate 96 Slot.free)[i] = .free
    rw [Fin.getElem_fin, Vector.getElem_replicate]
  rw [hfree]
  exact .free

/-- What every change of a slot keeps, every step keeps. -/
theorem Kept.of_slotsKeep {I : State → Prop} (h : ∀ {s t : State}, State.SlotsKeep (fun _ => True) s t → I s → I t) :
    Kept I where
  framed hf := h (.of_slots hf.slots)
  pass {s} := h s.slotsKeep_admissionPass
  desire {s} u := h (s.slotsKeep_desireStep u)
  request {s} u d r c := h ((s.slotsKeep_requested u d r c).trans ((s.requested u d r c).slotsKeep_desireStep u))
  windDown {s u st r} _ _ _ hr :=
    h ((s.slotsKeep_woundDown u st hr).trans ((s.woundDown u st r).slotsKeep_desireStep u))
  retire {s} u := h (.of_slots (s.retireIfEmpty_slots u))
  unlock {s u} _ := h (State.SlotsKeep.trans (t := s.unlocked u) (.of_slots rfl) ((s.unlocked u).slotsKeep_desireStep u))
  release {s u} _ := h ((s.slotsKeep_forceRelease u).trans ((s.forceRelease u).slotsKeep_settleLevel u _))
  install {s u r} _ _ := h (.of_slots (s.install_slots u r))
  change {s u old r} _ _ _ _ := h (s.slotsKeep_changeRecord u old r)
  site {s r m} _ _ := h (s := s) (t := s.withSite r m) (.of_slots rfl)
  stop {s u r} stages _ := h ((State.slotsKeep_enterStop (fun _ => trivial) stages).trans
    ((s.enterStop u r stages).slotsKeep_settleLevel u _))
  settle {s} i := h (s.slotsKeep_settleExpiry i)
  minRun {s} i := h (s.slotsKeep_minRunExpiry i)
  draining {s} i := h (s.slotsKeep_drainingExpiry i)
  rotation {s} i := h (s.slotsKeep_rotationExpiry i)
  compliance {s} i := h (s.slotsKeep_complianceExpiry i)
  minOff {s} i := h (s.slotsKeep_minOffExpiry i)
  slotTick {s} := h s.slotsKeep_takeCounters
  holdTick {s} := h (s := s) (t := s.takePart .restartHold) (.of_slots rfl)
  gateTick {s} := h (s := s) (t := s.takePart .startGate) (.of_slots rfl)
  holdEnd {s} := h (s := s) (t := { s with hold := .ended, startGate := .opened }) (.of_slots rfl)
  close {s} := h (s := s) (.of_slots (State.raiseIf_slots (s.modifyMeter (Meter.close s.site)) _ _))
  missOf {s} u := h (s.slotsKeep_missOf u)
  hear {s} u := h (.of_slots (s.hear_slots u))
  transaction {s} := h (s := s) (.of_slots (by rw [State.nextTransaction_link]))
  reinit {s site units} n _ _ := h (s.slotsKeep_reinitialise site units n)

theorem State.kept_slotsSound : Kept State.slotsSound :=
  .of_slotsKeep fun h hs i => (h i).timers (hs i)

theorem State.kept_stopRules : Kept fun s => s.minimumRunsKept ∧ s.permitFieldsSound :=
  .of_slotsKeep fun h hs =>
    have hall := fun i q hq => (h i).rules (fun p hp => ⟨hs.1 i p hp, hs.2 i p hp⟩) q hq
    ⟨fun i q hq => (hall i q hq).1, fun i q hq => (hall i q hq).2⟩

end

end Sys2Proof.Machine


/-! Class 0 is spared: no permit of it ever carries SHED, CURTAILED or ROTATED (R128). -/

namespace Sys2Proof.Machine

/-- Every unit keeps its record, or loses it. -/
def State.RecordsKept (s t : State) : Prop := ∀ v : UnitNo, t.record v = s.record v ∨ t.record v = none

section

variable {C : UnitNo → Prop} {s t : State} {u : UnitNo}

theorem State.RecordsKept.of_units (h : t.units = s.units) : s.RecordsKept t := fun v => .inl (by rw [State.record, h]; rfl)

theorem State.RecordsKept.trans {r : State} (h : s.RecordsKept t) (k : t.RecordsKept r) : s.RecordsKept r := fun v => by
  rcases k v with k | k
  · rw [k]; exact h v
  · exact .inr k

theorem State.Narrows.recordsKept (h : State.Narrows u s t) : s.RecordsKept t := fun v =>
  (h.core v).imp (congrArg Prod.fst) fun hc => congrArg Prod.fst hc.1

theorem State.Reworked.recordsKept (h : State.Reworked u s t) : s.RecordsKept t := fun v => by
  by_cases hv : v = u
  · subst hv
    exact h.record.imp And.left And.left
  · exact .inl (State.record_of_units (h.apart.units v hv)).1

theorem State.recordsKept_modifyStatus (s : State) (u : UnitNo) (f : UnitStatus → UnitStatus) :
    s.RecordsKept (s.modifyStatus u f) := fun v => .inl (s.record_modifyStatus u v f)

theorem State.recordsKept_raise (s : State) (n : Notice) : s.RecordsKept (s.raise n) := .of_units rfl

theorem State.recordsKept_desireStep (s : State) (u : UnitNo) : s.RecordsKept (s.desireStep u) :=
  .of_units (s.desireStep_passed u).units

theorem State.recordsKept_settleLevel (s : State) (u : UnitNo) (n : Nat) : s.RecordsKept (s.settleLevel u n) := by
  unfold State.settleLevel
  dsimp only
  have h : s.RecordsKept (s.handOver u n) := .of_units (s.handOver_units u n)
  split
  · exact h.trans (State.recordsKept_desireStep _ u)
  · exact h

theorem StopReason.any_spared_iff {o : Option StopReason} : o.any StopReason.spared = true
    ↔ o = some .shed ∨ o = some .curtailed ∨ o = some .rotated := by
  cases o with
  | none => simp
  | some r => cases r <;> simp [StopReason.spared]

/-- What spares class 0 stays so, where the permits that are left are of units with the same class (R128). -/
theorem State.classZeroSpared_of (hs : s.classZeroSpared) (hk : State.SlotsKeep C s t) (hC : ∀ v, C v → s.cls v ≠ 0)
    (ht : t.tablesSound) (hr : s.RecordsKept t) : t.classZeroSpared := fun i q hq hsp => by
  have hcls : t.cls q.unit = s.cls q.unit := by
    rcases hr q.unit with h | h
    · rw [State.cls, h]; rfl
    · exact absurd rfl ((State.tables_of_sound ht).noPermit_of_noRecord h hq)
  rw [hcls]
  rcases (hk i).spared q hq (StopReason.any_spared_iff.mpr hsp) with h | ⟨p, hp, hps, hpu⟩
  · exact hC _ h
  · rw [← hpu]
    exact hs i p hp (StopReason.any_spared_iff.mp hps)

/-- The unit's new class, where a move into class 0 gives its permits another reason (R128). -/
theorem State.classZeroSpared_changeClass (hs : s.classZeroSpared) (hslots : t.slots = s.slots)
    (hothers : ∀ v : UnitNo, v ≠ u → t.cls v = s.cls v) {a b : Nat} (ha : s.cls u = a) (hb : t.cls u = b) :
    (t.changeClass u a b).classZeroSpared := by
  have hsame (hne : b = 0 → a = b) : t.classZeroSpared := fun i p hp hsp => by
    rw [hslots] at hp
    by_cases hu : p.unit = u
    · rw [hu, hb]
      intro h0
      have := hs i p hp hsp
      rw [hu, ha] at this
      exact this ((hne h0).trans h0)
    · rw [hothers _ hu]
      exact hs i p hp hsp
  unfold State.changeClass
  dsimp only
  split
  · next hab => exact hsame fun _ => hab
  · next hab =>
    intro i p hp hsp
    rw [State.moveByClass_slots] at hp
    rw [State.cls, State.record, State.moveByClass_units]
    split at hp
    · next h0 =>
      rw [if_pos h0]
      have hunits : (t.spareClassZero u).units = t.units := by
        rw [State.spareClassZero_eq]
        exact State.withSlots_units _ _
      rw [hunits]
      show t.cls p.unit ≠ 0
      rw [State.spareClassZero_eq, State.slots_mapSlots] at hp
      split at hp
      · next hi =>
        obtain ⟨x, hx, -, -⟩ := (t.holds_iff u _ i).mp hi
        rw [Slot.setReason_of hx] at hp
        cases hp
        rcases hsp with h | h | h <;> cases h
      · next hi =>
        have hu : p.unit ≠ u := fun hu =>
          hi ((t.holds_iff u _ i).mpr ⟨p, hp, hu, StopReason.any_spared_iff.mpr hsp⟩)
        rw [hothers _ hu]
        exact hs i p (hslots ▸ hp) hsp
    · next h0 =>
      rw [if_neg h0]
      exact hsame (fun h => absurd h h0) i p hp hsp

theorem State.classZeroSpared_changeRecord (hs : s.tablesSound) (h : s.classZeroSpared) {old r : UnitRecord}
    (hold : s.record u = some old) (hv : r.valid u = true) (hrat : r.ratings = old.ratings ∨ s.hasPermit u = false) :
    (s.changeRecord u old r).classZeroSpared := by
  have hsound := State.changeRecord_sound hs hold hv hrat
  have hunit := s.unit_replaceRecord u r
  have hclass : ((s.replaceRecord u r).changeClass u old.cls r.cls).classZeroSpared := by
    have ha : s.cls u = old.cls := by rw [State.cls, hold]; rfl
    refine State.classZeroSpared_changeClass (t := s.replaceRecord u r) h rfl (fun v hvu => ?_) ha ?_
    · rw [State.cls, (State.record_of_units ((hunit v).trans (if_neg hvu))).1, State.cls]
    · rw [State.cls, State.record, hunit, if_pos rfl]; rfl
  unfold State.changeRecord at hsound ⊢
  generalize (s.replaceRecord u r).changeClass u old.cls r.cls = t at hclass hsound
  have hclamp : t.clampWanted u r = t ∨ t.clampWanted u r = t.rewant u r.stageCount := by
    unfold State.clampWanted
    split
    · split
      · exact .inr rfl
      · exact .inl rfl
    · exact .inl rfl
  rcases hclamp with hc | hc
  · rw [hc]; exact hclass
  · rw [hc] at hsound ⊢
    refine State.classZeroSpared_of (C := fun _ => False) hclass (t.slotsKeep_rewant u _) (fun _ hf => hf.elim) hsound
      (.of_units ?_)
    rw [State.rewant_eq]
    exact (State.admissionPass_passed _).units

theorem State.recordsKept_hear (s : State) (u : UnitNo) : s.RecordsKept (s.hear u) := by
  unfold State.hear
  dsimp only
  split
  · exact (s.recordsKept_modifyStatus u _).trans ((State.recordsKept_modifyStatus _ u _).trans (State.recordsKept_raise _ _))
  · exact s.recordsKept_modifyStatus u _

theorem State.recordsKept_missOf (s : State) (u : UnitNo) : s.RecordsKept (s.missOf u) := by
  unfold State.missOf
  split
  · unfold State.miss
    dsimp only
    have h := s.recordsKept_modifyStatus u fun st => { st with misses := min Config.nibbleMax ((s.status u).misses + 1) }
    generalize (s.modifyStatus u fun st => { st with misses := min Config.nibbleMax ((s.status u).misses + 1) }) = t at h
    split
    · exact h.trans (((t.recordsKept_modifyStatus u _).trans (State.recordsKept_raise _ _)).trans
        (State.recordsKept_desireStep _ u))
    · exact h
  · exact .of_units rfl

theorem State.recordsKept_woundDown (s : State) (u : UnitNo) (st : UnitState) (r : StopReason) :
    s.RecordsKept (s.woundDown u st r) := by
  unfold State.woundDown
  have h0 := s.recordsKept_modifyStatus u fun x => { x with state := st }
  generalize (s.modifyStatus u fun x => { x with state := st }) = t at h0
  exact h0.trans (((t.narrows_replaceDraining u r).recordsKept.trans
    (State.narrows_enterStop _ u r _).recordsKept).trans (.of_units (State.handOver_units _ u _)))

/-! ### The units in an expiry -/

theorem State.settleExpiry_units (s : State) (i : SlotNo) : (s.settleExpiry i).units = s.units := by
  unfold State.settleExpiry
  split <;> rfl

theorem State.minRunExpiry_units (s : State) (i : SlotNo) : (s.minRunExpiry i).units = s.units := by
  unfold State.minRunExpiry
  split <;> rfl

theorem State.rotationExpiry_units (s : State) (i : SlotNo) : (s.rotationExpiry i).units = s.units := by
  unfold State.rotationExpiry
  split
  · split <;> rfl
  · rfl

theorem State.recordsKept_drainingExpiry (s : State) (i : SlotNo) : s.RecordsKept (s.drainingExpiry i) := by
  unfold State.drainingExpiry
  split
  · next p _ =>
    have h : s.RecordsKept (s.modifySlot i fun sl => sl.disarmA.meetMinRun) := .of_units rfl
    exact h.trans ((State.narrows_topOrder _ p.unit).recordsKept.trans (State.recordsKept_settleLevel _ p.unit _))
  · exact .of_units rfl

theorem State.recordsKept_complianceExpiry (s : State) (i : SlotNo) : s.RecordsKept (s.complianceExpiry i) := by
  unfold State.complianceExpiry
  split
  · next p _ =>
    exact State.RecordsKept.trans (t := s.modifySlot i Slot.disarmA) (.of_units rfl)
      ((State.recordsKept_modifyStatus _ p.unit _).trans (State.recordsKept_raise _ _))
  · exact .of_units rfl

theorem State.recordsKept_minOffExpiry (s : State) (i : SlotNo) : s.RecordsKept (s.minOffExpiry i) := by
  unfold State.minOffExpiry
  split
  · next p he => exact (State.narrows_freeSlot ⟨p, (State.of_expired he).1, rfl⟩).recordsKept
  · exact .of_units rfl

theorem State.takeCounters_units (s : State) : (s.takePart .slotCounters).units = s.units := by
  unfold State.takePart
  rfl

theorem State.closeSubinterval_units (s : State) : s.closeSubinterval.units = s.units := by
  unfold State.closeSubinterval State.raiseIf
  dsimp only
  split <;> rfl

/-! ### Every step (O58) -/

/-- The tables' conditions with what R128 says of class 0. -/
theorem State.kept_classZero : Kept fun s => s.tablesSound ∧ s.classZeroSpared := by
  have keep {s t : State} (hk : State.SlotsKeep (fun _ => False) s t) (hr : s.RecordsKept t) (ht : t.tablesSound)
      (h : s.tablesSound ∧ s.classZeroSpared) : t.tablesSound ∧ t.classZeroSpared :=
    ⟨ht, State.classZeroSpared_of h.2 hk (fun _ hf => hf.elim) ht hr⟩
  have k := State.kept_tablesSound
  exact {
    framed := fun {s t} hf h => keep (.of_slots hf.slots) (.of_units hf.units) (k.framed hf h.1) h
    pass := fun {s} h => keep s.slotsKeep_admissionPass (.of_units s.admissionPass_passed.units) (k.pass h.1) h
    desire := fun {s} u h => keep (s.slotsKeep_desireStep u) (s.recordsKept_desireStep u) (k.desire u h.1) h
    request := fun {s} u d r c h => keep
      ((s.slotsKeep_requested u d r c).trans ((s.requested u d r c).slotsKeep_desireStep u))
      ((State.requested_reworked (State.tables_of_sound h.1) (State.tablesSound_inOrder h.1 u) d r c).recordsKept.trans
        ((s.requested u d r c).recordsKept_desireStep u)) (k.request u d r c h.1) h
    windDown := fun {s u st r} hc h1 h2 hr h => keep
      ((s.slotsKeep_woundDown u st hr).trans ((s.woundDown u st r).slotsKeep_desireStep u))
      ((s.recordsKept_woundDown u st r).trans ((s.woundDown u st r).recordsKept_desireStep u))
      (k.windDown hc h1 h2 hr h.1) h
    retire := fun {s} u h => keep (.of_slots (s.retireIfEmpty_slots u)) (s.narrows_retireIfEmpty u).recordsKept
      (k.retire u h.1) h
    unlock := fun {s u} hl h => keep (s := s)
      (State.SlotsKeep.trans (t := s.unlocked u) (.of_slots rfl) ((s.unlocked u).slotsKeep_desireStep u))
      ((s.recordsKept_modifyStatus u _).trans ((s.unlocked u).recordsKept_desireStep u)) (k.unlock hl h.1) h
    release := fun {s u} hc h => keep
      ((s.slotsKeep_forceRelease u).trans ((s.forceRelease u).slotsKeep_settleLevel u _))
      ((s.narrows_forceRelease u).recordsKept.trans ((s.forceRelease u).recordsKept_settleLevel u _))
      (k.release hc h.1) h
    install := fun {s u r} hnone hv h => ⟨k.install hnone hv h.1, fun i p hp hsp => by
      rw [s.install_slots u r] at hp
      have hu := (State.tables_of_sound h.1).noPermit_of_noRecord hnone hp
      rw [State.cls, State.record, (s.install_keepsOthers u r) _ hu]
      exact h.2 i p hp hsp⟩
    change := fun {s u old r} hold hst hv hrat h =>
      ⟨k.change hold hst hv hrat h.1, State.classZeroSpared_changeRecord h.1 h.2 hold hv hrat⟩
    site := fun {s r m} h1 h2 h => keep (s := s) (t := s.withSite r m) (.of_slots rfl) (.of_units rfl) (k.site h1 h2 h.1) h
    stop := fun {s u r} stages hr h => ⟨k.stop stages hr h.1, State.classZeroSpared_of
      (C := fun v => v = u ∧ r.spared = true) h.2
      ((State.slotsKeep_enterStop (fun hsp => ⟨rfl, hsp⟩) stages).trans ((s.enterStop u r stages).slotsKeep_settleLevel u _))
      (fun v hv => hv.1 ▸ hr hv.2) (k.stop stages hr h.1)
      ((s.narrows_enterStop u r stages).recordsKept.trans ((s.enterStop u r stages).recordsKept_settleLevel u _))⟩
    settle := fun {s} i h => keep (s.slotsKeep_settleExpiry i) (.of_units (s.settleExpiry_units i)) (k.settle i h.1) h
    minRun := fun {s} i h => keep (s.slotsKeep_minRunExpiry i) (.of_units (s.minRunExpiry_units i)) (k.minRun i h.1) h
    draining := fun {s} i h => keep (s.slotsKeep_drainingExpiry i) (s.recordsKept_drainingExpiry i) (k.draining i h.1) h
    rotation := fun {s} i h => keep (s.slotsKeep_rotationExpiry i) (.of_units (s.rotationExpiry_units i))
      (k.rotation i h.1) h
    compliance := fun {s} i h => keep (s.slotsKeep_complianceExpiry i) (s.recordsKept_complianceExpiry i)
      (k.compliance i h.1) h
    minOff := fun {s} i h => keep (s.slotsKeep_minOffExpiry i) (s.recordsKept_minOffExpiry i) (k.minOff i h.1) h
    slotTick := fun {s} h => keep s.slotsKeep_takeCounters (.of_units (s.takeCounters_units)) (k.slotTick h.1) h
    holdTick := fun {s} h => keep (s := s) (t := s.takePart .restartHold) (.of_slots rfl) (.of_units rfl) (k.holdTick h.1) h
    gateTick := fun {s} h => keep (s := s) (t := s.takePart .startGate) (.of_slots rfl) (.of_units rfl) (k.gateTick h.1) h
    holdEnd := fun {s} h => keep (s := s) (t := { s with hold := .ended, startGate := .opened }) (.of_slots rfl)
      (.of_units rfl) (k.holdEnd h.1) h
    close := fun {s} h => keep (s := s) (.of_slots (State.raiseIf_slots (s.modifyMeter (Meter.close s.site)) _ _))
      (.of_units s.closeSubinterval_units) (k.close h.1) h
    missOf := fun {s} u h => keep (s.slotsKeep_missOf u) (s.recordsKept_missOf u) (k.missOf u h.1) h
    hear := fun {s} u h => keep (.of_slots (s.hear_slots u)) (s.recordsKept_hear u) (k.hear u h.1) h
    transaction := fun {s} h => keep (s := s) (.of_slots (by rw [State.nextTransaction_link]))
      (.of_units (by rw [State.nextTransaction_link])) (k.transaction h.1) h
    reinit := fun {s site units} n hc hl h => ⟨k.reinit n hc hl h.1, fun i p hp => by
      have hfree : (s.reinitialise site units n).slots[i] = .free := by
        show (Vector.replicate 96 Slot.free)[i] = .free
        rw [Fin.getElem_fin, Vector.getElem_replicate]
      rw [hfree] at hp
      cases hp⟩ }

/-- Settles O58: minimum runs and reasons are kept slot by slot; a reason that spares class 0 comes from a shed action alone. -/
theorem stopRulesStayKept : Obligations.StopRulesStayKept :=
  ⟨fun _ _ h ht => State.kept_stopRules.step h ht, fun _ _ h ht => (State.kept_classZero.step h.symm ht).2⟩

end

end Sys2Proof.Machine


/-! The start gate with the restart hold, and the published demand with the ring, kept by every step (R61, R79, R98). -/

namespace Sys2Proof.Machine

/-- A state that keeps the Meter Interface, the site record and the hold, and whose start gate closes by a grant alone. -/
structure State.Steady (s t : State) : Prop where
  base : s.SameBase t
  gate : t.startGate = s.startGate ∨ s.startGate = .opened ∧ ∃ n, t.startGate = .counting n

section

variable {s t : State} {u : UnitNo}

theorem State.Steady.refl (s : State) : s.Steady s := ⟨.refl s, .inl rfl⟩

theorem State.Steady.trans {r : State} (h : s.Steady t) (k : t.Steady r) : s.Steady r := by
  refine ⟨h.base.trans k.base, ?_⟩
  rcases k.gate with k | ⟨k, hk⟩
  · rw [k]; exact h.gate
  · rcases h.gate with h | ⟨-, n, h⟩
    · exact .inr ⟨h ▸ k, hk⟩
    · rw [h] at k; cases k

theorem State.Aside.steady (h : State.Aside u s t) : s.Steady t := ⟨h.base, .inl h.startGate⟩

theorem State.QueueStep.steady (h : s.QueueStep t) : s.Steady t := by
  obtain ⟨b, q, rfl | ⟨e, he, rfl⟩⟩ := h
  · exact ⟨(s.raiseIf_base b _).trans (State.withQueue_base _ _), .inl (s.raiseIf_aside 0 b _).startGate⟩
  · obtain ⟨-, hopen, hfree, -⟩ := s.obstacle_none he
    refine ⟨((s.raiseIf_base b _).trans (State.createGrant_base _ _)).trans (State.withQueue_base _ _), .inr ⟨hopen, ?_⟩⟩
    have hfl : (s.raiseIf b .queueFull).freeList = s.freeList := by cases b <;> rfl
    obtain ⟨i, rest, hf⟩ := List.exists_cons_of_ne_nil hfree
    show ∃ n, ((s.raiseIf b .queueFull).createGrant e.unit).startGate = .counting n
    generalize s.raiseIf b .queueFull = r at hfl
    rw [r.createGrant_cons e.unit (hfl.trans hf)]
    exact ⟨_, ((State.onChannelOf_aside _ e.unit _).startGate.trans (State.joinUrgent_aside _ e.unit).startGate)⟩

theorem State.steady_desireStep (s : State) (u : UnitNo) : s.Steady (s.desireStep u) := (s.desireStep_queueStep u).steady

theorem State.steady_admissionPass (s : State) : s.Steady s.admissionPass :=
  State.QueueStep.steady (s.admissionPass_queueStep false s.queue)

theorem State.steady_settleLevel (s : State) (u : UnitNo) (n : Nat) : s.Steady (s.settleLevel u n) := by
  have h := (s.handOver_aside u n).steady
  unfold State.settleLevel
  dsimp only
  split
  · exact h.trans (State.steady_desireStep _ u)
  · exact h

theorem State.steady_install (s : State) (u : UnitNo) (r : UnitRecord) : s.Steady (s.install u r) :=
  ⟨s.install_base u r, .inl (State.onChannelOf_aside _ u _).startGate⟩

theorem State.steady_changeRecord (s : State) (u : UnitNo) (old r : UnitRecord) : s.Steady (s.changeRecord u old r) := by
  refine ⟨s.changeRecord_base u old r, ?_⟩
  have hclass : ((s.replaceRecord u r).changeClass u old.cls r.cls).startGate = s.startGate := by
    unfold State.changeClass State.moveByClass
    dsimp only
    split
    · rfl
    · split
      · split
        · exact (State.spareClassZero_aside _ u).startGate
        · rfl
      · split
        · exact (State.spareClassZero_aside _ u).startGate
        · rfl
  unfold State.changeRecord State.clampWanted
  generalize (s.replaceRecord u r).changeClass u old.cls r.cls = t at hclass
  split
  · split
    · rw [State.rewant_eq, ← hclass]
      exact (State.steady_admissionPass (t.withQueue _)).gate
    · exact .inl hclass
  · exact .inl hclass

theorem State.steady_modifySlot (s : State) (i : SlotNo) (f : Slot → Slot) : s.Steady (s.modifySlot i f) :=
  (s.modifySlot_aside 0 i f).steady

theorem State.steady_missOf (s : State) (u : UnitNo) : s.Steady (s.missOf u) := by
  unfold State.missOf
  split
  · unfold State.miss
    dsimp only
    have h := (s.modifyStatus_aside u fun st => { st with misses := min Config.nibbleMax ((s.status u).misses + 1) }).steady
    generalize (s.modifyStatus u fun st => { st with misses := min Config.nibbleMax ((s.status u).misses + 1) }) = t at h
    split
    · exact h.trans (((t.modifyStatus_aside u _).trans (State.raise_aside _ u _)).steady.trans (State.steady_desireStep _ u))
    · exact h
  · exact .refl s

/-- What a steady state keeps, every step keeps that moves the gate, the hold, the site record and the ring rightly. -/
theorem Kept.of_steady {I : State → Prop} (keep : ∀ {s t : State}, s.Steady t → I s → I t)
    (framed : ∀ {s t : State}, s.Framed t → I s → I t)
    (site : ∀ {s : State} {r : SiteRecord} {m : Meter}, (s.site.valid = true → r.valid = true) →
      (r.subCount = s.site.subCount ∧ r.subLength = s.site.subLength ∧ m.ring = s.meter.ring ∧ m.rolling = s.meter.rolling
        ∨ m.ring = [] ∧ m.rolling = 0) → I s → I (s.withSite r m))
    (holdTick : ∀ {s : State}, I s → I (s.takePart .restartHold))
    (gateTick : ∀ {s : State}, I s → I (s.takePart .startGate))
    (holdEnd : ∀ {s : State}, I s → I { s with hold := .ended, startGate := .opened })
    (close : ∀ {s : State}, I s → I s.closeSubinterval)
    (reinit : ∀ {s : State} {site : SiteRecord} {units : Vector UnitEntry 36} (n : BitVec 16),
      I s → I (s.reinitialise site units n)) : Kept I where
  framed := framed
  pass {s} := keep s.steady_admissionPass
  desire {s} u := keep (s.steady_desireStep u)
  request {s} u d r c := keep ((s.requested_aside u d r c).steady.trans ((s.requested u d r c).steady_desireStep u))
  windDown {s u st r} _ _ _ _ := keep ((s.woundDown_aside u st r).steady.trans ((s.woundDown u st r).steady_desireStep u))
  retire {s} u := keep (s.retireIfEmpty_aside u).steady
  unlock {s u} _ := keep ((s.modifyStatus_aside u _).steady.trans ((s.unlocked u).steady_desireStep u))
  release {s u} _ := keep ((s.forceRelease_aside u).steady.trans ((s.forceRelease u).steady_settleLevel u _))
  install {s u r} _ _ := keep (s.steady_install u r)
  change {s u old r} _ _ _ _ := keep (s.steady_changeRecord u old r)
  site := site
  stop {s u r} stages _ := keep ((s.enterStop_aside u r stages).steady.trans ((s.enterStop u r stages).steady_settleLevel u _))
  settle {s} i := keep (by
    unfold State.settleExpiry
    split
    · exact s.steady_modifySlot i _
    · exact .refl s)
  minRun {s} i := keep (by
    unfold State.minRunExpiry
    split
    · exact s.steady_modifySlot i _
    · exact .refl s)
  draining {s} i := keep (by
    unfold State.drainingExpiry
    split
    · next p _ =>
      exact ((s.steady_modifySlot i _).trans (State.topOrder_aside _ p.unit).steady).trans (State.steady_settleLevel _ p.unit _)
    · exact .refl s)
  rotation {s} i := keep (by
    unfold State.rotationExpiry
    split
    · split
      · exact s.steady_modifySlot i _
      · exact .refl s
    · exact .refl s)
  compliance {s} i := keep (by
    unfold State.complianceExpiry
    split
    · next p _ =>
      exact (s.steady_modifySlot i _).trans
        ((State.modifyStatus_aside _ p.unit _).trans (State.raise_aside _ p.unit _)).steady
    · exact .refl s)
  minOff {s} i := keep (by
    unfold State.minOffExpiry
    split
    · next p _ => exact (s.freeSlot_aside p.unit i).steady
    · exact .refl s)
  slotTick {s} := keep (by
    unfold State.takePart
    exact ⟨⟨rfl, rfl, rfl, rfl, rfl, rfl, rfl, rfl, rfl, rfl⟩, .inl rfl⟩)
  holdTick := holdTick
  gateTick := gateTick
  holdEnd := holdEnd
  close := close
  missOf {s} u := keep (s.steady_missOf u)
  hear {s} u := keep (s.hear_aside u).steady
  transaction {s} := keep ⟨s.nextTransaction_base, .inl (by rw [State.nextTransaction_link])⟩
  reinit n _ _ := reinit n

/-! ### The start gate and the hold (R61, R98) -/

theorem State.holdAgrees_of (h : s.holdAgrees) (hg : t.startGate = .held ↔ s.startGate = .held)
    (hh : t.holdRunning = s.holdRunning) : t.holdAgrees := by
  unfold State.holdAgrees
  rw [hg, hh]
  exact h

theorem State.holdRunning_congr (h : t.hold = s.hold) : t.holdRunning = s.holdRunning := by
  rw [State.holdRunning, h]; rfl

theorem State.Steady.held (h : s.Steady t) : t.startGate = .held ↔ s.startGate = .held := by
  rcases h.gate with hg | ⟨hs, n, ht⟩
  · rw [hg]
  · rw [hs, ht]
    exact iff_of_false (fun h => by cases h) (fun h => by cases h)

theorem State.kept_holdAgrees : Kept State.holdAgrees := by
  refine Kept.of_steady (fun h hs => State.holdAgrees_of hs h.held (State.holdRunning_congr h.base.hold))
    (fun h hs => State.holdAgrees_of hs (by rw [h.startGate]) (State.holdRunning_congr h.hold)) (fun _ _ hs => hs)
    (fun {s} hs => State.holdAgrees_of (t := s.takePart .restartHold) hs Iff.rfl ?_)
    (fun {s} hs => State.holdAgrees_of (t := s.takePart .startGate) hs ?_ rfl)
    (fun _ => iff_of_false (fun h => by cases h) (fun h => by cases h)) (fun {s} hs => ?_) (fun {s site units} n _ => ?_)
  · show decide (s.hold.tick ≠ .ended) = decide (s.hold ≠ .ended)
    cases s.hold <;> rfl
  · show s.startGate.tick = .held ↔ s.startGate = .held
    cases s.startGate with
    | counting n =>
      have hne : (StartGate.counting n).tick ≠ .held := by
        show (if n ≤ 1 then StartGate.opened else .counting (n - 1)) ≠ .held
        split <;> exact fun h => by cases h
      exact iff_of_false hne (fun h => by cases h)
    | opened => exact Iff.rfl
    | held => exact Iff.rfl
  · refine State.holdAgrees_of hs ?_ (State.holdRunning_congr ?_)
    · rw [State.closeSubinterval, (State.raiseIf_aside _ 0 _ _).startGate]; rfl
    · exact (State.raiseIf_base (s.modifyMeter (Meter.close s.site)) _ _).hold
  · show site.startGate = .held ↔ decide (site.startHold ≠ .ended) = true
    unfold SiteRecord.startGate SiteRecord.startHold
    split
    · exact iff_of_false (fun h => by cases h) (fun h => by simp at h)
    · exact iff_of_true rfl (by simp)

/-! ### The ring and the published demand (R79) -/

theorem State.ringSound_of (h : s.ringSound) (hr : t.meter.ring = s.meter.ring) (hp : t.meter.rolling = s.meter.rolling)
    (hc : t.site.subCount = s.site.subCount) (hl : t.site.subLength = s.site.subLength) : t.ringSound := by
  unfold State.ringSound SiteRecord.rollingOf SiteRecord.window
  rw [hr, hp, hc, hl]
  exact h

theorem State.ringSound_empty (hr : s.meter.ring = []) (hp : s.meter.rolling = 0) : s.ringSound := by
  unfold State.ringSound SiteRecord.rollingOf
  rw [hr, hp]
  exact ⟨Nat.zero_le _, by simp⟩

theorem State.kept_ringSound : Kept State.ringSound := by
  refine Kept.of_steady (fun h hs => State.ringSound_of hs (by rw [h.base.meter]) (by rw [h.base.meter])
      (by rw [h.base.site]) (by rw [h.base.site]))
    (fun h hs => ?_) (fun {s r m} _ h hs => ?_) (fun hs => hs) (fun hs => hs) (fun hs => hs) (fun {s} _ => ?_)
    (fun _ _ => State.ringSound_empty rfl rfl)
  · rcases h.ring with ⟨h1, h2⟩ | ⟨h1, h2⟩
    · exact State.ringSound_of hs h1 h2 (by rw [h.site]) (by rw [h.site])
    · exact State.ringSound_empty h1 h2
  · rcases h with ⟨h1, h2, h3, h4⟩ | ⟨h1, h2⟩
    · exact State.ringSound_of (t := s.withSite r m) hs h3 h4 h1 h2
    · exact State.ringSound_empty h1 h2
  · have hbase := State.raiseIf_base (s.modifyMeter (Meter.close s.site))
      (decide ((s.modifyMeter (Meter.close s.site)).site.limit < (s.modifyMeter (Meter.close s.site)).meter.rolling))
      .limitExceeded
    have hclosed : (s.modifyMeter (Meter.close s.site)).ringSound := ⟨List.length_take_le _ _, rfl⟩
    exact State.ringSound_of hclosed (by rw [← hbase.meter]; rfl) (by rw [← hbase.meter]; rfl) (by rw [← hbase.site]; rfl)
      (by rw [← hbase.site]; rfl)

end

end Sys2Proof.Machine


/-! The urgent list holds configured linked units, each once, after every step (R156). -/

namespace Sys2Proof.Machine

section

variable {s t : State} {u : UnitNo}

theorem State.urgentSound_of (h : s.urgentSound) (hl : t.link.urgent.Sublist s.link.urgent)
    (hc : ∀ v ∈ t.link.urgent, s.configured v = true → t.configured v = true) : t.urgentSound :=
  ⟨h.1.sublist hl, fun v hv => ⟨(h.2 v (hl.subset hv)).1, hc v hv (h.2 v (hl.subset hv)).2⟩⟩

theorem State.urgentSound_congr (h : s.urgentSound) (hl : t.link.urgent = s.link.urgent) (hu : t.units = s.units) :
    t.urgentSound :=
  State.urgentSound_of h (hl ▸ List.Sublist.refl _) fun v _ hc => by
    rw [State.configured, State.status, hu]; exact hc

theorem State.urgentSound_modifyStatus (h : s.urgentSound) {f : UnitStatus → UnitStatus}
    (hf : (s.status u).state ≠ .unconfigured → (f (s.status u)).state ≠ .unconfigured) :
    (s.modifyStatus u f).urgentSound := by
  refine State.urgentSound_of (t := s.modifyStatus u f) h (List.Sublist.refl _) fun v _ hc => ?_
  rw [State.configured, decide_eq_true_eq] at hc ⊢
  by_cases hv : v = u
  · subst hv
    rw [s.status_modifyStatus_same]
    exact hf hc
  · rw [s.status_modifyStatus_other f (Ne.symm hv)]
    exact hc

theorem State.urgentSound_joinUrgent (h : s.urgentSound) (u : UnitNo) : (s.joinUrgent u).urgentSound := by
  unfold State.joinUrgent
  split
  · exact h
  · next hno =>
    rw [Bool.or_eq_true, Bool.or_eq_true, not_or, not_or] at hno
    obtain ⟨⟨hw, hc⟩, hnew⟩ := hno
    have hw : isWired u = false := (Bool.not_eq_true _).mp hw
    have hc : s.configured u = true := by simpa using hc
    have hnew : u ∉ s.link.urgent := fun hu => hnew (List.contains_iff_mem.mpr hu)
    refine ⟨?_, fun v hv => ?_⟩
    · show (s.link.urgent ++ [u]).Nodup
      rw [List.nodup_append]
      exact ⟨h.1, List.nodup_singleton u, fun a ha b hb => by
        rw [List.mem_singleton] at hb
        rintro rfl
        exact hnew (hb ▸ ha)⟩
    · rcases List.mem_append.mp (show v ∈ s.link.urgent ++ [u] from hv) with hv | hv
      · exact h.2 v hv
      · rw [List.mem_singleton] at hv
        rw [hv]
        exact ⟨hw, hc⟩

theorem State.urgentSound_handOver (h : s.urgentSound) (u : UnitNo) (n : Nat) : (s.handOver u n).urgentSound := by
  unfold State.handOver
  split
  · exact h
  · exact State.urgentSound_joinUrgent h u

theorem State.urgentSound_completeRetirement (h : s.urgentSound) (u : UnitNo) : (s.completeRetirement u).urgentSound := by
  have hlink : (s.completeRetirement u).link.urgent = s.link.urgent.filter fun v => decide (v ≠ u) := by
    unfold State.completeRetirement State.onChannelOf
    split <;> rfl
  refine State.urgentSound_of h (hlink ▸ List.filter_sublist) fun v hv hc => ?_
  rw [hlink] at hv
  have hvu : v ≠ u := of_decide_eq_true (List.mem_filter.mp hv).2
  rw [State.configured, State.status, State.completeRetirement_units, if_neg hvu]
  exact hc

theorem State.urgentSound_retireIfEmpty (h : s.urgentSound) (u : UnitNo) : (s.retireIfEmpty u).urgentSound := by
  unfold State.retireIfEmpty
  split
  · exact State.urgentSound_completeRetirement h u
  · exact h

theorem State.urgentSound_freeSlot (h : s.urgentSound) (u : UnitNo) (i : SlotNo) : (s.freeSlot u i).urgentSound := by
  rw [State.freeSlot_eq]
  refine State.urgentSound_retireIfEmpty (s := { s with slots := s.slots.set i .free, freeList := s.freeList ++ [i] }) ?_ u
  exact State.urgentSound_congr (s := s) h rfl rfl

theorem State.urgentSound_modifySlot (h : s.urgentSound) (i : SlotNo) (f : Slot → Slot) : (s.modifySlot i f).urgentSound :=
  State.urgentSound_congr (s := s) (t := s.modifySlot i f) h rfl rfl

theorem State.urgentSound_restSlot (h : s.urgentSound) (u : UnitNo) (i : SlotNo) : (s.restSlot u i).urgentSound := by
  unfold State.restSlot
  split
  · exact State.urgentSound_freeSlot h u i
  · exact State.urgentSound_modifySlot h i _

theorem State.urgentSound_stopSlot (h : s.urgentSound) (u : UnitNo) (i : SlotNo) : (s.stopSlot u i).urgentSound := by
  unfold State.stopSlot
  split
  · exact State.urgentSound_restSlot h u i
  · exact State.urgentSound_modifySlot h i _

theorem State.urgentSound_foldl {α : Type} {f : State → α → State}
    (hf : ∀ (t : State) (a : α), t.urgentSound → (f t a).urgentSound) (l : List α) :
    ∀ s : State, s.urgentSound → (l.foldl f s).urgentSound := by
  induction l with
  | nil => exact fun _ h => h
  | cons a l ih => exact fun s h => ih _ (hf s a h)

theorem State.urgentSound_settleCompliance (h : s.urgentSound) (u : UnitNo) : (s.settleCompliance u).urgentSound := by
  unfold State.settleCompliance
  split
  · exact h
  · exact State.urgentSound_modifyStatus h id

theorem State.urgentSound_descend (u : UnitNo) (n : Nat) : ∀ s : State, s.urgentSound → (s.descend n u).urgentSound := by
  induction n with
  | zero => exact fun _ h => h
  | succ n ih =>
    intro s h
    rcases s.descend_cases u n with hd | ⟨i, -, -, -, -, -, -, hd⟩ <;> rw [hd]
    · exact h
    · exact ih _ (State.urgentSound_stopSlot h u i)

theorem State.urgentSound_topOrder (h : s.urgentSound) (u : UnitNo) : (s.topOrder u).urgentSound :=
  State.urgentSound_descend u 4 s h

theorem State.urgentSound_withSlots (h : s.urgentSound) (v : Vector Slot 96) : (s.withSlots v).urgentSound :=
  State.urgentSound_congr (s := s) h rfl rfl

theorem State.urgentSound_mapSlots (h : s.urgentSound) (c : SlotNo → Bool) (f : Slot → Slot) :
    (s.mapSlots c f).urgentSound := State.urgentSound_withSlots h _

theorem State.urgentSound_enterStop (h : s.urgentSound) (u : UnitNo) (r : StopReason) (stages : Nat → Bool) :
    (s.enterStop u r stages).urgentSound := by
  have hd : (s.drained u r stages).urgentSound := State.urgentSound_congr h rfl (s.withSlots_units _)
  rw [State.enterStop_eq]
  generalize s.drained u r stages = t at hd
  exact State.urgentSound_topOrder hd u

theorem State.urgentSound_restAll (h : s.urgentSound) (u : UnitNo) (l : List SlotNo) : (s.restAll u l).urgentSound := by
  unfold State.restAll
  exact State.urgentSound_foldl (fun _ i ht => State.urgentSound_restSlot ht u i) l s h

theorem State.urgentSound_trip (h : s.urgentSound) (u : UnitNo) : (s.trip u).urgentSound := by
  rw [State.trip_eq]
  refine State.urgentSound_handOver (State.urgentSound_topOrder (State.urgentSound_settleCompliance ?_ u) u) u _
  unfold State.trippedDown
  refine State.urgentSound_restAll ?_ u _
  exact State.urgentSound_foldl (fun _ i ht => State.urgentSound_modifySlot ht i _) _ s h

theorem State.urgentSound_complete (h : s.urgentSound) (u : UnitNo) (r : Nat) : (s.complete u r).urgentSound :=
  State.urgentSound_settleCompliance (State.urgentSound_restAll h u _) u

theorem State.urgentSound_takeFree {sl : Slot} (h : s.urgentSound) (ht : s.takeFree sl = some t) : t.urgentSound := by
  unfold State.takeFree at ht
  split at ht
  · cases ht
  · cases ht
    exact State.urgentSound_congr (s := s) h rfl rfl

theorem State.urgentSound_adopt (u : UnitNo) (l : List Nat) : ∀ s : State, s.urgentSound → (s.adopt u l).urgentSound := by
  induction l with
  | nil => exact fun _ h => h
  | cons k l ih =>
    intro s h
    unfold State.adopt
    split
    · exact ih _ (State.urgentSound_modifySlot h _ _)
    · dsimp only
      split
      · next t ht => exact ih t (State.urgentSound_takeFree h ht)
      · exact State.urgentSound_congr (s := s) h rfl rfl

theorem State.urgentSound_adoptStages (h : s.urgentSound) (u : UnitNo) (l r : Nat) : (s.adoptStages u l r).urgentSound := by
  rw [State.adoptStages_eq]
  have hadopt := State.urgentSound_settleCompliance (State.urgentSound_adopt u ((List.range r).drop l) s h) u
  dsimp only
  generalize (s.adopt u ((List.range r).drop l)).settleCompliance u = t at hadopt
  have hstop : (t.stopAdopted u l).urgentSound := by
    unfold State.stopAdopted
    split
    · exact State.urgentSound_enterStop hadopt u _ _
    · exact hadopt
  split
  · exact hstop
  · exact State.urgentSound_joinUrgent hstop u

theorem State.urgentSound_unpermitted (h : s.urgentSound) (u : UnitNo) (l : List Nat) : (s.unpermitted u l).urgentSound := by
  have hone (t : State) (k : Nat) (ht : t.urgentSound) : (t.recordUnpermitted u k).1.urgentSound := by
    rcases t.recordUnpermitted_cases u k with ⟨i, p, -, -, -, h⟩ | ⟨i, p, -, -, -, h⟩ | ⟨r, -, hr, h⟩ | ⟨-, -, h⟩ <;> rw [h]
    · exact State.urgentSound_modifySlot ht i _
    · exact ht
    · exact State.urgentSound_takeFree ht hr
    · exact ht
  have hall : ∀ (l : List Nat) (t : State), t.urgentSound → (t.recordAllUnpermitted u l).1.urgentSound := by
    intro l
    induction l with
    | nil => exact fun _ h => h
    | cons k l ih => exact fun t ht => ih _ (hone t k ht)
  refine State.urgentSound_congr (hall l s h) ?_ ?_ <;> unfold State.unpermitted <;> dsimp only <;>
    cases (s.recordAllUnpermitted u l).2 <;> rfl

theorem State.urgentSound_applyRunning (h : s.urgentSound) (u : UnitNo) : (s.applyRunning u).urgentSound := by
  rw [State.applyRunning_eq]
  have hc := State.urgentSound_complete h u (s.runningLevel u)
  dsimp only
  generalize s.complete u (s.runningLevel u) = t at hc
  split
  · have hf : (t.findRunning u (s.runningLevel u)).urgentSound := by
      unfold State.findRunning
      split
      · split
        · exact State.urgentSound_adoptStages hc u _ _
        · exact State.urgentSound_unpermitted hc u _
      · exact hc
    exact State.urgentSound_modifyStatus hf id
  · exact hc

theorem State.urgentSound_applyDesired (h : s.urgentSound) (u : UnitNo) : (s.applyDesired u).urgentSound := by
  unfold State.applyDesired
  split
  · have hr : (s.restoreBelow u (s.effectiveDesired u)).urgentSound := by
      rw [State.restoreBelow_eq]
      exact State.urgentSound_mapSlots h _ _
    dsimp only
    generalize s.restoreBelow u (s.effectiveDesired u) = t at hr
    unfold State.releaseFrom
    dsimp only
    split
    · exact State.urgentSound_handOver (State.urgentSound_enterStop hr u _ _) u _
    · exact hr
  · exact h

theorem State.urgentSound_requested (h : s.urgentSound) (u : UnitNo) (d r : Nat) (c : Condition) :
    (s.requested u d r c).urgentSound := by
  unfold State.requested
  extract_lets s1 s2 s3
  have h1 : s1.urgentSound := State.urgentSound_modifyStatus h id
  have h2 : s2.urgentSound := by
    dsimp only [s2]; split
    · exact State.urgentSound_trip h1 u
    · exact h1
  have h3 : s3.urgentSound := by
    dsimp only [s3]; split
    · exact State.urgentSound_applyRunning h2 u
    · exact h2
  exact State.urgentSound_applyDesired h3 u

theorem State.urgentSound_woundDown (h : s.urgentSound) (u : UnitNo) {st : UnitState} (hst : st ≠ .unconfigured)
    (r : StopReason) : (s.woundDown u st r).urgentSound := by
  unfold State.woundDown
  have h1 : (s.modifyStatus u fun x => { x with state := st }).urgentSound :=
    State.urgentSound_modifyStatus h fun _ => hst
  refine State.urgentSound_handOver (State.urgentSound_enterStop ?_ u r _) u _
  rw [State.replaceDraining_eq]
  exact State.urgentSound_mapSlots h1 _ _

theorem State.urgentSound_forceRelease (h : s.urgentSound) (u : UnitNo) : (s.forceRelease u).urgentSound := by
  rw [State.forceRelease_eq]
  refine State.urgentSound_settleCompliance (State.urgentSound_foldl (fun t i ht => ?_) _ _ ?_) u
  · exact State.urgentSound_stopSlot (State.urgentSound_modifySlot ht i _) u i
  · exact State.urgentSound_restAll h u _

theorem State.urgentSound_onChannelOf (h : s.urgentSound) (u : UnitNo) (f : Channel → Channel) :
    (s.onChannelOf u f).urgentSound := by
  unfold State.onChannelOf
  split
  · exact State.urgentSound_congr (s := s) h rfl rfl
  · exact h

theorem State.urgentSound_createGrant (h : s.urgentSound) (u : UnitNo) : (s.createGrant u).urgentSound := by
  cases hf : s.freeList with
  | nil => rw [s.createGrant_nil u hf]; exact h
  | cons i rest =>
    rw [s.createGrant_cons u hf]
    have hp : (s.placeGrant u i rest).urgentSound := State.urgentSound_congr (s := s) h rfl rfl
    exact State.urgentSound_onChannelOf (State.urgentSound_joinUrgent hp u) u _

theorem State.QueueStep.urgentSound (h : s.QueueStep t) (hs : s.urgentSound) : t.urgentSound := by
  have hraise (b : Bool) : (s.raiseIf b .queueFull).urgentSound := by cases b <;> exact hs
  obtain ⟨b, q, rfl | ⟨e, -, rfl⟩⟩ := h
  · exact State.urgentSound_congr (s := s.raiseIf b .queueFull) (hraise b) rfl rfl
  · exact State.urgentSound_congr (s := (s.raiseIf b .queueFull).createGrant e.unit)
      (State.urgentSound_createGrant (hraise b) e.unit) rfl rfl

theorem State.urgentSound_desireStep (h : s.urgentSound) (u : UnitNo) : (s.desireStep u).urgentSound :=
  (s.desireStep_queueStep u).urgentSound h

theorem State.urgentSound_admissionPass (h : s.urgentSound) : s.admissionPass.urgentSound :=
  State.QueueStep.urgentSound (s.admissionPass_queueStep false s.queue) h

theorem State.urgentSound_settleLevel (h : s.urgentSound) (u : UnitNo) (n : Nat) : (s.settleLevel u n).urgentSound := by
  have hh := State.urgentSound_handOver h u n
  unfold State.settleLevel
  dsimp only
  split
  · exact State.urgentSound_desireStep hh u
  · exact hh

/-- A unit's new entry, of a unit that is configured with it. -/
theorem State.urgentSound_withEntry (h : s.urgentSound) (u : UnitNo) {e : UnitEntry}
    (he : (s.status u).state ≠ .unconfigured → e.status.state ≠ .unconfigured) : (s.withEntry u e).urgentSound := by
  refine State.urgentSound_of (t := s.withEntry u e) h (List.Sublist.refl _) fun v _ hc => ?_
  have hunit : (s.withEntry u e).units[v] = if v = u then e else s.units[v] := getElem_set_eq s.units u v e
  rw [State.configured, decide_eq_true_eq] at hc ⊢
  rw [State.status, hunit]
  split
  · next hv => subst hv; exact he hc
  · exact hc

theorem State.urgentSound_changeRecord (h : s.urgentSound) (u : UnitNo) (old r : UnitRecord) :
    (s.changeRecord u old r).urgentSound := by
  have hreplace : (s.replaceRecord u r).urgentSound := State.urgentSound_withEntry h u (e := s.units[u].replaced r) id
  have hmove {t : State} (ht : t.urgentSound) (n : Nat) : (t.moveByClass u n).urgentSound := by
    unfold State.moveByClass
    split
    · exact State.urgentSound_congr (s := t) ht rfl rfl
    · exact ht
  have hclass : ((s.replaceRecord u r).changeClass u old.cls r.cls).urgentSound := by
    unfold State.changeClass
    dsimp only
    split
    · exact hreplace
    · split
      · refine hmove ?_ _
        rw [State.spareClassZero_eq]
        exact State.urgentSound_mapSlots hreplace _ _
      · exact hmove hreplace _
  unfold State.changeRecord State.clampWanted
  generalize (s.replaceRecord u r).changeClass u old.cls r.cls = t at hclass
  split
  · split
    · rw [State.rewant_eq]
      exact State.urgentSound_admissionPass (State.urgentSound_congr (s := t) hclass rfl rfl)
    · exact hclass
  · exact hclass

theorem State.urgentSound_missOf (h : s.urgentSound) (u : UnitNo) : (s.missOf u).urgentSound := by
  unfold State.missOf
  split
  · unfold State.miss
    dsimp only
    have hm : (s.modifyStatus u fun st => { st with misses := min Config.nibbleMax ((s.status u).misses + 1) }).urgentSound :=
      State.urgentSound_modifyStatus h id
    generalize (s.modifyStatus u fun st => { st with misses := min Config.nibbleMax ((s.status u).misses + 1) }) = t at hm
    split
    · have hl : (t.modifyStatus u fun st => { st with link := .silent }).urgentSound := State.urgentSound_modifyStatus hm id
      refine State.urgentSound_desireStep ?_ u
      generalize (t.modifyStatus u fun st => { st with link := .silent }) = r at hl
      exact State.urgentSound_congr (s := r) hl rfl rfl
    · exact hm
  · exact h

theorem State.urgentSound_hear (h : s.urgentSound) (u : UnitNo) : (s.hear u).urgentSound := by
  unfold State.hear
  dsimp only
  have hm : (s.modifyStatus u fun st => { st with misses := 0 }).urgentSound := State.urgentSound_modifyStatus h id
  generalize (s.modifyStatus u fun st => { st with misses := 0 }) = t at hm
  split
  · have hl : (t.modifyStatus u fun st => { st with link := .heard, window := .opened }).urgentSound :=
      State.urgentSound_modifyStatus hm id
    generalize (t.modifyStatus u fun st => { st with link := .heard, window := .opened }) = r at hl
    exact State.urgentSound_congr (s := r) hl rfl rfl
  · exact hm

theorem State.chooseRoundEnd_urgent (s : State) : s.chooseRoundEnd.urgent.Sublist s.link.urgent := by
  unfold State.chooseRoundEnd
  split
  · exact List.Sublist.refl _
  · split <;> exact List.Sublist.refl _

theorem State.chooseWrap_urgent (s : State) : s.chooseWrap.urgent.Sublist s.link.urgent := by
  unfold State.chooseWrap State.chooseRingStart
  split
  · exact List.Sublist.refl _
  · split <;> exact List.Sublist.refl _

theorem State.choose_urgent (s : State) : s.choose.urgent.Sublist s.link.urgent := by
  unfold State.choose
  split
  · next h => rw [h]; exact List.sublist_cons_self _ _
  · split
    · split
      · exact List.nil_sublist _
      · exact s.chooseRoundEnd_urgent
    · split
      · exact List.nil_sublist _
      · exact s.chooseWrap_urgent

theorem State.urgentSound_install (h : s.urgentSound) (u : UnitNo) (r : UnitRecord) : (s.install u r).urgentSound := by
  have he : (s.withEntry u { record := some r, status := .fresh }).urgentSound :=
    State.urgentSound_withEntry h u fun _ h => UnitState.noConfusion h
  exact State.urgentSound_onChannelOf he u Channel.clearCycle

theorem State.urgentSound_unlocked (h : s.urgentSound) (u : UnitNo) : (s.unlocked u).urgentSound :=
  State.urgentSound_modifyStatus h fun _ h => UnitState.noConfusion h

theorem State.urgentSound_nextTransaction (h : s.urgentSound) : s.nextTransaction.urgentSound := by
  refine State.urgentSound_of h ?_ fun v _ hc => ?_
  · unfold State.nextTransaction
    dsimp only
    split <;> exact s.choose_urgent
  · rw [State.configured, State.status, s.nextTransaction_units]
    exact hc

theorem State.urgentSound_settleExpiry (h : s.urgentSound) (i : SlotNo) : (s.settleExpiry i).urgentSound := by
  unfold State.settleExpiry
  split
  · exact State.urgentSound_modifySlot h i _
  · exact h

theorem State.urgentSound_minRunExpiry (h : s.urgentSound) (i : SlotNo) : (s.minRunExpiry i).urgentSound := by
  unfold State.minRunExpiry
  split
  · exact State.urgentSound_modifySlot h i _
  · exact h

theorem State.urgentSound_drainingExpiry (h : s.urgentSound) (i : SlotNo) : (s.drainingExpiry i).urgentSound := by
  unfold State.drainingExpiry
  split
  · next p _ =>
    have hm := State.urgentSound_modifySlot h i fun sl => sl.disarmA.meetMinRun
    generalize (s.modifySlot i fun sl => sl.disarmA.meetMinRun) = t at hm
    exact State.urgentSound_settleLevel (State.urgentSound_topOrder hm p.unit) p.unit _
  · exact h

theorem State.urgentSound_rotationExpiry (h : s.urgentSound) (i : SlotNo) : (s.rotationExpiry i).urgentSound := by
  unfold State.rotationExpiry
  split
  · split
    · exact State.urgentSound_modifySlot h i _
    · exact h
  · exact h

theorem State.urgentSound_complianceExpiry (h : s.urgentSound) (i : SlotNo) : (s.complianceExpiry i).urgentSound := by
  unfold State.complianceExpiry
  split
  · next p _ =>
    have hd := State.urgentSound_modifySlot h i Slot.disarmA
    generalize s.modifySlot i Slot.disarmA = t at hd
    have hm : (t.modifyStatus p.unit fun st => { st with noncompliant := true }).urgentSound :=
      State.urgentSound_modifyStatus hd id
    generalize (t.modifyStatus p.unit fun st => { st with noncompliant := true }) = r at hm
    exact State.urgentSound_congr (s := r) hm rfl rfl
  · exact h

theorem State.urgentSound_minOffExpiry (h : s.urgentSound) (i : SlotNo) : (s.minOffExpiry i).urgentSound := by
  unfold State.minOffExpiry
  split
  · exact State.urgentSound_freeSlot h _ i
  · exact h

theorem State.urgentSound_takeCounters (h : s.urgentSound) : (s.takePart .slotCounters).urgentSound :=
  State.urgentSound_congr h (by unfold State.takePart; rfl) s.takeCounters_units

theorem State.urgentSound_closeSubinterval (h : s.urgentSound) : s.closeSubinterval.urgentSound :=
  State.urgentSound_congr h (by unfold State.closeSubinterval State.raiseIf; dsimp only; split <;> rfl)
    s.closeSubinterval_units

theorem State.urgentSound_requestEvent (h : s.urgentSound) (u : UnitNo) (d r : Nat) (c : Condition) :
    (s.requestEvent u d r c).urgentSound := by
  rw [State.requestEvent_eq]
  exact State.urgentSound_desireStep (State.urgentSound_requested h u d r c) u

theorem State.urgentSound_windDown (h : s.urgentSound) (u : UnitNo) {st : UnitState} (hst : st ≠ .unconfigured)
    (r : StopReason) : (s.windDown u st r).urgentSound := by
  rw [State.windDown_eq]
  exact State.urgentSound_desireStep (State.urgentSound_woundDown h u hst r) u

theorem State.kept_urgentSound : Kept State.urgentSound where
  framed hf h := State.urgentSound_congr h hf.urgent hf.units
  pass {s} h := State.urgentSound_admissionPass (s := s) h
  desire {s} u h := State.urgentSound_desireStep (s := s) h u
  request {s} u d r c h := State.urgentSound_requestEvent (s := s) h u d r c
  windDown {s u _ r} _ _ hst _ h := State.urgentSound_windDown (s := s) h u hst r
  retire {s} u h := State.urgentSound_retireIfEmpty (s := s) h u
  unlock {s u} _ h := State.urgentSound_desireStep (State.urgentSound_unlocked (s := s) h u) u
  release {s u} _ h := State.urgentSound_settleLevel (State.urgentSound_forceRelease (s := s) h u) u (s.level u)
  install {s u r} _ _ h := State.urgentSound_install (s := s) h u r
  change {s u old r} _ _ _ _ h := State.urgentSound_changeRecord (s := s) h u old r
  site {s r m} _ _ h := State.urgentSound_congr (s := s) (t := s.withSite r m) h rfl rfl
  stop {s u r} stages _ h := State.urgentSound_settleLevel (State.urgentSound_enterStop (s := s) h u r stages) u (s.level u)
  settle {s} i h := State.urgentSound_settleExpiry (s := s) h i
  minRun {s} i h := State.urgentSound_minRunExpiry (s := s) h i
  draining {s} i h := State.urgentSound_drainingExpiry (s := s) h i
  rotation {s} i h := State.urgentSound_rotationExpiry (s := s) h i
  compliance {s} i h := State.urgentSound_complianceExpiry (s := s) h i
  minOff {s} i h := State.urgentSound_minOffExpiry (s := s) h i
  slotTick {s} h := State.urgentSound_takeCounters (s := s) h
  holdTick {s} h := State.urgentSound_congr (s := s) (t := s.takePart .restartHold) h rfl rfl
  gateTick {s} h := State.urgentSound_congr (s := s) (t := s.takePart .startGate) h rfl rfl
  holdEnd {s} h := State.urgentSound_congr (s := s) (t := { s with hold := .ended, startGate := .opened }) h rfl rfl
  close {s} h := State.urgentSound_closeSubinterval (s := s) h
  missOf {s} u h := State.urgentSound_missOf (s := s) h u
  hear {s} u h := State.urgentSound_hear (s := s) h u
  transaction {s} h := State.urgentSound_nextTransaction (s := s) h
  reinit _ _ _ _ := ⟨List.nodup_nil, fun _ hu => absurd hu List.not_mem_nil⟩

end

end Sys2Proof.Machine


/-! The free list holds the FREE slots, and a noncompliant unit a permit in STOPPING, after every step (R21, R33). O59. -/

namespace Sys2Proof.Machine

/-- A noncompliant unit has a permit in STOPPING (R33). -/
def State.complies (u : UnitNo) (s : State) : Prop := (s.status u).noncompliant = true → s.hasStopping u = true

/-- An operation over one unit that keeps the free list right, and the unit's noncompliant flag. -/
def State.Orderly (u : UnitNo) (s t : State) : Prop :=
  s.freeListSound → s.complies u → t.freeListSound ∧ s.Apart u t ∧ t.complies u

/-- What stops of the unit goes on to stop, and the unit is not newly noncompliant. -/
structure State.StopsStay (u : UnitNo) (s t : State) : Prop where
  stopping : ∀ (i : SlotNo) (p : Permit), s.slots[i].permit = some p → p.unit = u → p.state = .stopping →
    ∃ q, t.slots[i].permit = some q ∧ q.unit = u ∧ q.state = .stopping
  flag : (t.status u).noncompliant = true → (s.status u).noncompliant = true

section

variable {s t : State} {u : UnitNo}

/-! ### Compliance of one unit -/

theorem State.StopsStay.complies (h : State.StopsStay u s t) (hs : s.complies u) : t.complies u := fun hn => by
  obtain ⟨i, p, hp, hu, hst⟩ := (s.hasStopping_iff u).mp (hs (h.flag hn))
  obtain ⟨q, hq, hqu, hqst⟩ := h.stopping i p hp hu hst
  exact (t.hasStopping_iff u).mpr ⟨i, q, hq, hqu, hqst⟩

theorem State.StopsStay.trans {r : State} (h : State.StopsStay u s t) (k : State.StopsStay u t r) : State.StopsStay u s r where
  stopping i p hp hu hst := by
    obtain ⟨q, hq, hqu, hqst⟩ := h.stopping i p hp hu hst
    exact k.stopping i q hq hqu hqst
  flag hn := h.flag (k.flag hn)

theorem State.StopsStay.of_same (hslots : t.slots = s.slots)
    (hn : (t.status u).noncompliant = true → (s.status u).noncompliant = true) : State.StopsStay u s t :=
  ⟨fun i p hp hu hst => ⟨p, by rw [hslots]; exact hp, hu, hst⟩, hn⟩

theorem State.stopsStay_mapSlots {c : Permit → Bool} {f : Slot → Slot} (h : ∀ p : Permit, c p = true → p.state ≠ .stopping) :
    State.StopsStay u s (s.mapSlots (s.holds u c) f) := by
  have hunits : (s.mapSlots (s.holds u c) f).units = s.units := s.withSlots_units _
  have hslots := s.slots_mapSlots (s.holds u c) f
  generalize s.mapSlots (s.holds u c) f = t at hunits hslots
  refine ⟨fun i p hp hu hst => ⟨p, ?_, hu, hst⟩, fun hn => by rwa [State.status, hunits] at hn⟩
  rw [hslots, if_neg fun hc => ?_]
  · exact hp
  · obtain ⟨q, hq, -, hcq⟩ := (s.holds_iff u c i).mp hc
    cases hp.symm.trans hq
    exact h p hcq hst

theorem State.stopsStay_topOrder (s : State) (u : UnitNo) : State.StopsStay u s (s.topOrder u) where
  stopping i p hp hu hst := by
    rcases State.descend_slots (u := u) 4 s i with h | ⟨hd, -⟩
    · exact ⟨p, by rw [State.topOrder, h]; exact hp, hu, hst⟩
    · obtain ⟨q, hq, -, hqd⟩ := (s.holds_iff u _ i).mp hd
      cases hp.symm.trans hq
      rw [of_decide_eq_true (Bool.and_eq_true_iff.mp hqd).1] at hst
      cases hst
  flag hn := by
    rcases State.descend_keptOrRetired u 4 s with h | ⟨-, -, h, -⟩
    · rw [State.status, ← h]; exact hn
    · have hb : ((s.topOrder u).status u).noncompliant = false := by
        rw [State.status, State.topOrder, h]; rfl
      rw [hb] at hn
      cases hn

theorem State.stopsStay_enterStop (s : State) (u : UnitNo) (r : StopReason) (stages : Nat → Bool) :
    State.StopsStay u s (s.enterStop u r stages) := by
  have h : State.StopsStay u s (s.drained u r stages) := State.stopsStay_mapSlots fun p hp hst => by
    rw [hst] at hp
    simp at hp
  rw [State.enterStop_eq]
  generalize s.drained u r stages = t at h
  exact h.trans (t.stopsStay_topOrder u)

theorem State.stopsStay_handOver (s : State) (u : UnitNo) (n : Nat) : State.StopsStay u s (s.handOver u n) :=
  .of_same (s.handOver_slots u n) fun hn => by rwa [State.status, s.handOver_units] at hn

theorem State.complies_settleCompliance (s : State) (u : UnitNo) : (s.settleCompliance u).complies u := fun hn => by
  unfold State.settleCompliance at hn ⊢
  split at hn
  · next h => rw [if_pos h]; exact h
  · rw [s.status_modifyStatus_same] at hn
    cases hn

/-! ### Operations over one unit -/

theorem State.Orderly.trans {r : State} (h : State.Orderly u s t) (k : State.Orderly u t r) : State.Orderly u s r :=
  fun hf hc => by
    obtain ⟨hf', ha, hc'⟩ := h hf hc
    obtain ⟨hf'', ha', hc''⟩ := k hf' hc'
    exact ⟨hf'', ha.trans ha', hc''⟩

theorem State.Orderly.refl (u : UnitNo) (s : State) : State.Orderly u s s := fun hf hc => ⟨hf, .refl u s, hc⟩

theorem State.Narrows.orderly (h : State.Narrows u s t) (hk : State.StopsStay u s t) : State.Orderly u s t :=
  fun hf hc => ⟨h.free hf, h.apart, hk.complies hc⟩

theorem State.orderly_modifyStatus (s : State) (u : UnitNo) {f : UnitStatus → UnitStatus}
    (hf : (f (s.status u)).noncompliant = (s.status u).noncompliant) : State.Orderly u s (s.modifyStatus u f) :=
  fun hfree hc => by
    have ha := s.modifyStatus_aside u f
    refine ⟨hfree, ⟨fun i p _ => Iff.rfl, ha.units⟩, State.StopsStay.complies (s := s) (.of_same rfl fun hn => ?_) hc⟩
    rw [s.status_modifyStatus_same, hf] at hn
    exact hn

theorem State.orderly_trip (s : State) (u : UnitNo) : State.Orderly u s (s.trip u) := fun hf _ => by
  refine ⟨(s.narrows_trip u).free hf, (s.narrows_trip u).apart, ?_⟩
  rw [State.trip_eq]
  exact ((State.stopsStay_topOrder _ u).trans (State.stopsStay_handOver _ u _)).complies
    (State.complies_settleCompliance _ u)

theorem State.orderly_complete (s : State) (u : UnitNo) (r : Nat) : State.Orderly u s (s.complete u r) := fun hf _ =>
  ⟨(s.narrows_complete u r).free hf, (s.narrows_complete u r).apart, State.complies_settleCompliance _ u⟩

theorem State.orderly_forceRelease (s : State) (u : UnitNo) : State.Orderly u s (s.forceRelease u) := fun hf _ => by
  refine ⟨(s.narrows_forceRelease u).free hf, (s.narrows_forceRelease u).apart, ?_⟩
  rw [State.forceRelease_eq]
  exact State.complies_settleCompliance _ u

theorem State.orderly_enterStop (s : State) (u : UnitNo) (r : StopReason) (stages : Nat → Bool) :
    State.Orderly u s (s.enterStop u r stages) := (s.narrows_enterStop u r stages).orderly (s.stopsStay_enterStop u r stages)

theorem State.orderly_handOver (s : State) (u : UnitNo) (n : Nat) : State.Orderly u s (s.handOver u n) :=
  (s.narrows_handOver u n).orderly (s.stopsStay_handOver u n)

theorem State.orderly_joinUrgent (s : State) (u : UnitNo) : State.Orderly u s (s.joinUrgent u) :=
  (s.narrows_joinUrgent u).orderly (.of_same (by unfold State.joinUrgent; split <;> rfl)
    fun hn => by rwa [State.status, s.joinUrgent_units] at hn)

theorem State.orderly_applyDesired (s : State) (u : UnitNo) : State.Orderly u s (s.applyDesired u) := by
  unfold State.applyDesired
  split
  · have hr : State.Orderly u s (s.restoreBelow u (s.effectiveDesired u)) := by
      refine (s.narrows_restoreBelow u _).orderly ?_
      rw [State.restoreBelow_eq]
      refine State.stopsStay_mapSlots fun p hp hst => ?_
      rw [hst] at hp
      simp at hp
    dsimp only
    generalize s.restoreBelow u (s.effectiveDesired u) = t at hr
    refine hr.trans ?_
    unfold State.releaseFrom
    dsimp only
    split
    · exact (t.orderly_enterStop u _ _).trans (State.orderly_handOver _ u _)
    · exact .refl u t
  · exact .refl u s

/-! ### Permits that are new -/

theorem State.takeFree_free {sl : Slot} (h : s.takeFree sl = some t) (hs : s.freeListSound) {q : Permit}
    (hq : sl.permit = some q) (hqu : q.unit = u) : t.freeListSound ∧ s.Apart u t ∧ State.StopsStay u s t := by
  obtain ⟨i, hfl, hslots, hunits, -⟩ := State.takeFree_some h
  have hi := State.head_free hs hfl
  have hpermit (j : SlotNo) : t.slots[j].permit = if j = i then some q else s.slots[j].permit := by
    rw [hslots]
    split
    · exact hq
    · rfl
  refine ⟨State.freeListSound_of_taken hs hfl hpermit,
    State.Apart.of_set hpermit hqu (fun p hp => absurd (hi.symm.trans hp) (by simp)) hunits, fun j p hp hu hst => ?_,
    fun hn => by rwa [State.status, hunits] at hn⟩
  refine ⟨p, ?_, hu, hst⟩
  rw [hpermit, if_neg]
  · exact hp
  · rintro rfl
    rw [hi] at hp
    cases hp

theorem State.apart_modifySlot {i : SlotNo} {p q : Permit} {f : Slot → Slot} (hp : s.slots[i].permit = some p)
    (hpu : p.unit = u) (hq : (f s.slots[i]).permit = some q) (hqu : q.unit = u) (hs : s.freeListSound) :
    (s.modifySlot i f).freeListSound ∧ s.Apart u (s.modifySlot i f) := by
  have hpermit (j : SlotNo) : (s.modifySlot i f).slots[j].permit = if j = i then some q else s.slots[j].permit := by
    rw [State.slots_modifySlot]
    split
    · exact hq
    · rfl
  refine ⟨State.freeListSound_of_isSome hs rfl fun j => ?_, State.Apart.of_set hpermit hqu (fun x hx => ?_) rfl⟩
  · rw [hpermit]
    split
    · next hj => rw [hj, hp]; rfl
    · rfl
  · cases hp.symm.trans hx
    exact hpu

theorem State.adopt_free (u : UnitNo) (l : List Nat) : ∀ s : State, s.freeListSound →
    (s.adopt u l).freeListSound ∧ s.Apart u (s.adopt u l) := by
  induction l with
  | nil => exact fun s hs => ⟨hs, .refl u s⟩
  | cons k l ih =>
    intro s hs
    unfold State.adopt
    split
    · next i hi =>
      obtain ⟨p, hp, hpu, -⟩ := (s.holds_iff u _ i).mp (List.find?_some hi)
      obtain ⟨hf, ha⟩ := State.apart_modifySlot (f := Slot.enterRunningAdopted (s.rotation u)) hp hpu
        (congrArg Slot.permit (Slot.enterRunningAdopted_of hp)) hpu hs
      exact (ih _ hf).imp id ha.trans
    · dsimp only
      split
      · next t h =>
        obtain ⟨hf, ha, -⟩ := State.takeFree_free (u := u) h hs (Slot.adoptedNew_permit k _ _) rfl
        exact (ih t hf).imp id ha.trans
      · exact ⟨hs, fun i p _ => Iff.rfl, fun v _ => rfl⟩

theorem State.orderly_adoptStages (s : State) (u : UnitNo) (l r : Nat) : State.Orderly u s (s.adoptStages u l r) := by
  rw [State.adoptStages_eq]
  have hadopt : State.Orderly u s ((s.adopt u ((List.range r).drop l)).settleCompliance u) := fun hf _ => by
    obtain ⟨hf', ha⟩ := State.adopt_free u ((List.range r).drop l) s hf
    have hn := State.narrows_settleCompliance (s.adopt u ((List.range r).drop l)) u
    exact ⟨hn.free hf', ha.trans hn.apart, State.complies_settleCompliance _ u⟩
  dsimp only
  generalize (s.adopt u ((List.range r).drop l)).settleCompliance u = t at hadopt
  have hstop : State.Orderly u s (t.stopAdopted u l) := by
    unfold State.stopAdopted
    split
    · exact hadopt.trans (t.orderly_enterStop u _ _)
    · exact hadopt
  split
  · exact hstop
  · exact hstop.trans (State.orderly_joinUrgent _ u)

theorem State.orderly_recordUnpermitted (s : State) (u : UnitNo) (k : Nat) : State.Orderly u s (s.recordUnpermitted u k).1 :=
  fun hs hc => by
    rcases s.recordUnpermitted_cases u k with ⟨i, p, hi, hp, hst, h⟩ | ⟨i, p, -, -, -, h⟩ | ⟨t, -, ht, h⟩ | ⟨-, -, h⟩ <;> rw [h]
    · have hpu : p.unit = u := by
        obtain ⟨q, hq, hqu, -⟩ := (s.holds_iff u _ i).mp (List.find?_some hi)
        cases hp.symm.trans hq
        exact hqu
      obtain ⟨hf, ha⟩ := State.apart_modifySlot (f := Slot.stopUnpermitted s.site.complianceTimeout) hp hpu
        (congrArg Slot.permit (Slot.stopUnpermitted_of hp _)) hpu hs
      refine ⟨hf, ha, State.StopsStay.complies (s := s) ⟨fun j q hq hqu hqst => ?_, id⟩ hc⟩
      refine ⟨q, ?_, hqu, hqst⟩
      rw [State.slots_modifySlot, if_neg]
      · exact hq
      · rintro rfl
        cases hp.symm.trans hq
        rw [hst] at hqst
        cases hqst
    · exact ⟨hs, .refl u s, hc⟩
    · obtain ⟨hf, ha, hk⟩ := State.takeFree_free (u := u) ht hs (Slot.stopUnpermittedNew_permit k _ _) rfl
      exact ⟨hf, ha, hk.complies hc⟩
    · exact ⟨hs, .refl u s, hc⟩

theorem State.Orderly.of_sameTables (hst : s.SameTables t) : State.Orderly u s t := fun hf hc =>
  ⟨State.freeListSound_of_isSome hf hst.freeList fun i => by rw [hst.slots], hst.apart,
    (State.StopsStay.of_same hst.slots fun hn => by rwa [State.status, hst.units] at hn).complies hc⟩

theorem State.orderly_unpermitted (s : State) (u : UnitNo) (l : List Nat) : State.Orderly u s (s.unpermitted u l) := by
  have hall : ∀ (l : List Nat) (t : State), State.Orderly u t (t.recordAllUnpermitted u l).1 := by
    intro l
    induction l with
    | nil => exact fun t => .refl u t
    | cons k l ih => exact fun t => (t.orderly_recordUnpermitted u k).trans (ih _)
  unfold State.unpermitted
  dsimp only
  exact ((hall l s).trans (.of_sameTables (State.raiseIf_sameTables _ _ _))).trans
    (.of_sameTables (State.raise_sameTables _ _))

theorem State.orderly_applyRunning (s : State) (u : UnitNo) : State.Orderly u s (s.applyRunning u) := by
  rw [State.applyRunning_eq]
  have hc := s.orderly_complete u (s.runningLevel u)
  dsimp only
  generalize s.complete u (s.runningLevel u) = t at hc
  split
  · have hf : State.Orderly u t (t.findRunning u (s.runningLevel u)) := by
      unfold State.findRunning
      split
      · split
        · exact t.orderly_adoptStages u _ _
        · exact t.orderly_unpermitted u _
      · exact .refl u t
    exact (hc.trans hf).trans (State.orderly_modifyStatus _ u rfl)
  · exact hc

theorem State.orderly_requested (s : State) (u : UnitNo) (d r : Nat) (c : Condition) :
    State.Orderly u s (s.requested u d r c) := by
  unfold State.requested
  extract_lets s1 s2 s3
  have h1 : State.Orderly u s s1 := s.orderly_modifyStatus u rfl
  have h2 : State.Orderly u s s2 := by
    dsimp only [s2]; split
    · exact h1.trans (s1.orderly_trip u)
    · exact h1
  have h3 : State.Orderly u s s3 := by
    dsimp only [s3]; split
    · exact h2.trans (s2.orderly_applyRunning u)
    · exact h2
  exact h3.trans (s3.orderly_applyDesired u)

theorem State.orderly_woundDown (s : State) (u : UnitNo) (st : UnitState) (r : StopReason) :
    State.Orderly u s (s.woundDown u st r) := by
  unfold State.woundDown
  have h1 : State.Orderly u s (s.modifyStatus u fun x => { x with state := st }) := s.orderly_modifyStatus u rfl
  generalize (s.modifyStatus u fun x => { x with state := st }) = t at h1
  have h2 : State.Orderly u t (t.replaceDraining u r) := by
    refine (t.narrows_replaceDraining u r).orderly ?_
    rw [State.replaceDraining_eq]
    refine State.stopsStay_mapSlots fun p hp hst => ?_
    rw [hst] at hp
    simp at hp
  exact ((h1.trans h2).trans (State.orderly_enterStop _ u r _)).trans (State.orderly_handOver _ u _)

/-! ### The two conditions together -/

/-- The free list and the noncompliant flags (R21, R33). -/
def State.tidy (s : State) : Prop := s.freeListSound ∧ s.complianceSound

theorem State.hasStopping_of_apart (h : State.Apart u s t) {v : UnitNo} (hv : v ≠ u) : t.hasStopping v = s.hasStopping v := by
  rw [Bool.eq_iff_iff, t.hasStopping_iff, s.hasStopping_iff]
  exact exists_congr fun i => exists_congr fun p =>
    ⟨fun ⟨hp, hpv, hst⟩ => ⟨(h.permits i p (hpv ▸ hv)).mp hp, hpv, hst⟩,
     fun ⟨hp, hpv, hst⟩ => ⟨(h.permits i p (hpv ▸ hv)).mpr hp, hpv, hst⟩⟩

theorem State.Orderly.tidy (h : State.Orderly u s t) (hs : s.tidy) : t.tidy := by
  obtain ⟨hf, ha, hc⟩ := h hs.1 (hs.2 u)
  refine ⟨hf, fun v hn => ?_⟩
  by_cases hv : v = u
  · subst hv; exact hc hn
  · rw [State.hasStopping_of_apart ha hv]
    rw [(State.record_of_units (ha.units v hv)).2] at hn
    exact hs.2 v hn

theorem State.tidy_congr (hs : s.tidy) (hst : s.SameTables t) : t.tidy :=
  State.Orderly.tidy (u := 0) (.of_sameTables hst) hs

theorem State.tidy_createGrant (hs : s.tidy) (u : UnitNo) : (s.createGrant u).tidy := by
  cases hf : s.freeList with
  | nil => rw [s.createGrant_nil u hf]; exact hs
  | cons i rest =>
    obtain ⟨hslots, hfl, -⟩ := s.createGrant_slots u hf
    have hunits : (s.createGrant u).units = s.units := (s.createGrant_passed u).units
    obtain ⟨q, hq, hqu, -⟩ := Slot.granted_permit u (s.level u) ((s.rating u (s.level u)).getD 0)
      s.site.settleTime (s.minRun u) (s.rotation u)
    generalize s.createGrant u = t at hslots hfl hunits
    have hi := State.head_free hs.1 hf
    have hpermit (j : SlotNo) : t.slots[j].permit = if j = i then some q else s.slots[j].permit := by
      rw [hslots, getElem_set_eq]
      split
      · exact hq
      · rfl
    refine ⟨State.freeListSound_of_taken hs.1 (by rw [hf, hfl]) hpermit, fun v hn => ?_⟩
    have hstop := (s.hasStopping_iff v).mp (hs.2 v (by rwa [State.status, hunits] at hn))
    obtain ⟨j, p, hp, hpv, hst⟩ := hstop
    refine (t.hasStopping_iff v).mpr ⟨j, p, ?_, hpv, hst⟩
    rw [hpermit, if_neg]
    · exact hp
    · rintro rfl
      rw [hi] at hp
      cases hp

theorem State.QueueStep.tidy (h : s.QueueStep t) (hs : s.tidy) : t.tidy := by
  have hraise (b : Bool) := State.tidy_congr hs (s.raiseIf_sameTables b .queueFull)
  obtain ⟨b, q, rfl | ⟨e, -, rfl⟩⟩ := h
  · exact State.tidy_congr (hraise b) ⟨rfl, rfl, rfl, rfl⟩
  · exact State.tidy_congr (State.tidy_createGrant (hraise b) e.unit) ⟨rfl, rfl, rfl, rfl⟩

theorem State.tidy_desireStep (hs : s.tidy) (u : UnitNo) : (s.desireStep u).tidy := (s.desireStep_queueStep u).tidy hs

theorem State.tidy_admissionPass (hs : s.tidy) : s.admissionPass.tidy :=
  State.QueueStep.tidy (s.admissionPass_queueStep false s.queue) hs

theorem State.tidy_settleLevel (hs : s.tidy) (u : UnitNo) (n : Nat) : (s.settleLevel u n).tidy := by
  have h := (s.orderly_handOver u n).tidy hs
  unfold State.settleLevel
  dsimp only
  split
  · exact State.tidy_desireStep h u
  · exact h

end

end Sys2Proof.Machine


/-! The free list and the noncompliant flags through every step, and with them O59 (R21, R33, R53, R61, R79, R156). -/

namespace Sys2Proof.Machine

section

variable {s t : State} {u : UnitNo}

theorem State.tidy_requestEvent (h : s.tidy) (u : UnitNo) (d r : Nat) (c : Condition) : (s.requestEvent u d r c).tidy := by
  rw [State.requestEvent_eq]
  exact State.tidy_desireStep ((s.orderly_requested u d r c).tidy h) u

theorem State.tidy_windDown (h : s.tidy) (u : UnitNo) (st : UnitState) (r : StopReason) : (s.windDown u st r).tidy := by
  rw [State.windDown_eq]
  exact State.tidy_desireStep ((s.orderly_woundDown u st r).tidy h) u

theorem State.tidy_retireIfEmpty (h : s.tidy) (u : UnitNo) : (s.retireIfEmpty u).tidy := by
  refine ((s.narrows_retireIfEmpty u).orderly (.of_same (s.retireIfEmpty_slots u) fun hn => ?_)).tidy h
  unfold State.retireIfEmpty at hn
  split at hn
  · have hb : ((s.completeRetirement u).status u).noncompliant = false := by
      rw [State.status, State.completeRetirement_units, if_pos rfl]; rfl
    rw [hb] at hn
    cases hn
  · exact hn

theorem State.tidy_unlocked (h : s.tidy) (u : UnitNo) : (s.unlocked u).tidy := (s.orderly_modifyStatus u rfl).tidy h

/-- A unit's new entry that is not newly noncompliant. -/
theorem State.tidy_withEntry (h : s.tidy) (u : UnitNo) {e : UnitEntry}
    (he : e.status.noncompliant = true → (s.status u).noncompliant = true) : (s.withEntry u e).tidy := by
  have hunit (v : UnitNo) : (s.withEntry u e).units[v] = if v = u then e else s.units[v] := getElem_set_eq s.units u v e
  have horderly : State.Orderly u s (s.withEntry u e) := fun hf hc =>
    ⟨hf, ⟨fun i p _ => Iff.rfl, fun v hv => (hunit v).trans (if_neg hv)⟩,
      State.StopsStay.complies (s := s) (.of_same rfl fun hn => by
        rw [State.status, hunit, if_pos rfl] at hn; exact he hn) hc⟩
  exact horderly.tidy h

theorem State.tidy_install (h : s.tidy) (u : UnitNo) (r : UnitRecord) : (s.install u r).tidy := by
  have he : (s.withEntry u { record := some r, status := .fresh }).tidy := State.tidy_withEntry h u fun hn => by cases hn
  exact State.tidy_congr he (State.onChannelOf_tables _ u Channel.clearCycle).1

theorem State.tidy_changeRecord (h : s.tidy) (u : UnitNo) (old r : UnitRecord) : (s.changeRecord u old r).tidy := by
  have hreplace : (s.replaceRecord u r).tidy := State.tidy_withEntry h u (e := s.units[u].replaced r) id
  have hmove {t : State} (ht : t.tidy) (n : Nat) : (t.moveByClass u n).tidy := by
    unfold State.moveByClass
    split
    · exact State.tidy_congr ht ⟨rfl, rfl, rfl, rfl⟩
    · exact ht
  have hclass : ((s.replaceRecord u r).changeClass u old.cls r.cls).tidy := by
    unfold State.changeClass
    dsimp only
    split
    · exact hreplace
    · split
      · refine hmove (State.Orderly.tidy (u := u) ?_ hreplace) _
        generalize s.replaceRecord u r = t
        refine fun hf hc => ⟨(t.narrows_spareClassZero u).free hf, (t.narrows_spareClassZero u).apart, ?_⟩
        intro hn
        have hunits : (t.spareClassZero u).units = t.units := by
          rw [State.spareClassZero_eq]
          exact State.withSlots_units _ _
        obtain ⟨i, p, hp, hpu, hst⟩ := (t.hasStopping_iff u).mp (hc (by rwa [State.status, hunits] at hn))
        rw [State.hasStopping_iff, State.spareClassZero_eq]
        by_cases hi : t.holds u (fun p => p.reason.any StopReason.spared) i = true
        · refine ⟨i, { p with reason := some .released }, ?_, hpu, hst⟩
          rw [State.slots_mapSlots, if_pos hi]
          exact Slot.setReason_of hp _
        · refine ⟨i, p, ?_, hpu, hst⟩
          rw [State.slots_mapSlots, if_neg hi]
          exact hp
      · exact hmove hreplace _
  unfold State.changeRecord State.clampWanted
  generalize (s.replaceRecord u r).changeClass u old.cls r.cls = t at hclass
  split
  · split
    · rw [State.rewant_eq]
      exact State.tidy_admissionPass (State.tidy_congr (t := t.withQueue _) hclass ⟨rfl, rfl, rfl, rfl⟩)
    · exact hclass
  · exact hclass

/-! ### The expiries -/

/-- A slot's permit that goes on in its unit, in STOPPING where it was. -/
theorem State.tidy_modifySlot (h : s.tidy) {i : SlotNo} {p q : Permit} {f : Slot → Slot} (hp : s.slots[i].permit = some p)
    (hq : (f s.slots[i]).permit = some q) (hu : q.unit = p.unit) (hst : p.state = .stopping → q.state = .stopping) :
    (s.modifySlot i f).tidy := by
  have horderly : State.Orderly p.unit s (s.modifySlot i f) := fun hf hc => by
    obtain ⟨hf', ha⟩ := State.apart_modifySlot hp rfl hq hu hf
    refine ⟨hf', ha, State.StopsStay.complies (s := s) ⟨fun j x hx hxu hxst => ?_, id⟩ hc⟩
    rw [State.slots_modifySlot]
    split
    · next hj =>
      subst hj
      cases hp.symm.trans hx
      exact ⟨q, hq, hu, hst hxst⟩
    · exact ⟨x, hx, hxu, hxst⟩
  exact horderly.tidy h

theorem State.tidy_settleExpiry (h : s.tidy) (i : SlotNo) : (s.settleExpiry i).tidy := by
  unfold State.settleExpiry
  split
  · next p he =>
    obtain ⟨hp, hst⟩ := State.of_expired he
    exact State.tidy_modifySlot h hp (congrArg Slot.permit (Slot.enterRunningSettled_of hp)) rfl fun hs => by
      rw [hst] at hs; cases hs
  · exact h

theorem State.tidy_minRunExpiry (h : s.tidy) (i : SlotNo) : (s.minRunExpiry i).tidy := by
  unfold State.minRunExpiry
  split
  · next p he => exact State.tidy_modifySlot h (State.of_expired he).1 (Slot.meetMinRun_permit (State.of_expired he).1) rfl id
  · exact h

theorem State.tidy_drainingExpiry (h : s.tidy) (i : SlotNo) : (s.drainingExpiry i).tidy := by
  unfold State.drainingExpiry
  split
  · next p he =>
    have hm := State.tidy_modifySlot h (State.of_expired he).1 (f := fun sl => sl.disarmA.meetMinRun)
      (Slot.meetMinRun_permit (State.of_expired he).1) rfl id
    generalize (s.modifySlot i fun sl => sl.disarmA.meetMinRun) = t at hm
    exact State.tidy_settleLevel
      (((t.narrows_topOrder p.unit).orderly (t.stopsStay_topOrder p.unit)).tidy hm) p.unit _
  · exact h

theorem State.tidy_rotationExpiry (h : s.tidy) (i : SlotNo) : (s.rotationExpiry i).tidy := by
  unfold State.rotationExpiry
  split
  · next p hp =>
    split
    · exact State.tidy_modifySlot h hp (q := { p with rotationDue := true }) (congrArg (Option.map _) hp) rfl id
    · exact h
  · exact h

theorem State.tidy_complianceExpiry (h : s.tidy) (i : SlotNo) : (s.complianceExpiry i).tidy := by
  unfold State.complianceExpiry
  split
  · next p he =>
    obtain ⟨hp, hst⟩ := State.of_expired he
    have hd : (s.modifySlot i Slot.disarmA).tidy := State.tidy_modifySlot h hp (q := p) hp rfl id
    have hstop : (s.modifySlot i Slot.disarmA).hasStopping p.unit = true :=
      (State.hasStopping_iff _ p.unit).mpr ⟨i, p, by rw [State.slots_modifySlot, if_pos rfl]; exact hp, rfl, hst⟩
    generalize s.modifySlot i Slot.disarmA = t at hd hstop
    have hm : State.Orderly p.unit t (t.modifyStatus p.unit fun st => { st with noncompliant := true }) := fun hf _ =>
      ⟨hf, ⟨fun i q _ => Iff.rfl, (t.modifyStatus_aside p.unit _).units⟩, fun _ => hstop⟩
    have hmt := hm.tidy hd
    generalize (t.modifyStatus p.unit fun st => { st with noncompliant := true }) = r at hmt
    exact State.tidy_congr hmt (r.raise_sameTables _)
  · exact h

theorem State.tidy_minOffExpiry (h : s.tidy) (i : SlotNo) : (s.minOffExpiry i).tidy := by
  unfold State.minOffExpiry
  split
  · next p he =>
    obtain ⟨hp, hst⟩ := State.of_expired he
    refine ((State.narrows_freeSlot ⟨p, hp, rfl⟩).orderly ⟨fun j q hq hqu hqst => ⟨q, ?_, hqu, hqst⟩, fun hn => ?_⟩).tidy h
    · rw [State.freeSlot_slots, getElem_set_eq, if_neg]
      · exact hq
      · rintro rfl
        cases hp.symm.trans hq
        rw [hst] at hqst
        cases hqst
    · rcases s.freeSlot_units p.unit i p.unit with hu | ⟨-, -, hu, -⟩
      · rwa [State.status, hu] at hn
      · rw [State.status, hu] at hn
        cases hn
  · exact h

theorem State.tidy_takeCounters (h : s.tidy) : (s.takePart .slotCounters).tidy := by
  have hpermit (i : SlotNo) : (s.takePart .slotCounters).slots[i].permit = s.slots[i].permit := by
    rw [State.slots_takeCounters, Slot.tick_permit]
  have hfl : (s.takePart .slotCounters).freeList = s.freeList := by unfold State.takePart; rfl
  have hunits := s.takeCounters_units
  generalize s.takePart .slotCounters = t at *
  refine ⟨State.freeListSound_of_isSome h.1 hfl fun i => by rw [hpermit], fun v hn => ?_⟩
  obtain ⟨i, p, hp, hu, hst⟩ := (s.hasStopping_iff v).mp (h.2 v (by rwa [State.status, hunits] at hn))
  exact (t.hasStopping_iff v).mpr ⟨i, p, by rw [hpermit]; exact hp, hu, hst⟩

/-! ### The link's records, and the resets -/

theorem State.tidy_missOf (h : s.tidy) (u : UnitNo) : (s.missOf u).tidy := by
  unfold State.missOf
  split
  · unfold State.miss
    dsimp only
    have hm := (s.orderly_modifyStatus u
      (f := fun st => { st with misses := min Config.nibbleMax ((s.status u).misses + 1) }) rfl).tidy h
    generalize (s.modifyStatus u fun st => { st with misses := min Config.nibbleMax ((s.status u).misses + 1) }) = t at hm
    split
    · have hl := (t.orderly_modifyStatus u (f := fun st => { st with link := .silent }) rfl).tidy hm
      generalize (t.modifyStatus u fun st => { st with link := .silent }) = r at hl
      exact State.tidy_desireStep (State.tidy_congr hl (r.raise_sameTables _)) u
    · exact hm
  · exact h

theorem State.tidy_hear (h : s.tidy) (u : UnitNo) : (s.hear u).tidy := by
  unfold State.hear
  dsimp only
  have hm := (s.orderly_modifyStatus u (f := fun st => { st with misses := 0 }) rfl).tidy h
  generalize (s.modifyStatus u fun st => { st with misses := 0 }) = t at hm
  split
  · have hl := (t.orderly_modifyStatus u (f := fun st => { st with link := .heard, window := .opened }) rfl).tidy hm
    generalize (t.modifyStatus u fun st => { st with link := .heard, window := .opened }) = r at hl
    exact State.tidy_congr hl (r.raise_sameTables _)
  · exact hm

theorem State.tidy_closeSubinterval (h : s.tidy) : s.closeSubinterval.tidy := by
  have hm : (s.modifyMeter (Meter.close s.site)).tidy := State.tidy_congr h ⟨rfl, rfl, rfl, rfl⟩
  exact State.tidy_congr hm (State.raiseIf_sameTables _ _ _)

theorem State.tidy_nextTransaction (h : s.tidy) : s.nextTransaction.tidy := by
  rw [State.nextTransaction_link]
  exact State.tidy_congr (s := s) h ⟨rfl, rfl, rfl, rfl⟩

theorem State.tidy_reinitialise (s : State) (site : SiteRecord) (units : Vector UnitEntry 36) (n : BitVec 16)
    (hn : ∀ u : UnitNo, units[u].status.noncompliant = false) : (s.reinitialise site units n).tidy := by
  have hfree (i : SlotNo) : (s.reinitialise site units n).slots[i].permit = none := by
    show ((Vector.replicate 96 Slot.free)[i]).permit = none
    rw [Fin.getElem_fin, Vector.getElem_replicate]
    rfl
  have hunit (u : UnitNo) : ((s.reinitialise site units n).status u).noncompliant = false := hn u
  have hfl : (s.reinitialise site units n).freeList = allSlots := rfl
  generalize s.reinitialise site units n = t at *
  refine ⟨⟨hfl ▸ List.nodup_finRange 96, fun i => iff_of_true (hfl ▸ List.mem_finRange i) (hfree i)⟩, fun u h => ?_⟩
  rw [hunit] at h
  cases h

/-! ### Every step (O59) -/

theorem State.kept_tidy : Kept State.tidy where
  framed {s _} hf h := State.tidy_congr (s := s) h ⟨hf.slots, hf.freeList, hf.units, hf.site⟩
  pass {s} h := State.tidy_admissionPass (s := s) h
  desire {s} u h := State.tidy_desireStep (s := s) h u
  request {s} u d r c h := State.tidy_requestEvent (s := s) h u d r c
  windDown {s u st r} _ _ _ _ h := State.tidy_windDown (s := s) h u st r
  retire {s} u h := State.tidy_retireIfEmpty (s := s) h u
  unlock {s u} _ h := State.tidy_desireStep (State.tidy_unlocked (s := s) h u) u
  release {s u} _ h := State.tidy_settleLevel ((s.orderly_forceRelease u).tidy h) u (s.level u)
  install {s u r} _ _ h := State.tidy_install (s := s) h u r
  change {s u old r} _ _ _ _ h := State.tidy_changeRecord (s := s) h u old r
  site _ _ h := ⟨h.1, h.2⟩
  stop {s u r} stages _ h := State.tidy_settleLevel ((s.orderly_enterStop u r stages).tidy h) u (s.level u)
  settle {s} i h := State.tidy_settleExpiry (s := s) h i
  minRun {s} i h := State.tidy_minRunExpiry (s := s) h i
  draining {s} i h := State.tidy_drainingExpiry (s := s) h i
  rotation {s} i h := State.tidy_rotationExpiry (s := s) h i
  compliance {s} i h := State.tidy_complianceExpiry (s := s) h i
  minOff {s} i h := State.tidy_minOffExpiry (s := s) h i
  slotTick {s} h := State.tidy_takeCounters (s := s) h
  holdTick {s} h := State.tidy_congr (s := s) (t := s.takePart .restartHold) h ⟨rfl, rfl, rfl, rfl⟩
  gateTick {s} h := State.tidy_congr (s := s) (t := s.takePart .startGate) h ⟨rfl, rfl, rfl, rfl⟩
  holdEnd {s} h := State.tidy_congr (s := s) (t := { s with hold := .ended, startGate := .opened }) h ⟨rfl, rfl, rfl, rfl⟩
  close {s} h := State.tidy_closeSubinterval (s := s) h
  missOf {s} u h := State.tidy_missOf (s := s) h u
  hear {s} u h := State.tidy_hear (s := s) h u
  transaction {s} h := State.tidy_nextTransaction (s := s) h
  reinit {s site units} n hn _ _ := s.tidy_reinitialise site units n hn

/-- Settles O59: each of the five conditions is kept by each effect of a step. -/
theorem smallerConditionsStayKept : Obligations.SmallerConditionsStayKept := fun _ _ ht =>
  ⟨fun h => State.kept_tidy.step h ht, fun h => State.kept_holdAgrees.step h ht, fun h => State.kept_ringSound.step h ht,
    fun h => State.kept_urgentSound.step h ht, fun h => State.kept_slotsSound.step h ht⟩

end

end Sys2Proof.Machine


/-! What the stop of a unit's top stage leaves of each slot, with the desire step that follows it (R12, R24, R29 to R31). -/

namespace Sys2Proof.Machine

section

variable {s t : State} {u : UnitNo}

/-! ### Behind the fall of the level -/

/-- A grant takes a FREE slot (R99). -/
theorem State.createGrant_slots_of_permit (hf : s.freeListSound) (u : UnitNo) {i : SlotNo} (hi : s.slots[i].permit ≠ none) :
    (s.createGrant u).slots[i] = s.slots[i] := by
  cases hfl : s.freeList with
  | nil => rw [s.createGrant_nil u hfl]
  | cons j rest =>
    rw [(s.createGrant_slots u hfl).1, getElem_set_eq, if_neg]
    rintro rfl
    exact hi (State.head_free hf hfl)

theorem State.createGrant_urgent (s : State) (u : UnitNo) {v : UnitNo} (h : v ∈ s.link.urgent) :
    v ∈ (s.createGrant u).link.urgent := by
  cases hfl : s.freeList with
  | nil => rw [s.createGrant_nil u hfl]; exact h
  | cons j rest =>
    rw [s.createGrant_cons u hfl]
    have hjoin : v ∈ ((s.placeGrant u j rest).joinUrgent u).link.urgent := by
      unfold State.joinUrgent
      split
      · exact h
      · exact List.mem_append_left _ h
    generalize (s.placeGrant u j rest).joinUrgent u = t at hjoin
    unfold State.onChannelOf
    split <;> exact hjoin

theorem State.QueueStep.slots_of_permit (h : s.QueueStep t) (hf : s.freeListSound) {i : SlotNo}
    (hi : s.slots[i].permit ≠ none) : t.slots[i] = s.slots[i] := by
  have hraise (b : Bool) : (s.raiseIf b .queueFull).slots = s.slots := s.raiseIf_slots b _
  obtain ⟨b, q, rfl | ⟨e, -, rfl⟩⟩ := h
  · show (s.raiseIf b .queueFull).slots[i] = _
    rw [hraise]
  · show ((s.raiseIf b .queueFull).createGrant e.unit).slots[i] = _
    rw [State.createGrant_slots_of_permit _ e.unit (by rw [hraise]; exact hi), hraise]
    exact State.freeListSound_of_isSome hf (s.raiseIf_sameTables b .queueFull).freeList fun j => by rw [hraise]

theorem State.QueueStep.urgent (h : s.QueueStep t) {v : UnitNo} (hv : v ∈ s.link.urgent) : v ∈ t.link.urgent := by
  have hraise (b : Bool) : v ∈ (s.raiseIf b .queueFull).link.urgent := by cases b <;> exact hv
  obtain ⟨b, q, rfl | ⟨e, -, rfl⟩⟩ := h
  · exact hraise b
  · exact State.createGrant_urgent _ e.unit (hraise b)

/-- The desire step behind a stop reaches the queue and FREE slots alone (R12). -/
theorem State.settleLevel_slots (hf : s.freeListSound) (n : Nat) {i : SlotNo} (hi : s.slots[i].permit ≠ none) :
    (s.settleLevel u n).slots[i] = s.slots[i] := by
  have hslots := s.handOver_slots u n
  have hfree := (s.narrows_handOver u n).free hf
  unfold State.settleLevel
  dsimp only
  generalize s.handOver u n = t at hslots hfree
  split
  · exact ((t.desireStep_queueStep u).slots_of_permit hfree (by rw [hslots]; exact hi)).trans (congrArg (·[i]) hslots)
  · exact congrArg (·[i]) hslots

theorem State.settleLevel_urgent (hw : isWired u = false) (hc : s.configured u = true) {n : Nat} (hn : s.level u ≠ n) :
    u ∈ (s.settleLevel u n).link.urgent := by
  have h := s.mem_handOver u hw hc hn
  unfold State.settleLevel
  dsimp only
  split
  · exact (State.desireStep_queueStep _ u).urgent h
  · exact h

theorem State.settleLevel_shedGate (s : State) (u : UnitNo) (n : Nat) : (s.settleLevel u n).shedGate = s.shedGate := by
  unfold State.settleLevel
  dsimp only
  split
  · exact (State.desireStep_passed _ u).shedGate.trans (s.handOver_aside u n).shedGate
  · exact (s.handOver_aside u n).shedGate

theorem State.settleLevel_of_level {n : Nat} (h : s.level u = n) : s.settleLevel u n = s := by
  have hand : s.handOver u n = s := if_pos h
  rw [State.settleLevel, hand]
  exact if_neg (by omega)

/-! ### A permit that has gone off -/

/-- A sound state's off permit stands at or above its unit's commanded level (R24). -/
theorem State.level_le_of_off (h : s.tablesSound) {i : SlotNo} {p : Permit} (hp : s.slots[i].permit = some p)
    (hoff : p.state.commandedOn = false) : s.level p.unit ≤ p.stage := by
  refine Nat.not_lt.mp fun hlt => ?_
  have := ((State.tablesSound_inOrder h p.unit).on_iff hp rfl).mpr hlt
  rw [hoff] at this
  cases this

/-- A unit that holds a permit is configured. -/
theorem State.configured_of_permit (h : s.tablesSound) {i : SlotNo} {p : Permit} (hp : s.slots[i].permit = some p) :
    s.configured p.unit = true := by
  have hto := State.tables_of_sound h
  refine decide_eq_true fun hst => ?_
  exact hto.noPermit_of_noRecord ((hto.records.2 p.unit).1.mp hst) hp rfl

/-- A wired unit has the stage 0 alone (R2). -/
theorem State.wired_stage (h : s.tablesSound) {i : SlotNo} {p : Permit} (hp : s.slots[i].permit = some p)
    (hw : isWired p.unit = true) : p.stage = 0 ∧ s.level p.unit ≤ 1 := by
  have hto := State.tables_of_sound h
  have hrat := hto.ratings i p hp
  have hle := (State.tablesSound_inOrder h p.unit).level_le_stageCount hto.ratings
  cases hr : s.record p.unit with
  | none => exact absurd rfl (hto.noPermit_of_noRecord hr hp)
  | some r =>
    have hv := (hto.records.2 p.unit).2 r hr
    simp only [UnitRecord.valid, hw, if_true, Bool.and_eq_true, decide_eq_true_eq] at hv
    have hlen : r.ratings.length = 1 := hv.2.1
    rw [State.rating, hr, Option.bind_some, List.getElem?_eq_some_iff] at hrat
    obtain ⟨hlt, -⟩ := hrat
    rw [State.stageCount, hr, Option.elim_some, UnitRecord.stageCount] at hle
    omega

/-- A wired unit's commanded-on permit is its top one. -/
theorem State.wired_top (h : s.tablesSound) {i : SlotNo} {p : Permit} (hp : s.slots[i].permit = some p)
    (hw : isWired p.unit = true) (hon : p.state.commandedOn = true) : p.stage = 0 ∧ s.level p.unit = 1 := by
  obtain ⟨h0, h1⟩ := State.wired_stage h hp hw
  have := ((State.tablesSound_inOrder h p.unit).on_iff hp rfl).mp hon
  omega

/-- The output of a channel whose stage has gone off, and stands in the slot (R163). -/
theorem State.driveOutput_off (h : s.tablesSound) (hr : s.resetHeld = false) {c : ChannelNo} {i : SlotNo} {p : Permit}
    (hp : s.slots[i].permit = some p) (hu : channelUnit c = p.unit) (hoff : p.state.commandedOn = false) :
    s.driveOutput c = .inactive := by
  have hle := State.level_le_of_off h hp hoff
  have hw := (State.wired_stage h hp (by rw [← hu]; exact isWired_channelUnit c)).1
  exact State.driveOutput_inactive hr (by rw [hu]; exact State.configured_of_permit h hp) (by rw [hu]; omega)

theorem State.driveOutput_on (h : s.tablesSound) (hr : s.resetHeld = false) {c : ChannelNo} {i : SlotNo} {p : Permit}
    (hp : s.slots[i].permit = some p) (hu : channelUnit c = p.unit) (hon : p.state.commandedOn = true) :
    s.driveOutput c = .active := by
  have hl := (State.wired_top h hp (by rw [← hu]; exact isWired_channelUnit c) hon).2
  exact State.driveOutput_active hr (by rw [hu]; exact State.configured_of_permit h hp) (by rw [hu]; exact hl)

/-! ### The stop of a top stage -/

/-- The one permit that a stop of the top stage drains. -/
theorem State.drained_one (ho : s.InOrder u) {i : SlotNo} {p : Permit} (hp : s.slots[i].permit = some p) (hu : p.unit = u)
    (hrun : p.state = .running) {stages : Nat → Bool} (hst : ∀ k < s.level u, stages k = decide (k = p.stage))
    (r : StopReason) (j : SlotNo) :
    (s.drained u r stages).slots[j] = if j = i then s.slots[i].enterDraining r (s.minRun u) else s.slots[j] := by
  have hon (q : Permit) (hq : q.state = .starting ∨ q.state = .running) : q.state.commandedOn = true :=
    commandedOn_of_starting_or_running hq
  have hpstage : p.stage < s.level u := (ho.on_iff hp hu).mp (hon p (.inr hrun))
  rw [s.slots_drained]
  by_cases hj : j = i
  · subst hj
    rw [if_pos rfl, if_pos]
    exact (s.holds_iff u _ j).mpr ⟨p, hp, hu, Permit.stoppable_iff.mpr ⟨.inr hrun, by rw [hst _ hpstage]; simp⟩⟩
  · rw [if_neg hj, if_neg]
    intro hh
    obtain ⟨q, hq, hqu, hqs⟩ := (s.holds_iff u _ j).mp hh
    obtain ⟨hqrun, hqst⟩ := Permit.stoppable_iff.mp hqs
    rw [hst _ ((ho.on_iff hq hqu).mp (hon q hqrun))] at hqst
    exact hj (ho.distinct hq hp hqu hu (of_decide_eq_true hqst))

/-- A top stage that descends is stopped by top order (R30). -/
theorem State.topOrder_top (ho : s.InOrder u) (h4 : s.level u ≤ 4) {i : SlotNo} {p : Permit}
    (hp : s.slots[i].permit = some p) (hu : p.unit = u) (hk : p.stage + 1 = s.level u) (hd : p.descends = true) :
    (s.topOrder u).slots[i] = s.stopped u s.slots[i] ∧ (s.topOrder u).level u < s.level u := by
  obtain ⟨-, hstop⟩ := ho.topOrder h4
  obtain ⟨-, hle, -⟩ := ho.descend 4
  have hlt : (s.topOrder u).level u < s.level u := by
    refine Nat.lt_of_le_of_ne hle fun heq => ?_
    have := hstop i p hp hu (hk.trans heq.symm)
    rw [hd] at this
    cases this
  exact ⟨((ho.descend_slots 4 hp hu).2 (show (s.topOrder u).level u ≤ p.stage by omega) (by omega)).2, hlt⟩

/-- A top stage that does not descend holds up top order (R30). -/
theorem State.topOrder_held (ho : s.InOrder u) {i : SlotNo} {p : Permit} (hp : s.slots[i].permit = some p) (hu : p.unit = u)
    (hk : p.stage + 1 = s.level u) (hd : p.descends = false) : s.topOrder u = s :=
  State.descend_of_not_descends 4 (ho.topSlot_eq hp hu hk) hp hd

/-- The stop of a top stage whose minimum run is not met: the permit drains, and nothing else changes (R29). -/
theorem State.stopTop_unmet (h : s.tablesSound) {i : SlotNo} {p : Permit} (hp : s.slots[i].permit = some p)
    (hrun : p.state = .running) (hk : p.stage + 1 = s.level p.unit) {stages : Nat → Bool}
    (hst : ∀ k < s.level p.unit, stages k = decide (k = p.stage)) (r : StopReason) (hmet : p.minRunMet = false)
    (hc : s.slots[i].counter < s.minRun p.unit) :
    (s.enterStop p.unit r stages).settleLevel p.unit (s.level p.unit) = s.withSlots (s.slots.set i { s.slots[i] with
      aValue := s.minRun p.unit, aArmed := true, pArmed := false
      permit := some { p with state := .draining, reason := some r, rotationDue := false } }) := by
  have ho := State.tablesSound_inOrder h p.unit
  have hslot := State.drained_one ho hp rfl hrun hst r
  have hroles := s.drained_sameRoles p.unit r stages
  have hpermit := Slot.enterDraining_unmet hp hmet hc r
  have hheld : (s.drained p.unit r stages).topOrder p.unit = s.drained p.unit r stages := by
    refine State.topOrder_held (p := { p with state := .draining, reason := some r, rotationDue := false })
      (hroles.inOrder ho) (i := i) ?_ rfl (by rw [hroles.level]; exact hk) (by simp [Permit.descends, hmet])
    rw [hslot, if_pos rfl, hpermit]
  rw [State.enterStop_eq, hheld, State.settleLevel_of_level (hroles.level p.unit)]
  refine s.withSlots_congr fun j => ?_
  rw [getElem_set_eq, ← hpermit]
  exact hslot j

/-- The stop of a top stage whose minimum run is met: it goes on, and no other RUNNING permit is touched (R31). -/
theorem State.stopTop_met (h : s.tablesSound) {i : SlotNo} {p : Permit} (hp : s.slots[i].permit = some p)
    (hrun : p.state = .running) (hk : p.stage + 1 = s.level p.unit) {stages : Nat → Bool}
    (hst : ∀ k < s.level p.unit, stages k = decide (k = p.stage)) (r : StopReason)
    (hmet : p.minRunMet = true ∨ s.minRun p.unit ≤ s.slots[i].counter) :
    (s.enterStop p.unit r stages).slots[i] = s.stopped p.unit (s.slots[i].enterDraining r (s.minRun p.unit))
      ∧ (s.enterStop p.unit r stages).level p.unit < s.level p.unit
      ∧ ∀ (j : SlotNo) (q : Permit), s.slots[j].permit = some q → q.state = .running → j ≠ i →
        (s.enterStop p.unit r stages).slots[j] = s.slots[j] := by
  have ho := State.tablesSound_inOrder h p.unit
  have hslot := State.drained_one ho hp rfl hrun hst r
  have hroles := s.drained_sameRoles p.unit r stages
  have hpermit := Slot.enterDraining_met hp hmet r
  have hstopped := s.drained_stopped p.unit r stages
  have hlevel := hroles.level p.unit
  rw [State.enterStop_eq]
  generalize s.drained p.unit r stages = w at hslot hroles hstopped hlevel
  have hwi : w.slots[i].permit = some { p with
      state := .draining, reason := some r, minRunMet := true, rotationDue := false } := by
    rw [hslot, if_pos rfl, hpermit]
  obtain ⟨h1, h2⟩ := State.topOrder_top (hroles.inOrder ho) (by rw [hlevel]; exact State.level_le_four h _) hwi rfl
    (by rw [hlevel]; exact hk) (by simp [Permit.descends])
  refine ⟨?_, hlevel ▸ h2, fun j q hq hqrun hj => ?_⟩
  · rw [h1, hstopped, hslot, if_pos rfl]
  · have hwj : w.slots[j] = s.slots[j] := by rw [hslot, if_neg hj]
    rcases w.topOrder_slots p.unit j with h' | ⟨hd, -⟩
    · rw [h', hwj]
    · obtain ⟨x, hx, -, hxd⟩ := (w.holds_iff p.unit _ j).mp hd
      rw [hwj, hq] at hx
      cases hx
      rw [Permit.descends, hqrun] at hxd
      cases hxd

end

end Sys2Proof.Machine


/-! The victim of a shed action, of a curtail and of a rotation: its choice and its stop (R126 to R131, R136, R140, R141). -/

namespace Sys2Proof.Machine

section

variable {s t : State}

/-! ### Victim order (R129) -/

theorem State.victimKeys_of {i : SlotNo} {p : Permit} (hp : s.slots[i].permit = some p) :
    s.victimKeys i = [s.cls p.unit, p.minRunMet.toNat, p.rotationDue.toNat, s.slots[i].counter] := by
  unfold State.victimKeys
  rw [hp]

theorem Bool.toNat_lt_toNat_iff {a b : Bool} : a.toNat < b.toNat ↔ a = false ∧ b = true := by
  cases a <;> cases b <;> decide

/-- A permit goes before another by a key, or by its lower slot where the keys are the same (R129). -/
theorem State.goesBefore_iff {i j : SlotNo} {p q : Permit} (hp : s.slots[i].permit = some p)
    (hq : s.slots[j].permit = some q) : s.goesBefore i j p q ↔ keysAfter (s.victimKeys j) (s.victimKeys i) = true
      ∨ s.victimKeys j = s.victimKeys i ∧ i < j := by
  have hinj (a b : Bool) : a.toNat = b.toNat ↔ a = b := by cases a <;> cases b <;> decide
  rw [State.victimKeys_of hp, State.victimKeys_of hq]
  unfold State.goesBefore
  generalize s.slots[i].counter = x, s.slots[j].counter = y
  simp only [keysAfter]
  by_cases hcls : s.cls q.unit = s.cls p.unit
  · by_cases hmet : q.minRunMet = p.minRunMet
    · by_cases hdue : q.rotationDue = p.rotationDue
      · simp only [hcls, hmet, hdue, if_true, List.cons.injEq, lt_irrefl, true_and, and_true, false_or]
        by_cases hcount : y = x
        · simp [hcount]
        · simp [hcount, Ne.symm hcount]
      · rw [if_pos hcls, if_pos (by rw [hmet]), if_neg (by rw [hinj]; exact hdue), decide_eq_true_eq,
          Bool.toNat_lt_toNat_iff]
        simp [hcls, hmet, hdue, hinj, Ne.symm hdue, and_comm]
    · rw [if_pos hcls, if_neg (by rw [hinj]; exact hmet), decide_eq_true_eq, Bool.toNat_lt_toNat_iff]
      simp [hcls, hmet, hinj, Ne.symm hmet, and_comm]
  · rw [if_neg hcls, decide_eq_true_eq]
    simp [hcls, Ne.symm hcls]

theorem keysAfter_asymm : ∀ {a b : List Nat}, keysAfter a b = true → keysAfter b a = false
  | [], _, h => by cases h
  | _ :: _, [], h => by cases h
  | x :: a, y :: b, h => by
    unfold keysAfter at h ⊢
    by_cases hxy : x = y
    · rw [if_pos hxy] at h
      rw [if_pos hxy.symm]
      exact keysAfter_asymm h
    · rw [if_neg hxy] at h
      rw [if_neg (Ne.symm hxy)]
      have := of_decide_eq_true h
      exact decide_eq_false (by omega)

theorem keysAfter_irrefl (a : List Nat) : keysAfter a a = false := by
  cases h : keysAfter a a with
  | false => rfl
  | true => exact h.symm.trans (keysAfter_asymm h)

/-- The first of slots in ascending order is the one that goes before every other. -/
theorem State.firstVictim_eq {i : SlotNo} : ∀ {l : List SlotNo}, l.Pairwise (· < ·) → i ∈ l →
    (∀ j ∈ l, j ≠ i → keysAfter (s.victimKeys j) (s.victimKeys i) = true ∨ s.victimKeys j = s.victimKeys i ∧ i < j) →
    s.firstVictim l = some i
  | [], _, hi, _ => absurd hi List.not_mem_nil
  | a :: l, hl, hi, hbest => by
    obtain ⟨hal, hl⟩ := List.pairwise_cons.mp hl
    rw [State.firstVictim]
    by_cases ha : a = i
    · subst ha
      split
      · rfl
      · next b hb =>
        have hmem := firstVictim_mem hb
        have hlt := hal b hmem
        rw [if_neg]
        rw [Bool.not_eq_true]
        rcases hbest b (List.mem_cons_of_mem a hmem) (ne_of_gt hlt) with h | ⟨h, -⟩
        · exact keysAfter_asymm h
        · rw [h]; exact keysAfter_irrefl _
    · have hmem : i ∈ l := (List.mem_cons.mp hi).resolve_left (Ne.symm ha)
      rw [State.firstVictim_eq hl hmem fun j hj => hbest j (List.mem_cons_of_mem a hj)]
      dsimp only
      rw [if_pos]
      rcases hbest a List.mem_cons_self ha with h | ⟨-, h⟩
      · exact h
      · exact absurd (hal i hmem) (Nat.not_lt.mpr (Nat.le_of_lt h))

/-- The first victim of a kind (R128, R129). -/
theorem State.firstVictim_victims {f : Permit → Bool} {i : SlotNo} {p : Permit} (hi : i ∈ s.victims f)
    (hp : s.slots[i].permit = some p) (hbest : ∀ (j : SlotNo) (q : Permit), j ∈ s.victims f → s.slots[j].permit = some q →
      j ≠ i → s.goesBefore i j p q) : s.firstVictim (s.victims f) = some i := by
  refine State.firstVictim_eq ((List.pairwise_lt_finRange 96).filter _) hi fun j hj hji => ?_
  obtain ⟨q, hq, -⟩ := State.mem_victims.mp hj
  exact (State.goesBefore_iff hp hq).mp (hbest j q hj hq hji)

/-! ### The stop of a victim (R31, R62, R129) -/

/-- What the stop of a victim leaves of its slot, of the gate and of the other RUNNING permits. -/
def State.VictimStopped (s t : State) (i : SlotNo) (p : Permit) (reason : StopReason) : Prop :=
  t.shedGate = .counting (s.site.shedSpacing + 1)
    ∧ (∀ (j : SlotNo) (q : Permit), s.slots[j].permit = some q → q.state = .running → j ≠ i → t.slots[j] = s.slots[j])
    ∧ (p.minRunMet = true ∨ s.minRun p.unit ≤ s.slots[i].counter → isWired p.unit = false →
      p.unit ∈ t.link.urgent ∧ t.slots[i] = { s.slots[i] with
        counter := 0, aValue := s.site.complianceTimeout, aArmed := true, pArmed := false
        permit := some { p with state := .stopping, reason := some reason, minRunMet := true, rotationDue := false } })
    ∧ (p.minRunMet = true ∨ s.minRun p.unit ≤ s.slots[i].counter → s.minOff p.unit ≠ 0 →
      ∀ c : ChannelNo, channelUnit c = p.unit → t.driveOutput c = .inactive ∧ t.slots[i] = { s.slots[i] with
        counter := 0, aValue := s.minOff p.unit, aArmed := true, pArmed := false
        permit := some { p with state := .resting, reason := some reason, minRunMet := true, rotationDue := false } })
    ∧ (p.minRunMet = false → s.slots[i].counter < s.minRun p.unit →
      t = { s with
        shedGate := .counting (s.site.shedSpacing + 1)
        slots := s.slots.set i { s.slots[i] with
          aValue := s.minRun p.unit, aArmed := true, pArmed := false
          permit := some { p with state := .draining, reason := some reason, rotationDue := false } } })

/-- The stop of a unit's top RUNNING stage, with the desire step behind it (R29, R31). -/
structure State.TopStopped (s t : State) (i : SlotNo) (p : Permit) (reason : StopReason) : Prop where
  shedGate : t.shedGate = s.shedGate
  others : ∀ (j : SlotNo) (q : Permit), s.slots[j].permit = some q → q.state = .running → j ≠ i → t.slots[j] = s.slots[j]
  linked : p.minRunMet = true ∨ s.minRun p.unit ≤ s.slots[i].counter → isWired p.unit = false →
    p.unit ∈ t.link.urgent ∧ t.slots[i] = { s.slots[i] with
      counter := 0, aValue := s.site.complianceTimeout, aArmed := true, pArmed := false
      permit := some { p with state := .stopping, reason := some reason, minRunMet := true, rotationDue := false } }
  wired : p.minRunMet = true ∨ s.minRun p.unit ≤ s.slots[i].counter → s.minOff p.unit ≠ 0 →
    ∀ c : ChannelNo, channelUnit c = p.unit → t.driveOutput c = .inactive ∧ t.slots[i] = { s.slots[i] with
      counter := 0, aValue := s.minOff p.unit, aArmed := true, pArmed := false
      permit := some { p with state := .resting, reason := some reason, minRunMet := true, rotationDue := false } }
  waits : p.minRunMet = false → s.slots[i].counter < s.minRun p.unit → t = s.withSlots (s.slots.set i { s.slots[i] with
    aValue := s.minRun p.unit, aArmed := true, pArmed := false
    permit := some { p with state := .draining, reason := some reason, rotationDue := false } })
  drives : p.minRunMet = false → s.slots[i].counter < s.minRun p.unit → ∀ c : ChannelNo, channelUnit c = p.unit →
    t.driveOutput c = .active

theorem SiteRecord.complianceTimeout_pos {r : SiteRecord} (h : r.valid = true) : 0 < r.complianceTimeout := by
  simp only [SiteRecord.valid, inRange, Bool.and_eq_true, decide_eq_true_eq] at h
  omega

theorem State.stopTop (h : s.tablesSound) (hreset : s.resetHeld = false) {i : SlotNo} {p : Permit}
    (hp : s.slots[i].permit = some p) (hrun : p.state = .running) (hk : p.stage + 1 = s.level p.unit)
    {stages : Nat → Bool} (hst : ∀ k < s.level p.unit, stages k = decide (k = p.stage)) (r : StopReason) :
    s.TopStopped ((s.enterStop p.unit r stages).settleLevel p.unit (s.level p.unit)) i p r := by
  have hsound := State.enterStop_sound (u := p.unit) h r stages
  have hfree : (s.enterStop p.unit r stages).freeListSound :=
    (s.narrows_enterStop p.unit r stages).free (State.tables_of_sound h).free
  have hbase : ((s.enterStop p.unit r stages).settleLevel p.unit (s.level p.unit)).resetHeld = false :=
    ((s.enterStop_base p.unit r stages).trans (State.settleLevel_base _ _ _)).resetHeld.trans hreset
  have hgate : ((s.enterStop p.unit r stages).settleLevel p.unit (s.level p.unit)).shedGate = s.shedGate :=
    (State.settleLevel_shedGate _ _ _).trans (s.enterStop_aside p.unit r stages).shedGate
  have hsettled {j : SlotNo} := State.settleLevel_slots (i := j) (u := p.unit) hfree (s.level p.unit)
  have hunmet := State.stopTop_unmet h hp hrun hk hst r
  have hmet := State.stopTop_met h hp hrun hk hst r
  refine ⟨hgate, fun j q hq hqr hj => ?_, fun hm hw => ?_, fun hm hoff c hc => ?_, hunmet,
    fun hm hlt c hc => ?_⟩
  · rcases em (p.minRunMet = true ∨ s.minRun p.unit ≤ s.slots[i].counter) with hm | hm
    · obtain ⟨-, -, hothers⟩ := hmet hm
      have hsame := hothers j q hq hqr hj
      rw [hsettled (by rw [hsame, hq]; exact Option.some_ne_none q), hsame]
    · rw [not_or, Bool.not_eq_true, Nat.not_le] at hm
      rw [hunmet hm.1 hm.2]
      exact (getElem_set_eq s.slots i j _).trans (if_neg hj)
  · obtain ⟨hslot, hlevel, -⟩ := hmet hm
    have hvalue : (s.enterStop p.unit r stages).slots[i] = { s.slots[i] with
        counter := 0, aValue := s.site.complianceTimeout, aArmed := true, pArmed := false
        permit := some { p with state := .stopping, reason := some r, minRunMet := true, rotationDue := false } } := by
      rw [hslot, s.stopped_of_linked p.unit hw, Slot.enterDraining_enterStopping hp hm,
        decide_eq_true (SiteRecord.complianceTimeout_pos (State.tables_of_sound h).records.1)]
    have hc : (s.enterStop p.unit r stages).configured p.unit = true := by
      have hcore := (State.configured_of_permit h hp)
      rcases s.enterStop_keptOrRetired p.unit r stages with hu | ⟨-, hw', -⟩
      · rw [State.configured, (State.record_of_units hu).2]; exact hcore
      · rw [hw] at hw'; cases hw'
    generalize s.enterStop p.unit r stages = t at hvalue hsettled hlevel hc
    refine ⟨State.settleLevel_urgent hw hc (by omega), ?_⟩
    rw [hsettled (by rw [hvalue]; exact Option.some_ne_none _), hvalue]
  · obtain ⟨hslot, -, -⟩ := hmet hm
    have hw : isWired p.unit = true := by rw [← hc]; exact isWired_channelUnit c
    have hvalue : (s.enterStop p.unit r stages).slots[i] = { s.slots[i] with
        counter := 0, aValue := s.minOff p.unit, aArmed := true, pArmed := false
        permit := some { p with state := .resting, reason := some r, minRunMet := true, rotationDue := false } } := by
      rw [hslot, s.stopped_of_wired p.unit hw hoff, Slot.enterDraining_enterResting hp hm,
        decide_eq_true (Nat.pos_of_ne_zero hoff)]
    have hfinal := hsettled (j := i) (by rw [hvalue]; exact Option.some_ne_none _)
    rw [hvalue] at hfinal
    refine ⟨?_, hfinal⟩
    exact State.driveOutput_off hsound hbase (i := i)
      (p := { p with state := .resting, reason := some r, minRunMet := true, rotationDue := false })
      (congrArg Slot.permit hfinal) hc rfl
  · have hslot := (congrArg (fun t : State => t.slots[i]) (hunmet hm hlt)).trans
      ((getElem_set_eq s.slots i i _).trans (if_pos rfl))
    exact State.driveOutput_on hsound hbase (i := i)
      (p := { p with state := .draining, reason := some r, rotationDue := false }) (congrArg Slot.permit hslot) hc rfl

/-- The stop of a victim, behind the closing of the gate (R62). -/
theorem State.stopVictim_stopped (h : s.tablesSound) (hreset : s.resetHeld = false) {i : SlotNo} {p : Permit}
    (hp : s.slots[i].permit = some p) (hrun : p.state = .running) (hk : p.stage + 1 = s.level p.unit)
    (r : StopReason) : s.VictimStopped (s.stopVictim r i) i p r := by
  have hclosed : ({ s with shedGate := .counting (s.site.shedSpacing + 1) } : State).tablesSound :=
    State.tablesSound_congr (s := s) h ⟨rfl, rfl, rfl, rfl⟩ (List.Sublist.refl _)
  have hstop := State.stopTop hclosed hreset hp hrun hk (stages := fun k => decide (k = p.stage)) (fun _ _ => rfl) r
  have heq : s.stopVictim r i = (State.enterStop p.unit r (fun k => decide (k = p.stage))
      { s with shedGate := .counting (s.site.shedSpacing + 1) }).settleLevel p.unit (s.level p.unit) := by
    unfold State.stopVictim
    rw [hp]
  rw [heq]
  exact ⟨hstop.shedGate, hstop.others, hstop.linked, hstop.wired, hstop.waits⟩

end

/-- Settles O32: the first of the victims in victim order, and the stop of a unit's top RUNNING stage. -/
theorem shedActionStopsTheFirstVictim : Obligations.ShedActionStopsTheFirstVictim := by
  intro s i p reason victim hsound hreset hgate hregime hvictim hbest
  have ht : ({ s with shedGate := .opened } : State).tablesSound :=
    State.tablesSound_congr (s := s) hsound ⟨rfl, rfl, rfl, rfl⟩ (List.Sublist.refl _)
  obtain ⟨hp, hrun, hk, hc, hcls⟩ := hvictim
  have hstopped := State.stopVictim_stopped ht hreset hp hrun hk reason
  refine ⟨_, exec_shedGateOpening hreset hgate, ?_⟩
  have haction : State.shedAction { s with shedGate := .opened } = State.stopVictim reason i { s with shedGate := .opened } := by
    unfold State.shedAction
    rcases hregime with ⟨rfl, hover⟩ | ⟨rfl, hnormal, hsome⟩
    · have hfirst : State.firstVictim { s with shedGate := .opened }
          (State.victims { s with shedGate := .opened } fun _ => true) = some i :=
        State.firstVictim_victims (State.mem_victims.mpr ⟨p, hp, hrun, hk, hc, rfl⟩) hp fun j q hj hq hji => by
          obtain ⟨q', hq', h1, h2, h3, -⟩ := State.mem_victims.mp hj
          cases hq.symm.trans hq'
          exact hbest j q ⟨hq, h1, h2, h3, fun h => by cases h⟩ hji
      rw [if_pos hover, hfirst]
    · obtain ⟨c, hthr⟩ := Option.isSome_iff_exists.mp hsome
      have hfirst : State.firstVictim { s with shedGate := .opened } (State.victims { s with shedGate := .opened }
          fun p => decide (c ≤ s.cls p.unit)) = some i :=
        State.firstVictim_victims (State.mem_victims.mpr ⟨p, hp, hrun, hk, hc, decide_eq_true (hcls rfl c hthr)⟩) hp
          fun j q hj hq hji => by
            obtain ⟨q', hq', h1, h2, h3, h4⟩ := State.mem_victims.mp hj
            cases hq.symm.trans hq'
            refine hbest j q ⟨hq, h1, h2, h3, fun _ c' hc' => ?_⟩ hji
            cases hthr.symm.trans hc'
            exact of_decide_eq_true h4
      have hcurtail : State.curtailVictim { s with shedGate := .opened } = some i := by
        unfold State.curtailVictim
        rw [show ({ s with shedGate := .opened } : State).shed.threshold = some c from hthr]
        exact hfirst
      have hne : ¬({ s with shedGate := .opened } : State).shed.demand = .overload := by
        rw [show ({ s with shedGate := .opened } : State).shed.demand = .normal from hnormal]; decide
      rw [if_neg hne, hcurtail]
  rw [haction]
  exact hstopped

end Sys2Proof.Machine


/-! Rotation: the candidates of an entry, in queue order, and the stop of the first of them (R140, R141). -/

namespace Sys2Proof.Machine

section

variable {s : State}

/-- A curtail that finds no RUNNING top stage of its classes has no victim (R136). -/
theorem State.curtailVictim_eq_none (h : ∀ c ∈ s.shed.threshold, ∀ (j : SlotNo) (q : Permit), s.slots[j].permit = some q →
    q.state = .running → q.stage + 1 = s.level q.unit → s.cls q.unit < c ∨ s.cls q.unit = 0) :
    s.curtailVictim = none := by
  unfold State.curtailVictim
  cases hc : s.shed.threshold with
  | none => rfl
  | some c =>
    have hnil : s.victims (fun p => decide (c ≤ s.cls p.unit)) = [] := State.victims_eq_nil fun j q hq h1 h2 h3 =>
      decide_eq_false (Nat.not_le.mpr ((h c hc j q hq h1 h2).resolve_right h3))
    simp only [hnil]
    rfl

/-- The permits that may be stopped for an entry (R140). -/
def State.RotatesFor (s : State) (e : QueueEntry) (j : SlotNo) (q : Permit) : Prop :=
  s.slots[j].permit = some q ∧ q.state = .running ∧ q.stage + 1 = s.level q.unit ∧ s.cls q.unit ≠ 0
    ∧ q.rotationDue = true ∧ q.unit ≠ e.unit ∧ s.cls e.unit ≤ s.cls q.unit
    ∧ ∃ rating, s.rating e.unit (s.level e.unit) = some rating ∧ rating ≤ q.rating

theorem State.rotatesFor_iff {e : QueueEntry} {rating : Nat} (hr : s.rating e.unit (s.level e.unit) = some rating)
    {j : SlotNo} {q : Permit} (hq : s.slots[j].permit = some q) :
    s.RotatesFor e j q ↔ j ∈ s.victims (s.rotationCandidate e rating) := by
  rw [State.mem_victims]
  unfold State.RotatesFor
  constructor
  · rintro ⟨-, h1, h2, h3, h4, h5, h6, r, hr', h7⟩
    cases hr.symm.trans hr'
    exact ⟨q, hq, h1, h2, h3, by simp [State.rotationCandidate, h4, h5, h6, h7]⟩
  · rintro ⟨q', hq', h1, h2, h3, hf⟩
    cases hq.symm.trans hq'
    simp only [State.rotationCandidate, Bool.and_eq_true, decide_eq_true_eq] at hf
    obtain ⟨⟨⟨h4, h5⟩, h6⟩, h7⟩ := hf
    exact ⟨hq, h1, h2, h3, h4, h5, h6, rating, hr, h7⟩

/-- An entry that waits for neither demand nor budget, or has no candidate, is passed over. -/
theorem State.rotationChoice_cons {e : QueueEntry} (h : e.reason = .demand ∨ e.reason = .budget → ∀ j q, ¬ s.RotatesFor e j q)
    (rest : List QueueEntry) : s.rotationChoice (e :: rest) = s.rotationChoice rest := by
  rw [State.rotationChoice]
  split
  · next hreason =>
    simp only [Bool.or_eq_true, decide_eq_true_eq] at hreason
    cases hr : s.rating e.unit (s.level e.unit) with
    | none => rfl
    | some rating =>
      have hnil : s.victims (s.rotationCandidate e rating) = [] := List.eq_nil_iff_forall_not_mem.mpr fun j hj => by
        obtain ⟨q, hq, -⟩ := State.mem_victims.mp hj
        exact h hreason j q ((State.rotatesFor_iff hr hq).mpr hj)
      simp only [hnil]
      rfl
  · rfl

theorem State.rotationChoice_append {front : List QueueEntry} (rest : List QueueEntry)
    (h : ∀ f ∈ front, f.reason = .demand ∨ f.reason = .budget → ∀ j q, ¬ s.RotatesFor f j q) :
    s.rotationChoice (front ++ rest) = s.rotationChoice rest := by
  induction front with
  | nil => rfl
  | cons f front ih =>
    exact (State.rotationChoice_cons (h f List.mem_cons_self) _).trans (ih fun g hg => h g (List.mem_cons_of_mem f hg))

theorem State.rotationChoice_first {e : QueueEntry} (he : e.reason = .demand ∨ e.reason = .budget) {i : SlotNo} {p : Permit}
    (hi : s.RotatesFor e i p) (hbest : ∀ (j : SlotNo) (q : Permit), s.RotatesFor e j q → j ≠ i → s.goesBefore i j p q)
    (rest : List QueueEntry) : s.rotationChoice (e :: rest) = some i := by
  obtain ⟨hp, -, -, -, -, -, -, rating, hr, -⟩ := id hi
  have hfirst : s.firstVictim (s.victims (s.rotationCandidate e rating)) = some i :=
    State.firstVictim_victims ((State.rotatesFor_iff hr hp).mp hi) hp fun j q hj hq hji =>
      hbest j q ((State.rotatesFor_iff hr hq).mpr hj) hji
  rw [State.rotationChoice, if_pos (by simpa using he), hr]
  simp only [hfirst]

theorem State.shedAction_of_no_victim (hne : s.shed.demand ≠ .overload) (hcurtail : s.curtailVictim = none) :
    s.shedAction = (s.rotationChoice s.queue).elim s fun i => s.stopVictim .rotated i := by
  rw [State.shedAction, if_neg hne, hcurtail]
  cases s.rotationChoice s.queue <;> rfl

end

/-- Settles O34: what rotation chooses, along the queue, and the stop of a unit's top RUNNING stage. -/
theorem rotationStopsTheFirstCandidate : Obligations.RotationStopsTheFirstCandidate := by
  intro s candidate idle hsound hreset hgate hnormal hcurtail
  have hexec := exec_shedGateOpening hreset hgate
  have ht : ({ s with shedGate := .opened } : State).tablesSound :=
    State.tablesSound_congr (s := s) hsound ⟨rfl, rfl, rfl, rfl⟩ (List.Sublist.refl _)
  have hnone : State.curtailVictim { s with shedGate := .opened } = none := State.curtailVictim_eq_none hcurtail
  have haction := State.shedAction_of_no_victim (s := { s with shedGate := .opened })
    (by rw [show ({ s with shedGate := .opened } : State).shed.demand = .normal from hnormal]; decide) hnone
  refine ⟨fun hidle => ?_, fun front behind e i p hq hfront he hi hbest => ?_⟩
  · have hchoice : State.rotationChoice { s with shedGate := .opened } s.queue = none :=
      (congrArg _ (List.append_nil s.queue).symm).trans (State.rotationChoice_append [] hidle)
    rw [hexec, haction]
    exact congrArg (fun o => Host.Outcome.next (Option.elim o _ _)) hchoice
  · obtain ⟨hp, hrun, hk, -⟩ := id hi
    have hchoice : State.rotationChoice { s with shedGate := .opened } s.queue = some i := by
      have hskip := State.rotationChoice_append (s := { s with shedGate := .opened }) (e :: behind) hfront
      have hfirst := State.rotationChoice_first (s := { s with shedGate := .opened }) he hi hbest behind
      exact (congrArg _ hq).trans (hskip.trans hfirst)
    refine ⟨_, hexec, ?_⟩
    rw [haction, show State.rotationChoice _ _ = _ from hchoice]
    exact State.stopVictim_stopped ht hreset hp hrun hk .rotated

end Sys2Proof.Machine


/-! The on-limit stop of a cycling channel (R164, R166, R167). -/

namespace Sys2Proof.Machine

section

variable {s : State} {c : ChannelNo}

/-- What the on-limit test asks of a channel (R166, R167). -/
def State.CyclesOut (s : State) (c : ChannelNo) (w : WiredFields) : Prop :=
  ((w.cyclingMode = .always ∨ s.shed.demand = .overload ∨ s.shed.threshold.isSome = true) ∧ 0 < w.onLimit
    ∧ w.onLimit < w.cyclePeriod) ∧ s.channels[c].grantRecorded = true ∧ w.onLimit * 60 ≤ s.channels[c].cycleCounter

theorem State.cyclesOut_iff {w : WiredFields} (hw : s.wiredFields c = some w) : s.CyclesOut c w ↔
    (s.cyclingApplies c && s.channels[c].grantRecorded
      && (s.wiredFields c).any fun w => decide (w.onLimit * 60 ≤ s.channels[c].cycleCounter)) = true := by
  unfold State.CyclesOut State.cyclingApplies
  rw [hw]
  simp [and_assoc, or_assoc]

theorem State.onLimitVictim_eq_none {w : WiredFields} (hw : s.wiredFields c = some w) (h : ¬ s.CyclesOut c w
    ∨ ∀ i : SlotNo, ∀ p ∈ s.slots[i].permit, p.unit = channelUnit c → p.state ≠ .running) : s.onLimitVictim c = none := by
  unfold State.onLimitVictim
  split
  · next hout =>
    have hnone := h.resolve_left fun hn => hn ((State.cyclesOut_iff hw).mpr hout)
    refine List.find?_eq_none.mpr fun i _ hi => ?_
    obtain ⟨p, hp, hu, hf⟩ := (s.holds_iff _ _ i).mp hi
    simp only [Bool.and_eq_true, decide_eq_true_eq] at hf
    exact hnone i p hp hu hf.1
  · rfl

theorem State.onLimitVictim_isSome {w : WiredFields} (hw : s.wiredFields c = some w) (h : s.CyclesOut c w) {i : SlotNo}
    {p : Permit} (hp : s.slots[i].permit = some p) (hu : p.unit = channelUnit c) (hrun : p.state = .running)
    (hstage : p.stage = 0) : (s.onLimitVictim c).isSome = true := by
  unfold State.onLimitVictim
  rw [if_pos ((State.cyclesOut_iff hw).mp h), List.find?_isSome]
  exact ⟨i, List.mem_finRange i, (s.holds_iff _ _ i).mpr ⟨p, hp, hu, by simp [hrun, hstage]⟩⟩

end

/-- Settles O48: the stage of a wired unit is its top one. -/
theorem cycleStopsAtTheOnLimit : Obligations.CycleStopsAtTheOnLimit := by
  intro s c w hsound hreset hdue hw cycling
  have hexec : exec (.cycleOnLimitStop c) s = .next (s.cycleStop c) :=
    congrArg Host.Outcome.next (State.live_of_running hreset _)
  refine ⟨fun hnone => ?_, fun i p hcycling hgrant hcount hp hu hrun hoff => ⟨_, hexec, ?_⟩⟩
  · have hvictim := State.onLimitVictim_eq_none hw hnone
    rw [hexec, State.cycleStop, if_pos hdue, hvictim]
    rfl
  · have ht : (s.modifyChannel c fun ch => { ch with testDue := false }).tablesSound :=
      State.tablesSound_congr (s := s) hsound ⟨rfl, rfl, rfl, rfl⟩ (List.Sublist.refl _)
    obtain ⟨hstage, hlevel⟩ := State.wired_top hsound hp (by rw [hu]; exact isWired_channelUnit c)
      (commandedOn_of_starting_or_running (.inr hrun))
    obtain ⟨v, hv⟩ := Option.isSome_iff_exists.mp
      (State.onLimitVictim_isSome hw ⟨hcycling, hgrant, hcount⟩ hp hu hrun hstage)
    have hstop := State.stopTop ht hreset hp hrun (hstage.symm ▸ hlevel.symm) (stages := fun k => decide (k = 0))
      (fun k _ => by rw [hstage]) .cycled
    have heq : s.cycleStop c = ((s.modifyChannel c fun ch => { ch with testDue := false }).enterStop p.unit .cycled
        fun k => decide (k = 0)).settleLevel p.unit (s.level p.unit) := by
      rw [State.cycleStop, if_pos hdue, hv, hu]
    obtain ⟨t, hcycle, hstop⟩ : ∃ t, s.cycleStop c = t ∧ State.TopStopped _ t i p .cycled := ⟨_, heq, hstop⟩
    rw [hcycle]
    refine ⟨hstop.shedGate, fun hm => hstop.wired hm hoff c hu.symm, fun hm hc => ?_⟩
    have hwaits := hstop.waits hm hc
    refine ⟨by rw [hwaits]; rfl, hstop.drives hm hc c hu.symm, ?_⟩
    rw [hwaits]
    exact (getElem_set_eq s.slots i i _).trans (if_pos rfl)

end Sys2Proof.Machine


/-! The expiry of the minimum run in DRAINING, and the cascade of top order behind it (R29 to R31). -/

namespace Sys2Proof.Machine

section

variable {s : State} {u : UnitNo}

theorem Permit.descends_iff {p : Permit} : p.descends = true ↔ p.state = .draining ∧ p.minRunMet = true := by
  rw [Permit.descends, Bool.and_eq_true, decide_eq_true_eq]

/-- How far top order carries a stage below a top one that descends: with every stage from it up, or not at all (R30). -/
theorem State.InOrder.topOrder_below (ho : s.InOrder u) (h4 : s.level u ≤ 4) {i : SlotNo} {p : Permit}
    (hp : s.slots[i].permit = some p) (hu : p.unit = u) (hk : p.stage + 1 = s.level u) (hd : p.descends = true)
    {j : SlotNo} {q : Permit} (hq : s.slots[j].permit = some q) (hqu : q.unit = u) (hlt : q.stage < p.stage) :
    ((∀ (k : SlotNo) (m : Permit), s.slots[k].permit = some m → m.unit = u → q.stage ≤ m.stage → m.stage < p.stage →
        m.descends = true) → (s.topOrder u).slots[j] = s.stopped u s.slots[j])
    ∧ ((∃ (k : SlotNo) (m : Permit), s.slots[k].permit = some m ∧ m.unit = u ∧ q.stage ≤ m.stage ∧ m.stage < p.stage
        ∧ ¬ m.descends = true) → (s.topOrder u).slots[j] = s.slots[j]) := by
  obtain ⟨-, hstop⟩ := ho.topOrder h4
  obtain ⟨-, hfall⟩ := State.topOrder_top ho h4 hp hu hk hd
  have hreach {k : SlotNo} {m : Permit} (hm : s.slots[k].permit = some m) (hmu : m.unit = u) := ho.descend_slots 4 hm hmu
  refine ⟨fun hall => ((hreach hq hqu).2 (Nat.not_lt.mp fun hstay => ?_) (by omega)).2,
    fun ⟨k, m, hm, hmu, hqm, hmp, hmd⟩ => (hreach hq hqu).1 (Nat.not_le.mp fun hgone => hmd ?_)⟩
  · obtain ⟨k, m, hm, hmu, hmk, -⟩ := ho.exists_on (k := (s.topOrder u).level u - 1) (by omega)
    have hstay' : q.stage < (s.topOrder u).level u := hstay
    have hno := hstop k m hm hmu (by omega)
    rw [hall k m hm hmu (by omega) (by omega)] at hno
    cases hno
  · exact ((hreach hm hmu).2 (le_trans hgone hqm) (by omega)).1

/-- The desire step behind top order leaves every slot that still holds a permit. -/
theorem State.topOrder_settled (h : s.tablesSound) {j : SlotNo} {sl : Slot} (hj : (s.topOrder u).slots[j] = sl)
    (hsl : sl.permit ≠ none) (n : Nat) : ((s.topOrder u).settleLevel u n).slots[j] = sl := by
  rw [State.settleLevel_slots ((s.narrows_topOrder u).free (State.tables_of_sound h).free) n (by rw [hj]; exact hsl), hj]

theorem State.topOrder_urgent (h : s.tablesSound) {i : SlotNo} {p : Permit} (hp : s.slots[i].permit = some p)
    (hk : p.stage + 1 = s.level p.unit) (hd : p.descends = true) (hw : isWired p.unit = false) :
    p.unit ∈ ((s.topOrder p.unit).settleLevel p.unit (s.level p.unit)).link.urgent := by
  obtain ⟨-, hfall⟩ := State.topOrder_top (State.tablesSound_inOrder h p.unit) (State.level_le_four h _) hp rfl hk hd
  have hc : (s.topOrder p.unit).configured p.unit = true := by
    have hcore := State.configured_of_permit h hp
    rcases State.descend_keptOrRetired p.unit 4 s with hu | ⟨-, hw', -⟩
    · have hu : (s.topOrder p.unit).units[p.unit] = s.units[p.unit] := hu
      rw [State.configured, (State.record_of_units hu).2]
      exact hcore
    · rw [hw] at hw'
      cases hw'
  exact State.settleLevel_urgent hw hc (Nat.ne_of_lt hfall)

/-! ### Min-run met, in its slot -/

/-- The state whose minimum run has run out in a slot (R55). -/
def State.metAt (i : SlotNo) (s : State) : State := s.modifySlot i fun sl => sl.disarmA.meetMinRun

theorem State.drainingExpiry_of {i : SlotNo} {p : Permit} (h : s.expired .draining i = some p) :
    s.drainingExpiry i = ((s.metAt i).topOrder p.unit).settleLevel p.unit (s.level p.unit) := by
  rw [State.drainingExpiry, h]
  rfl

theorem State.metAt_sound (h : s.tablesSound) {i : SlotNo} {p : Permit} (hp : s.slots[i].permit = some p) :
    (s.metAt i).tablesSound :=
  State.modifySlot_sound h hp ⟨_, Slot.meetMinRun_permit hp, rfl, rfl, rfl, rfl⟩

theorem State.metAt_eq {i : SlotNo} {p : Permit} (hp : s.slots[i].permit = some p) : s.metAt i = { s with
    slots := s.slots.set i { s.slots[i] with aArmed := false, permit := some { p with minRunMet := true } } } := by
  have hslot : s.slots[i].disarmA.meetMinRun
      = { s.slots[i] with aArmed := false, permit := some { p with minRunMet := true } } := by
    simp only [Slot.meetMinRun, Slot.disarmA, hp, Option.map_some]
  rw [State.metAt, State.modifySlot, hslot]

theorem State.metAt_slots {i : SlotNo} {p : Permit} (hp : s.slots[i].permit = some p) (j : SlotNo) : (s.metAt i).slots[j]
    = if j = i then { s.slots[i] with aArmed := false, permit := some { p with minRunMet := true } } else s.slots[j] := by
  rw [State.metAt_eq hp]
  exact getElem_set_eq s.slots i j _

theorem State.metAt_level {i : SlotNo} {p : Permit} (hp : s.slots[i].permit = some p) (u : UnitNo) :
    (s.metAt i).level u = s.level u := by
  have hroles : s.SameRoles (s.metAt i) := fun j => by
    rw [State.metAt_slots hp]
    split
    · next hj => subst hj; rw [hp]; rfl
    · rfl
  exact hroles.level u

theorem State.metAt_stopped (i : SlotNo) (u : UnitNo) : (s.metAt i).stopped u = s.stopped u := rfl

end

/-- Settles O43: what the descent of top order reaches, at the top stage, below it and where it is held up. -/
theorem drainingMinRunExpiryAppliesTopOrder : Obligations.DrainingMinRunExpiryAppliesTopOrder := by
  intro s i p hsound hreset hp hdraining harmed hdue
  have hexp := State.expired_some hp hdraining harmed hdue
  have hexec : exec (.drainingMinRunExpiry i) s = .next (s.drainingExpiry i) :=
    congrArg Host.Outcome.next (State.live_of_running hreset _)
  have hmet := State.metAt_sound hsound hp
  have hslots := State.metAt_slots hp
  have hlevel := State.metAt_level hp p.unit
  have hstopped := s.metAt_stopped i p.unit
  have hfinal := State.drainingExpiry_sound hsound i
  have hbase := ((s.drainingExpiry_base i).resetHeld).trans hreset
  rw [State.drainingExpiry_of hexp, ← hlevel] at hexec hfinal hbase
  have hgate : (s.metAt i).shedGate = s.shedGate := rfl
  have heq := State.metAt_eq hp
  generalize s.metAt i = w at hexec hmet hslots hlevel hstopped hfinal hbase hgate heq
  have ho := State.tablesSound_inOrder hmet p.unit
  have h4 := State.level_le_four hmet p.unit
  have hwi : w.slots[i].permit = some { p with minRunMet := true } :=
    (congrArg Slot.permit (hslots i)).trans (congrArg Slot.permit (if_pos rfl))
  have hother {k : SlotNo} {m : Permit} (hm : s.slots[k].permit = some m) (hk : m.stage ≠ p.stage) :
      w.slots[k] = s.slots[k] := (hslots k).trans (if_neg fun h => hk (by subst h; cases hp.symm.trans hm; rfl))
  have hd : ({ p with minRunMet := true } : Permit).descends = true := Permit.descends_iff.mpr ⟨hdraining, rfl⟩
  have htop (hk : p.stage + 1 = s.level p.unit) := State.topOrder_top ho h4 hwi rfl (hk.trans hlevel.symm) hd
  have hsettled {j : SlotNo} {sl : Slot} := State.topOrder_settled (j := j) (sl := sl) (u := p.unit) hmet (n := w.level p.unit)
  have hpos := SiteRecord.complianceTimeout_pos (State.tables_of_sound hsound).records.1
  refine ⟨fun hk hw => ⟨_, hexec, State.topOrder_urgent (p := { p with minRunMet := true }) hmet hwi (hk.trans hlevel.symm)
    hd hw, ?_, ?_, ?_⟩, fun c hc hoff => ⟨_, hexec, ?_⟩, fun j top htop hu hlt hk => ?_⟩
  · exact ((State.settleLevel_shedGate _ _ _).trans (w.topOrder_aside p.unit).shedGate).trans hgate
  · refine hsettled ((htop hk).1.trans ?_) (Option.some_ne_none _)
    rw [hstopped, s.stopped_of_linked p.unit hw, Slot.enterStopping_of hwi, hslots, if_pos rfl, decide_eq_true hpos]
  · intro j q hq hqu hlt
    have hj := hother hq (Nat.ne_of_lt hlt)
    obtain ⟨hall, hheld⟩ := ho.topOrder_below h4 hwi rfl (hk.trans hlevel.symm) hd (by rw [hj]; exact hq) hqu hlt
    have hback {k : SlotNo} {m : Permit} (hm : w.slots[k].permit = some m) (hmp : m.stage < p.stage) :
        s.slots[k].permit = some m := by
      have hk := hslots k
      split at hk
      · rw [hk] at hm; cases hm; exact absurd hmp (Nat.lt_irrefl _)
      · rw [← hk]; exact hm
    refine ⟨fun hdrains => hsettled ((hall fun k m hm hmu hqm hmp => Permit.descends_iff.mpr
      (hdrains k m (hback hm hmp) hmu hqm hmp)).trans ?_) (Option.some_ne_none _),
      fun ⟨k, m, hm, hmu, hqm, hmp, hmd⟩ => hsettled ((hheld ⟨k, m, ?_, hmu, hqm, hmp, mt Permit.descends_iff.mp hmd⟩).trans hj)
        (by rw [hq]; exact Option.some_ne_none q)⟩
    · rw [hj, hstopped, s.stopped_of_linked p.unit hw, Slot.enterStopping_of hq, decide_eq_true hpos]
    · rw [hother hm (Nat.ne_of_lt hmp)]; exact hm
  · have hw : isWired p.unit = true := by rw [← hc]; exact isWired_channelUnit c
    obtain ⟨h0, h1⟩ := State.wired_top hsound hp hw (by rw [hdraining]; rfl)
    have hslot := hsettled ((htop (by omega)).1.trans (show _ = ({ s.slots[i] with
        counter := 0, aValue := s.minOff p.unit, aArmed := true, pArmed := false
        permit := some { p with state := .resting, minRunMet := true, rotationDue := false } } : Slot) by
      rw [hstopped, s.stopped_of_wired p.unit hw hoff, Slot.enterResting_of hwi, hslots, if_pos rfl,
        decide_eq_true (Nat.pos_of_ne_zero hoff)])) (Option.some_ne_none _)
    exact ⟨State.driveOutput_off hfinal hbase (p := { p with state := .resting, minRunMet := true, rotationDue := false })
      (congrArg Slot.permit hslot) hc rfl, hslot⟩
  · rcases em (top.state = .draining ∧ top.minRunMet = true) with hdrains | hdrains
    · exact .inl hdrains
    · have hheld := State.topOrder_held ho (by rw [hother htop (Nat.ne_of_gt hlt)]; exact htop) hu (hk.trans hlevel.symm)
        (Bool.eq_false_iff.mpr (mt Permit.descends_iff.mp hdrains))
      rw [hexec, hheld, State.settleLevel_of_level rfl, heq]
      exact .inr rfl

end Sys2Proof.Machine


/-! The effects that a request event is made of, and what each of them keeps: the unit's entry but for its noncompliant flag,
and the notices raised (R9, R17, R176). -/

namespace Sys2Proof.Machine

/-- A relation that holds across each effect of a request event before its desire step (R9). -/
structure Effects (u : UnitNo) (R : State → State → Prop) : Prop where
  refl : ∀ s, R s s
  trans : ∀ {s t r}, R s t → R t r → R s r
  slots : ∀ (s : State) (v : Vector Slot 96), R s (s.withSlots v)
  take : ∀ {s t : State} {sl : Slot}, s.takeFree sl = some t → R s t
  rest : ∀ (s : State) (i : SlotNo), R s (s.restSlot u i)
  comply : ∀ s : State, R s (s.settleCompliance u)
  urgent : ∀ s : State, R s (s.joinUrgent u)
  note : ∀ (s : State) (n : Notice), n = .tableFull ∨ n = .noncompliant → R s (s.raise n)

namespace Effects

variable {u : UnitNo} {R : State → State → Prop} (h : Effects u R) (s : State)

include h

theorem slot (i : SlotNo) (f : Slot → Slot) : R s (s.modifySlot i f) := h.slots s _

theorem foldl {f : State → SlotNo → State} (hf : ∀ t i, R t (f t i)) (l : List SlotNo) : ∀ s : State, R s (l.foldl f s) := by
  induction l with
  | nil => exact h.refl
  | cons i l ih => exact fun s => h.trans (hf s i) (ih _)

theorem restAll (l : List SlotNo) : R s (s.restAll u l) := h.foldl h.rest l s

theorem stop (i : SlotNo) : R s (s.stopSlot u i) := by
  unfold State.stopSlot
  split
  · exact h.rest s i
  · exact h.slot s i _

theorem descend (n : Nat) : ∀ s : State, R s (s.descend n u) := by
  induction n with
  | zero => exact h.refl
  | succ n ih =>
    intro s
    rcases s.descend_cases u n with hd | ⟨i, -, -, -, -, -, -, hd⟩ <;> rw [hd]
    · exact h.refl s
    · exact h.trans (h.stop s i) (ih _)

theorem topOrder : R s (s.topOrder u) := h.descend 4 s

theorem enterStop (r : StopReason) (stages : Nat → Bool) : R s (s.enterStop u r stages) := by
  rw [State.enterStop_eq]
  exact h.trans (h.slots s _) (h.topOrder _)

theorem handOver (n : Nat) : R s (s.handOver u n) := by
  unfold State.handOver
  split
  · exact h.refl s
  · exact h.urgent s

theorem trip : R s (s.trip u) := by
  rw [State.trip_eq]
  refine h.trans ?_ (h.handOver _ _)
  refine h.trans ?_ (h.topOrder _)
  refine h.trans ?_ (h.comply _)
  refine h.trans ?_ (h.restAll _ _)
  exact h.foldl (fun t i => h.slot t i _) _ s

theorem complete (r : Nat) : R s (s.complete u r) := h.trans (h.restAll s _) (h.comply _)

theorem adopt (l : List Nat) : ∀ s : State, R s (s.adopt u l) := by
  induction l with
  | nil => exact h.refl
  | cons k l ih =>
    intro s
    unfold State.adopt
    split
    · exact h.trans (h.slot s _ _) (ih _)
    · dsimp only
      split
      · next ht => exact h.trans (h.take ht) (ih _)
      · exact h.note s _ (.inl rfl)

theorem recordUnpermitted (k : Nat) : R s (s.recordUnpermitted u k).1 := by
  unfold State.recordUnpermitted
  extract_lets stop
  split
  · split
    · exact h.slot s _ stop
    · exact h.refl s
  · split
    · next ht => exact h.take ht
    · exact h.refl s

theorem recordAllUnpermitted (l : List Nat) : ∀ s : State, R s (s.recordAllUnpermitted u l).1 := by
  induction l with
  | nil => exact h.refl
  | cons k l ih => exact fun s => h.trans (h.recordUnpermitted s k) (ih _)

theorem unpermitted (l : List Nat) : R s (s.unpermitted u l) := by
  refine h.trans (h.trans (h.recordAllUnpermitted l s) ?_) (h.note _ _ (.inr rfl))
  unfold State.raiseIf
  split
  · exact h.note _ _ (.inl rfl)
  · exact h.refl _

theorem stopAdopted (l : Nat) : R s (s.stopAdopted u l) := by
  unfold State.stopAdopted
  split
  · exact h.enterStop s _ _
  · exact h.refl s

theorem adoptStages (l r : Nat) : R s (s.adoptStages u l r) := by
  rw [State.adoptStages_eq]
  have ht := h.trans (h.trans (h.adopt ((List.range r).drop l) s) (h.comply _)) (h.stopAdopted _ l)
  dsimp only
  split
  · exact ht
  · exact h.trans ht (h.urgent _)

theorem findRunning (r : Nat) : R s (s.findRunning u r) := by
  unfold State.findRunning
  split
  · split
    · exact h.adoptStages s _ _
    · exact h.unpermitted s _
  · exact h.refl s

theorem releaseFrom (d : Nat) : R s (s.releaseFrom u d) := by
  unfold State.releaseFrom
  dsimp only
  split
  · exact h.trans (h.enterStop s _ _) (h.handOver _ _)
  · exact h.refl s

theorem applyDesired : R s (s.applyDesired u) := by
  unfold State.applyDesired
  dsimp only
  split
  · rw [State.restoreBelow_eq]
    exact h.trans (h.slots s _) (h.releaseFrom _ _)
  · exact h.refl s

end Effects

/-! ### The unit's entry (R17) -/

section

variable {s t : State} {u : UnitNo}

/-- Two states with the same entry of a unit, but for its noncompliant flag. -/
def State.SameUnit (u : UnitNo) (s t : State) : Prop :=
  t.record u = s.record u ∧ { t.status u with noncompliant := (s.status u).noncompliant } = s.status u

theorem State.SameUnit.of_units (h : t.units[u] = s.units[u]) : State.SameUnit u s t := by
  obtain ⟨h1, h2⟩ := State.record_of_units h
  exact ⟨h1, by rw [h2]⟩

theorem State.SameUnit.trans {r : State} (h : State.SameUnit u s t) (k : State.SameUnit u t r) : State.SameUnit u s r :=
  ⟨k.1.trans h.1, by rw [← h.2, ← k.2]⟩

theorem State.SameUnit.flag (h : State.SameUnit u s t) :
    t.status u = { s.status u with noncompliant := (t.status u).noncompliant } := by rw [← h.2]

theorem State.SameUnit.state (h : State.SameUnit u s t) : (t.status u).state = (s.status u).state := by rw [h.flag]

theorem State.SameUnit.minOff (h : State.SameUnit u s t) : t.minOff u = s.minOff u := by rw [State.minOff, State.minOff, h.1]

theorem State.SameUnit.minRun (h : State.SameUnit u s t) : t.minRun u = s.minRun u := by rw [State.minRun, State.minRun, h.1]

theorem State.SameUnit.rotation (h : State.SameUnit u s t) : t.rotation u = s.rotation u := by
  rw [State.rotation, State.rotation, h.1]

theorem State.SameUnit.rating (h : State.SameUnit u s t) (k : Nat) : t.rating u k = s.rating u k := by
  rw [State.rating, State.rating, h.1]

theorem State.SameUnit.stageCount (h : State.SameUnit u s t) : t.stageCount u = s.stageCount u := by
  rw [State.stageCount, State.stageCount, h.1]

theorem State.SameUnit.cls (h : State.SameUnit u s t) : t.cls u = s.cls u := by rw [State.cls, State.cls, h.1]

theorem State.SameUnit.effectiveDesired (h : State.SameUnit u s t) : t.effectiveDesired u = s.effectiveDesired u := by
  rw [State.effectiveDesired, State.effectiveDesired, h.flag]

theorem State.SameUnit.configured (h : State.SameUnit u s t) : t.configured u = s.configured u := by
  rw [State.configured, State.configured, h.state]

theorem State.SameUnit.eligible (h : State.SameUnit u s t) : t.eligible u = s.eligible u := by
  rw [Bool.eq_iff_iff, State.eligible_iff, State.eligible_iff, h.flag]

/-- A unit that does not complete its retirement in what is asked of it. -/
def State.Remains (u : UnitNo) (s : State) : Prop := (s.status u).state = .retiring → isWired u = false ∧ s.minOff u ≠ 0

theorem State.SameUnit.remains (h : State.SameUnit u s t) (hs : s.Remains u) : t.Remains u := fun ht => by
  rw [h.minOff]
  exact hs (h.state ▸ ht)

theorem State.Remains.of_active (h : (s.status u).state = .active) : s.Remains u := fun hr => by
  rw [h] at hr; cases hr

theorem State.Remains.of_locked (h : (s.status u).state = .locked) : s.Remains u := fun hr => by
  rw [h] at hr; cases hr

theorem State.restSlot_sameUnit (hr : s.Remains u) (i : SlotNo) : State.SameUnit u s (s.restSlot u i) := by
  unfold State.restSlot
  split
  · next hoff =>
    rcases s.freeSlot_units u i u with h | ⟨-, hst, -⟩
    · exact .of_units h
    · exact absurd hoff (hr hst).2
  · exact .of_units rfl

theorem State.settleCompliance_sameUnit : State.SameUnit u s (s.settleCompliance u) := by
  unfold State.settleCompliance
  split
  · exact .of_units rfl
  · exact ⟨s.record_modifyStatus u u _, by rw [s.status_modifyStatus_same]⟩

/-- The effects of a request event keep the entry of a unit that does not retire within it. -/
theorem effects_sameUnit (u : UnitNo) : Effects u fun s t => s.Remains u → State.SameUnit u s t where
  refl _ _ := .of_units rfl
  trans h k hs := (h hs).trans (k ((h hs).remains hs))
  slots _ _ _ := .of_units rfl
  take h _ := by
    obtain ⟨-, -, -, hunits, -⟩ := State.takeFree_some h
    exact .of_units (by rw [hunits])
  rest _ i hs := State.restSlot_sameUnit hs i
  comply _ _ := State.settleCompliance_sameUnit
  urgent s _ := .of_units (by rw [s.joinUrgent_units])
  note _ _ _ _ := .of_units rfl

theorem State.SameUnit.closeWindow (h : State.SameUnit u s t) : State.SameUnit u (s.closeWindow u) (t.closeWindow u) := by
  unfold State.closeWindow
  refine ⟨?_, ?_⟩
  · rw [t.record_modifyStatus, s.record_modifyStatus, h.1]
  · rw [t.status_modifyStatus_same, s.status_modifyStatus_same, h.flag]

/-- What a request event leaves of the entry of a unit that does not retire within it (R8, R9). -/
theorem State.requested_sameUnit (hc : s.configured u = true) (hr : s.Remains u) (d r : Nat) (c : Condition) :
    State.SameUnit u ((s.recordRequest u d r c).closeWindow u) (s.requested u d r c) := by
  have he := effects_sameUnit u
  have ha : (s.recordRequest u d r c).Remains u := fun hst => by
    rw [State.recordRequest, s.status_modifyStatus_same] at hst
    rw [State.recordRequest, s.modifyStatus_minOff]
    exact hr hst
  have hac : (s.recordRequest u d r c).configured u = true := by
    rw [State.configured, State.recordRequest, s.status_modifyStatus_same]
    exact hc
  unfold State.requested
  extract_lets s1 s2 s3
  have h2 : State.SameUnit u (s.recordRequest u d r c) s2 := by
    dsimp only [s2]
    split
    · exact he.trip s1 ha
    · exact .of_units rfl
  have hs2 := h2.remains ha
  have hc2 : s2.configured u = true := h2.configured.trans hac
  have h3 : State.SameUnit u ((s.recordRequest u d r c).closeWindow u) s3 := by
    dsimp only [s3]
    have hcomplete := he.complete s2 (s2.runningLevel u) hs2
    have hct := hcomplete.configured.trans hc2
    rw [if_pos hc2, State.applyRunning_eq]
    exact (if_pos hct).symm ▸ (h2.trans ((he.trans (fun _ => hcomplete) (he.findRunning _ _)) hs2)).closeWindow
  have hs3 : s3.Remains u := h3.remains fun hst => by
    unfold State.closeWindow at hst ⊢
    rw [State.status_modifyStatus_same] at hst
    rw [State.modifyStatus_minOff]
    exact ha hst
  exact h3.trans (he.applyDesired s3 hs3)

end

/-! ### The notices (R176) -/

section

variable {s t : State} {u : UnitNo}

/-- No notice is withdrawn, and UNIT BACK is not raised. -/
def State.NoticesGrow (s t : State) : Prop :=
  (∀ n : Notice, s.raised n = true → t.raised n = true) ∧ t.raised .unitBack = s.raised .unitBack

theorem State.NoticesGrow.of_panel (h : t.panel = s.panel) : s.NoticesGrow t := by
  unfold State.NoticesGrow State.raised
  rw [h]
  exact ⟨fun _ => id, rfl⟩

theorem State.NoticesGrow.refl (s : State) : s.NoticesGrow s := .of_panel rfl

theorem State.NoticesGrow.trans {r : State} (h : s.NoticesGrow t) (k : t.NoticesGrow r) : s.NoticesGrow r :=
  ⟨fun n hn => k.1 n (h.1 n hn), k.2.trans h.2⟩

theorem State.NoticesGrow.raise (s : State) {n : Notice} (h : n ≠ .unitBack) : s.NoticesGrow (s.raise n) := by
  refine ⟨fun m hm => ?_, ?_⟩
  · rw [State.raised_raise, hm, Bool.true_or]
  · rw [State.raised_raise, decide_eq_false (Ne.symm h), Bool.or_false]

theorem State.joinUrgent_panel (s : State) (u : UnitNo) : (s.joinUrgent u).panel = s.panel := by
  unfold State.joinUrgent
  split <;> rfl

theorem State.onChannelOf_panel (s : State) (u : UnitNo) (f : Channel → Channel) : (s.onChannelOf u f).panel = s.panel := by
  unfold State.onChannelOf
  split <;> rfl

theorem State.freeSlot_noticesGrow (s : State) (u : UnitNo) (i : SlotNo) : s.NoticesGrow (s.freeSlot u i) := by
  unfold State.freeSlot
  refine State.NoticesGrow.trans (t := { s with slots := s.slots.set i Slot.free, freeList := s.freeList ++ [i] })
    (.of_panel rfl) ?_
  unfold State.retireIfEmpty
  split
  · unfold State.completeRetirement
    refine (State.NoticesGrow.of_panel ?_).trans (.raise _ (by decide))
    exact State.onChannelOf_panel _ u _
  · exact .refl _

theorem effects_noticesGrow (u : UnitNo) : Effects u State.NoticesGrow where
  refl := .refl
  trans := .trans
  slots _ _ := .of_panel rfl
  take h := by
    unfold State.takeFree at h
    split at h <;> cases h
    exact .of_panel rfl
  rest s i := by
    unfold State.restSlot
    split
    · exact s.freeSlot_noticesGrow u i
    · exact .of_panel rfl
  comply s := by
    unfold State.settleCompliance
    split
    · exact .refl s
    · exact .of_panel rfl
  urgent s := .of_panel (s.joinUrgent_panel u)
  note s n hn := .raise s (by rcases hn with rfl | rfl <;> decide)

theorem State.applyRunning_noticesGrow (s : State) (u : UnitNo) : s.NoticesGrow (s.applyRunning u) := by
  have he := effects_noticesGrow u
  rw [State.applyRunning_eq]
  have h := he.complete s (s.runningLevel u)
  dsimp only
  split
  · exact (h.trans (he.findRunning _ _)).trans (.of_panel rfl)
  · exact h

theorem State.requested_noticesGrow (s : State) (u : UnitNo) (d r : Nat) (c : Condition) :
    s.NoticesGrow (s.requested u d r c) := by
  have he := effects_noticesGrow u
  unfold State.requested
  extract_lets s1 s2 s3
  have h2 : s.NoticesGrow s2 := by
    dsimp only [s2]
    split
    · exact .trans (.of_panel rfl) (he.trip s1)
    · exact .of_panel rfl
  have h3 : s.NoticesGrow s3 := by
    dsimp only [s3]
    split
    · exact h2.trans (s2.applyRunning_noticesGrow u)
    · exact h2
  exact h3.trans (he.applyDesired s3)

theorem State.desireStep_noticesGrow (s : State) (u : UnitNo) : s.NoticesGrow (s.desireStep u) := by
  obtain ⟨b, q, h⟩ := s.desireStep_queueStep u
  have hraise : s.NoticesGrow (s.raiseIf b .queueFull) := by
    cases b
    · exact .refl s
    · exact .raise s (by decide)
  rcases h with h | ⟨e, -, h⟩ <;> rw [h]
  · exact hraise
  · refine hraise.trans (.of_panel ?_)
    generalize s.raiseIf b .queueFull = t
    show (t.createGrant e.unit).panel = t.panel
    cases hf : t.freeList with
    | nil => rw [t.createGrant_nil e.unit hf]
    | cons i rest => rw [t.createGrant_cons e.unit hf, State.onChannelOf_panel, State.joinUrgent_panel]; rfl

theorem State.requestEvent_noticesGrow (s : State) (u : UnitNo) (d r : Nat) (c : Condition) :
    s.NoticesGrow (s.requestEvent u d r c) :=
  (s.requested_noticesGrow u d r c).trans (State.desireStep_noticesGrow _ u)

end

end Sys2Proof.Machine


/-! A good report: the state that its request event acts on, and what is recorded of it (R8, R14, R153, R154). -/

namespace Sys2Proof.Machine

section

variable {s : State} {u : UnitNo} {d r x : Byte}

/-! ### The state behind a good reply (R13, R154) -/

/-- The link in its gap, and the unit heard: what the request event of a report acts on. -/
def State.reporting (u : UnitNo) (s : State) : State := s.beginGap.hear u

/-- The condition that a report's byte names (R10). -/
def reportedCondition (x : Byte) : Condition := if x = 0#8 then .normal else .tripped

theorem goodReply_reportFrame (u : UnitNo) (d r x : Byte) : goodReply u (reportFrame u d r x) = true := by
  refine (goodReply_of_length rfl).mpr ⟨frameSum_withCheck _, rfl, rfl, rfl, rfl⟩

theorem exec_reportReceived (h : s.awaitsWith u (reportFrame u d r x)) : exec .reportReceived s = .next
    (if s.configured u then (s.reporting u).requestEvent u d.toNat r.toNat (reportedCondition x) else s.beginGap) := by
  obtain ⟨hreset, hline, htrans, hreply, hbroken⟩ := h
  refine congrArg Host.Outcome.next ((State.live_of_running hreset _).trans ?_)
  have hpolled : s.polled = some u := (if_pos hline).trans htrans
  have hlength : (reportFrame u d r x).length = 8 := rfl
  simp only [State.endReply, hpolled, hreply, hbroken, hlength, goodReply_reportFrame, decide_true, Bool.not_false,
    Bool.and_self, if_true]
  rfl

theorem State.beginGap_status (s : State) (u : UnitNo) : s.beginGap.status u = s.status u := rfl

theorem State.reporting_slots (s : State) (u : UnitNo) : (s.reporting u).slots = s.slots := by
  unfold State.reporting State.hear
  dsimp only
  split <;> rfl

theorem State.reporting_freeList (s : State) (u : UnitNo) : (s.reporting u).freeList = s.freeList := by
  unfold State.reporting State.hear
  dsimp only
  split <;> rfl

theorem State.reporting_queue (s : State) (u : UnitNo) : (s.reporting u).queue = s.queue :=
  (s.beginGap.hear_aside u).queue

theorem State.reporting_site (s : State) (u : UnitNo) : (s.reporting u).site = s.site := (s.beginGap.hear_aside u).base.site

theorem State.reporting_record (s : State) (u : UnitNo) : (s.reporting u).record u = s.record u := by
  unfold State.reporting State.hear
  dsimp only
  split
  · rw [State.record, State.raise_units, ← State.record]
    exact (State.record_modifyStatus _ u u _).trans (s.beginGap.record_modifyStatus u u _)
  · exact s.beginGap.record_modifyStatus u u _

/-- The status of a unit that is heard (R14). -/
theorem State.reporting_status (s : State) (u : UnitNo) : (s.reporting u).status u =
    if (s.status u).link = .silent then { s.status u with misses := 0, link := .heard, window := .opened }
    else { s.status u with misses := 0 } := by
  unfold State.reporting State.hear
  dsimp only
  rw [s.beginGap.status_modifyStatus_same, s.beginGap_status]
  split
  · rw [State.status, State.raise_units, ← State.status, State.status_modifyStatus_same, s.beginGap.status_modifyStatus_same,
      s.beginGap_status]
  · rw [s.beginGap.status_modifyStatus_same, s.beginGap_status]

theorem State.reporting_state (s : State) (u : UnitNo) : ((s.reporting u).status u).state = (s.status u).state := by
  rw [State.reporting_status]
  split <;> rfl

theorem State.reporting_link (s : State) (u : UnitNo) : ((s.reporting u).status u).link = .heard := by
  rw [State.reporting_status]
  split
  · rfl
  · next h =>
    show (s.status u).link = .heard
    cases hl : (s.status u).link with
    | heard => rfl
    | silent => exact absurd hl h

theorem State.reporting_misses (s : State) (u : UnitNo) : ((s.reporting u).status u).misses = 0 := by
  rw [State.reporting_status]
  split <;> rfl

theorem State.reporting_window (s : State) (u : UnitNo) :
    ((s.reporting u).status u).window = .opened ↔ (s.status u).window = .opened ∨ (s.status u).link = .silent := by
  rw [State.reporting_status]
  split
  · next h => exact iff_of_true rfl (.inr h)
  · next h => exact (or_iff_left h).symm

theorem State.reporting_raised (s : State) (u : UnitNo) :
    (s.reporting u).raised .unitBack = (s.raised .unitBack || decide ((s.status u).link = .silent)) := by
  unfold State.reporting State.hear
  dsimp only
  rw [s.beginGap.status_modifyStatus_same, s.beginGap_status]
  by_cases h : (s.status u).link = .silent
  · rw [if_pos h, State.raised_raise, decide_eq_true rfl, decide_eq_true h, Bool.or_true, Bool.or_true]
  · rw [if_neg h, decide_eq_false h, Bool.or_false]
    rfl

theorem State.reporting_configured (s : State) (u : UnitNo) : (s.reporting u).configured u = s.configured u := by
  rw [State.configured, State.configured, State.reporting_state]

theorem State.reporting_stageCount (s : State) (u : UnitNo) : (s.reporting u).stageCount u = s.stageCount u := by
  rw [State.stageCount, State.stageCount, State.reporting_record]

theorem State.reporting_minOff (s : State) (u : UnitNo) : (s.reporting u).minOff u = s.minOff u := by
  rw [State.minOff, State.minOff, State.reporting_record]

theorem State.reporting_minRun (s : State) (u : UnitNo) : (s.reporting u).minRun u = s.minRun u := by
  rw [State.minRun, State.minRun, State.reporting_record]

theorem State.reporting_rotation (s : State) (u : UnitNo) : (s.reporting u).rotation u = s.rotation u := by
  rw [State.rotation, State.rotation, State.reporting_record]

theorem State.reporting_cls (s : State) (u : UnitNo) : (s.reporting u).cls u = s.cls u := by
  rw [State.cls, State.cls, State.reporting_record]

theorem State.reporting_level (s : State) (u : UnitNo) : (s.reporting u).level u = s.level u :=
  State.level_congr u fun i => by rw [State.reporting_slots]

theorem State.reporting_remains (h : s.Remains u) : (s.reporting u).Remains u := fun hst => by
  rw [State.reporting_minOff]
  exact h (s.reporting_state u ▸ hst)

theorem State.reporting_sound (h : s.tablesSound) (u : UnitNo) : (s.reporting u).tablesSound :=
  State.hear_sound (s := s.beginGap)
    (State.tablesSound_congr (s := s) h ⟨rfl, rfl, rfl, rfl⟩ (List.Sublist.refl _)) u

/-! ### What is recorded (R8) -/

theorem State.recorded_record (s : State) (u : UnitNo) (d r : Nat) (c : Condition) :
    ((s.recordRequest u d r c).closeWindow u).record u = s.record u :=
  (State.record_modifyStatus _ u u _).trans (s.record_modifyStatus u u _)

theorem State.recorded_status (s : State) (u : UnitNo) (d r : Nat) (c : Condition) :
    ((s.recordRequest u d r c).closeWindow u).status u = { s.status u with
      desired := min d (s.stageCount u), running := min r (s.stageCount u), condition := c, window := .closed } := by
  rw [State.closeWindow, State.status_modifyStatus_same, State.recordRequest, s.status_modifyStatus_same]

/-- The entry behind a request event, as far as it is recorded (R8, R9). -/
theorem State.requestEvent_recorded (hc : s.configured u = true) (hr : s.Remains u) (d r : Nat) (c : Condition) :
    (s.requestEvent u d r c).record u = s.record u ∧ ∃ flag, (s.requestEvent u d r c).status u = { s.status u with
      desired := min d (s.stageCount u), running := min r (s.stageCount u), condition := c, window := .closed
      noncompliant := flag } := by
  have hsame := State.requested_sameUnit hc hr d r c
  have hunits := (State.desireStep_passed (s.requested u d r c) u).units
  rw [State.requestEvent_eq]
  obtain ⟨h1, h2⟩ := State.record_of_units (v := u) (congrArg (·[u]) hunits)
  refine ⟨h1.trans (hsame.1.trans (s.recorded_record u d r c)), ((s.requested u d r c).status u).noncompliant, ?_⟩
  rw [h2, hsame.flag, State.recorded_status]

theorem State.requestEvent_link (s : State) (u : UnitNo) (d r : Nat) (c : Condition) :
    { (s.requestEvent u d r c).link with urgent := s.link.urgent } = s.link := by
  have h1 := (s.requested_aside u d r c).link
  have h2 := (State.desireStep_passed (s.requested u d r c) u).link
  rw [State.requestEvent_eq]
  rw [← h1, ← h2]

end

/-- Settles O53: what the request event behind a good reply keeps of the unit's entry and of the link. -/
theorem goodReportIsRecorded : Obligations.GoodReportIsRecorded := by
  intro s u d r x hawaits hlinked
  have hexec := exec_reportReceived hawaits
  refine ⟨fun hstate => ?_, fun hnone => ?_⟩
  · have hconf : s.configured u = true := decide_eq_true fun h => by
      rw [h] at hstate
      rcases hstate with h | h <;> cases h
    have hremains : (s.reporting u).Remains u := by
      rcases hstate with h | h
      · exact .of_active ((s.reporting_state u).trans h)
      · exact .of_locked ((s.reporting_state u).trans h)
    obtain ⟨hrecord, flag, hstatus⟩ := State.requestEvent_recorded ((s.reporting_configured u).trans hconf) hremains
      d.toNat r.toNat (reportedCondition x)
    have hlink := State.requestEvent_link (s.reporting u) u d.toNat r.toNat (reportedCondition x)
    have hgrow := State.requestEvent_noticesGrow (s.reporting u) u d.toNat r.toNat (reportedCondition x)
    have hgap : { (s.reporting u).link with urgent := s.beginGap.link.urgent } = s.beginGap.link :=
      (s.beginGap.hear_aside u).link
    rw [if_pos hconf] at hexec
    refine ⟨_, hexec, ?_⟩
    generalize (s.reporting u).requestEvent u d.toNat r.toNat (reportedCondition x) = t at hrecord hstatus hlink hgrow
    rw [State.reporting_stageCount] at hstatus
    refine ⟨?_, ?_, ?_, hrecord.trans (s.reporting_record u), ?_, ?_, ?_, ?_, ?_, ?_, ?_, ?_⟩
    · exact (congrArg RoofLink.line hlink).trans (congrArg RoofLink.line hgap)
    · exact (congrArg RoofLink.transaction hlink).trans (congrArg RoofLink.transaction hgap)
    · exact (congrArg RoofLink.gapSpeed hlink).trans (congrArg RoofLink.gapSpeed hgap)
    · exact (congrArg UnitStatus.state hstatus).trans (s.reporting_state u)
    · exact (congrArg UnitStatus.link hstatus).trans (s.reporting_link u)
    · exact (congrArg UnitStatus.misses hstatus).trans (s.reporting_misses u)
    · exact congrArg UnitStatus.desired hstatus
    · exact congrArg UnitStatus.running hstatus
    · exact congrArg UnitStatus.condition hstatus
    · exact congrArg UnitStatus.window hstatus
    · exact hgrow.2.trans (s.reporting_raised u)
  · have hconf : s.configured u = false := decide_eq_false (not_not.mpr hnone)
    rw [hexec, hconf]
    rfl

end Sys2Proof.Machine


/-! What the parts of a request event leave of a slot: the completion and the trip at or above the running level, and that
what rests there is left by the rest of the event (R32, R34, R38, R42, R45). -/

namespace Sys2Proof.Machine

section

variable {s t : State} {u : UnitNo} {i : SlotNo} {p : Permit}

/-! ### Completion (R32) -/

theorem State.complete_slots (s : State) (u : UnitNo) (r : Nat) (i : SlotNo) : (s.complete u r).slots[i] =
    if s.holds u (fun p => decide (p.state = .stopping) && decide (r ≤ p.stage)) i then s.rested u s.slots[i]
    else s.slots[i] := by
  rw [State.complete, State.settleCompliance_slots, State.restAll_slots u _ s (s.slotsOf_nodup u _) i,
    ← s.decide_mem_slotsOf u _ i]
  simp only [decide_eq_true_eq]

theorem State.complete_slots_other {r : Nat} (hp : s.slots[i].permit = some p) (h : p.unit = u → p.state ≠ .stopping) :
    (s.complete u r).slots[i] = s.slots[i] := by
  rw [State.complete_slots, if_neg]
  intro hh
  obtain ⟨q, hq, hqu, hqs⟩ := (s.holds_iff u _ i).mp hh
  cases hp.symm.trans hq
  simp only [Bool.and_eq_true, decide_eq_true_eq] at hqs
  exact h hqu hqs.1

theorem State.complete_slots_stopping {r : Nat} (hp : s.slots[i].permit = some p) (hu : p.unit = u) (hst : p.state = .stopping)
    (hr : r ≤ p.stage) : (s.complete u r).slots[i] = s.rested u s.slots[i] := by
  rw [State.complete_slots, if_pos]
  exact (s.holds_iff u _ i).mpr ⟨p, hp, hu, by simp [hst, hr]⟩

/-! ### What finds its stage running leaves other slots (R42, R45) -/

theorem State.slotAt_ne {k : Nat} {j : SlotNo} (hp : s.slots[i].permit = some p) (hk : p.unit = u → p.stage ≠ k)
    (hj : s.slotAt u k = some j) : i ≠ j := by
  rintro rfl
  obtain ⟨q, hq, hqu, hqk⟩ := s.slotAt_some u hj
  cases hp.symm.trans hq
  exact hk hqu hqk

theorem State.takeFree_slots_other {sl : Slot} (ht : s.takeFree sl = some t) (hfree : i ∉ s.freeList) :
    t.slots[i] = s.slots[i] ∧ i ∉ t.freeList := by
  obtain ⟨j, hj, hslots, -⟩ := State.takeFree_some ht
  rw [hj, List.mem_cons, not_or] at hfree
  exact ⟨(hslots i).trans (if_neg hfree.1), hfree.2⟩

/-- The adoption of one stage, if the table has a slot for it (R42, R43). -/
def State.adoptOne (u : UnitNo) (k : Nat) (s : State) : Option State :=
  match s.slotAt u k with
  | some i => some (s.modifySlot i (Slot.enterRunningAdopted (s.rotation u)))
  | none => s.takeFree ((Slot.newPermit u k ((s.rating u k).getD 0) .running .adopted true none).enterRunningAdopted
      (s.rotation u))

theorem State.adopt_cons (s : State) (u : UnitNo) (k : Nat) (l : List Nat) :
    s.adopt u (k :: l) = (s.adoptOne u k).elim (s.raise .tableFull) (State.adopt u l) := by
  rw [State.adopt, State.adoptOne]
  cases s.slotAt u k with
  | some i => rfl
  | none =>
    dsimp only
    cases s.takeFree ((Slot.newPermit u k ((s.rating u k).getD 0) .running .adopted true none).enterRunningAdopted
      (s.rotation u)) <;> rfl

theorem State.adoptOne_slots_other {k : Nat} (ht : s.adoptOne u k = some t) (hp : s.slots[i].permit = some p)
    (hk : p.unit = u → p.stage ≠ k) (hfree : i ∉ s.freeList) : t.slots[i] = s.slots[i] ∧ i ∉ t.freeList := by
  cases hj : s.slotAt u k with
  | some j =>
    rw [State.adoptOne, hj] at ht
    cases ht
    exact ⟨(s.slots_modifySlot j i _).trans (if_neg (State.slotAt_ne hp hk hj)), hfree⟩
  | none =>
    rw [State.adoptOne, hj] at ht
    exact State.takeFree_slots_other ht hfree

theorem State.adopt_slots_other (l : List Nat) : ∀ s : State, s.slots[i].permit = some p → (p.unit = u → p.stage ∉ l) →
    i ∉ s.freeList → (s.adopt u l).slots[i] = s.slots[i] := by
  induction l with
  | nil => exact fun s _ _ _ => rfl
  | cons k l ih =>
    intro s hp hl hfree
    rw [State.adopt_cons]
    cases ht : s.adoptOne u k with
    | none => rfl
    | some t =>
      obtain ⟨h1, h2⟩ := State.adoptOne_slots_other ht hp (fun hu h => hl hu (h ▸ List.mem_cons_self)) hfree
      exact (ih t (by rw [h1]; exact hp) (fun hu h => hl hu (List.mem_cons_of_mem k h)) h2).trans h1

theorem State.recordUnpermitted_slots_other {k : Nat} (hp : s.slots[i].permit = some p) (hk : p.unit = u → p.stage ≠ k)
    (hfree : i ∉ s.freeList) :
    (s.recordUnpermitted u k).1.slots[i] = s.slots[i] ∧ i ∉ (s.recordUnpermitted u k).1.freeList := by
  rcases s.recordUnpermitted_cases u k with ⟨j, q, hj, -, -, h⟩ | ⟨j, q, -, -, -, h⟩ | ⟨t, -, ht, h⟩ | ⟨-, -, h⟩ <;> rw [h]
  · exact ⟨(s.slots_modifySlot j i _).trans (if_neg (State.slotAt_ne hp hk hj)), hfree⟩
  · exact ⟨rfl, hfree⟩
  · exact State.takeFree_slots_other ht hfree
  · exact ⟨rfl, hfree⟩

theorem State.recordAllUnpermitted_slots_other (l : List Nat) : ∀ s : State, s.slots[i].permit = some p →
    (p.unit = u → p.stage ∉ l) → i ∉ s.freeList → (s.recordAllUnpermitted u l).1.slots[i] = s.slots[i] := by
  induction l with
  | nil => exact fun s _ _ _ => rfl
  | cons k l ih =>
    intro s hp hl hfree
    obtain ⟨h1, h2⟩ := State.recordUnpermitted_slots_other (u := u) (k := k) hp (fun hu h => hl hu (h ▸ List.mem_cons_self))
      hfree
    exact (ih _ (by rw [h1]; exact hp) (fun hu h => hl hu (List.mem_cons_of_mem k h)) h2).trans h1

theorem State.unpermitted_slots (s : State) (u : UnitNo) (l : List Nat) :
    (s.unpermitted u l).slots = (s.recordAllUnpermitted u l).1.slots :=
  State.raiseIf_slots _ _ _

theorem State.stopAdopted_slots_off {l : Nat} (hp : s.slots[i].permit = some p) (h : p.state.commandedOn = false) :
    (s.stopAdopted u l).slots[i] = s.slots[i] := by
  unfold State.stopAdopted
  split
  · refine s.enterStop_slots_other u _ _ (Bool.eq_false_iff.mpr fun hh => ?_)
    obtain ⟨q, hq, -, hon⟩ := (s.holds_iff u _ i).mp hh
    cases hp.symm.trans hq
    rw [h] at hon
    cases hon
  · rfl

/-- An off permit at or above the running level is left by what finds stages running below it. -/
theorem State.findRunning_slots_above {r : Nat} (hp : s.slots[i].permit = some p) (hoff : p.state.commandedOn = false)
    (hr : p.unit = u → r ≤ p.stage) (hfree : i ∉ s.freeList) : (s.findRunning u r).slots[i] = s.slots[i] := by
  have hrange (l : Nat) : p.unit = u → p.stage ∉ (List.range r).drop l := fun hu h =>
    absurd (List.mem_range.mp (List.drop_sublist l _ |>.mem h)) (Nat.not_lt.mpr (hr hu))
  unfold State.findRunning
  split
  · split
    · have hadopt := (congrArg (·[i]) (State.settleCompliance_slots
        (s.adopt u ((List.range r).drop (s.level u))) u)).trans (State.adopt_slots_other _ s hp (hrange _) hfree)
      rw [State.adoptStages_eq]
      generalize (s.adopt u ((List.range r).drop (s.level u))).settleCompliance u = t at hadopt
      have hstop := (State.stopAdopted_slots_off (u := u) (l := s.level u) (by rw [hadopt]; exact hp) hoff).trans hadopt
      dsimp only
      split
      · exact hstop
      · exact (congrArg (·[i]) (State.joinUrgent_slots _ u)).trans hstop
    · exact (congrArg (·[i]) (s.unpermitted_slots u _)).trans (State.recordAllUnpermitted_slots_other _ s hp (hrange _) hfree)
  · rfl

theorem State.not_mem_freeList (hf : s.freeListSound) (hp : s.slots[i].permit = some p) : i ∉ s.freeList := fun h => by
  rw [(hf.2 i).mp h] at hp
  cases hp

/-- What the running level leaves of a slot whose permit rests at or above it, once the STOPPING ones there are complete. -/
theorem State.applyRunning_slots_resting {sl : Slot} (hf : s.freeListSound)
    (hsl : (s.complete u (s.runningLevel u)).slots[i] = sl) (hp : sl.permit = some p) (hst : p.state = .resting)
    (hr : p.unit = u → s.runningLevel u ≤ p.stage) : (s.applyRunning u).slots[i] = sl := by
  have hcf := (s.narrows_complete u (s.runningLevel u)).free hf
  rw [State.applyRunning_eq]
  generalize s.complete u (s.runningLevel u) = t at hsl hcf
  have htp : t.slots[i].permit = some p := by rw [hsl]; exact hp
  dsimp only
  split
  · exact (State.findRunning_slots_above htp (by rw [hst]; rfl) hr (State.not_mem_freeList hcf htp)).trans hsl
  · exact hsl

/-- An off permit that does not drain is left by the desired level (R36, R40). -/
theorem State.applyDesired_slots_off (hp : s.slots[i].permit = some p) (hoff : p.state.commandedOn = false) :
    (s.applyDesired u).slots[i] = s.slots[i] := by
  have hdrain : p.state ≠ .draining := fun h => by rw [h] at hoff; cases hoff
  unfold State.applyDesired
  dsimp only
  split
  · have hrestore : (s.restoreBelow u (s.effectiveDesired u)).slots[i] = s.slots[i] := by
      rw [State.restoreBelow_eq, State.slots_mapSlots, if_neg]
      intro hh
      obtain ⟨q, hq, -, hqs⟩ := (s.holds_iff u _ i).mp hh
      cases hp.symm.trans hq
      simp only [Bool.and_eq_true, decide_eq_true_eq] at hqs
      exact hdrain hqs.1.1
    generalize s.restoreBelow u (s.effectiveDesired u) = t at hrestore
    unfold State.releaseFrom
    dsimp only
    split
    · refine (congrArg (·[i]) (State.handOver_slots _ u _)).trans ?_
      refine (t.enterStop_slots_other u _ _ (Bool.eq_false_iff.mpr fun hh => ?_)).trans hrestore
      obtain ⟨q, hq, -, hon⟩ := (t.holds_iff u _ i).mp hh
      rw [hrestore] at hq
      cases hp.symm.trans hq
      rw [hoff] at hon
      cases hon
    · exact hrestore
  · rfl

/-- The desire step of a request event leaves every slot that still holds a permit (R12). -/
theorem State.requestEvent_slots (hs : s.tablesSound) {d r : Nat} {c : Condition} {sl : Slot}
    (h : (s.requested u d r c).slots[i] = sl) (hsl : sl.permit ≠ none) : (s.requestEvent u d r c).slots[i] = sl := by
  have hf := (State.requested_reworked (State.tables_of_sound hs) (State.tablesSound_inOrder hs u) d r c).tables.free
  rw [State.requestEvent_eq]
  generalize s.requested u d r c = t at h hf
  rw [(t.desireStep_queueStep u).slots_of_permit hf (by rw [h]; exact hsl), h]

/-! ### The trip (R38) -/

theorem State.trip_slots_resting {sl : Slot} (h : (s.trippedDown u).slots[i] = sl) (hp : sl.permit = some p)
    (hst : p.state = .resting) : (s.trip u).slots[i] = sl := by
  rw [State.trip_eq]
  refine (congrArg (·[i]) (State.handOver_slots _ u _)).trans ?_
  have hslots := (congrArg (·[i]) ((s.trippedDown u).settleCompliance_slots u)).trans h
  generalize (s.trippedDown u).settleCompliance u = t at hslots
  rcases t.topOrder_slots u i with h' | ⟨hd, -⟩
  · exact h'.trans hslots
  · obtain ⟨q, hq, -, hqd⟩ := (t.holds_iff u _ i).mp hd
    rw [hslots] at hq
    cases hp.symm.trans hq
    rw [(Permit.descends_iff.mp hqd).1] at hst
    cases hst

end

end Sys2Proof.Machine


/-! What a report trips or completes (R32, R38). -/

namespace Sys2Proof.Machine

section

variable {s : State} {u : UnitNo} {i : SlotNo} {p : Permit}

theorem State.dequeue_queued (s : State) (u : UnitNo) : (s.dequeue u).queued u = false := by
  rw [State.queued, List.any_eq_false]
  intro e he
  have := List.of_mem_filter (p := fun e : QueueEntry => decide (e.unit ≠ u)) he
  simpa using this

/-- The slots and the figures of a unit as its request is recorded. -/
theorem State.recordRequest_runningLevel (s : State) (d r : Nat) (c : Condition) (h : isWired u = false) :
    (s.recordRequest u d r c).runningLevel u = min r (s.stageCount u) := by
  rw [State.runningLevel, h, State.recordRequest, s.status_modifyStatus_same]
  rfl

theorem State.recordRequest_minOff (s : State) (d r : Nat) (c : Condition) :
    (s.recordRequest u d r c).minOff u = s.minOff u := s.modifyStatus_minOff u _

theorem State.SameUnit.runningLevel {t : State} (h : State.SameUnit u s t) (hw : isWired u = false) :
    t.runningLevel u = s.runningLevel u := by
  rw [State.runningLevel, State.runningLevel, hw, h.flag]
  rfl

/-- The running and the desired level of a request, taken (R9). -/
def State.levelsTaken (u : UnitNo) (t : State) : State :=
  (if t.configured u then t.applyRunning u else t).applyDesired u

theorem State.requested_normal (s : State) (u : UnitNo) (d r : Nat) :
    s.requested u d r .normal = (s.recordRequest u d r .normal).levelsTaken u := rfl

theorem State.requested_tripped (s : State) (u : UnitNo) (d r : Nat) :
    s.requested u d r .tripped = ((s.recordRequest u d r .tripped).trip u).levelsTaken u := rfl

/-- A resting permit at or above the running level is left by what follows the trip or the completion. -/
theorem State.levelsTaken_slots_resting {t : State} {sl : Slot} (hf : t.freeListSound)
    (hsl : (t.complete u (t.runningLevel u)).slots[i] = sl) (hp : sl.permit = some p) (hst : p.state = .resting)
    (hr : p.unit = u → t.runningLevel u ≤ p.stage) (hc : t.configured u = true) :
    (t.levelsTaken u).slots[i] = sl := by
  have hrun := State.applyRunning_slots_resting hf hsl hp hst hr
  rw [State.levelsTaken, if_pos hc]
  generalize t.applyRunning u = b at hrun
  rw [State.applyDesired_slots_off (by rw [hrun]; exact hp) (by rw [hst]; rfl), hrun]

/-- What a report with the condition TRIPPED leaves of a permit at or above the running level (R38). -/
theorem State.requestEvent_slots_tripped (hs : s.tablesSound) (hw : isWired u = false) (hc : s.configured u = true)
    (hrem : s.Remains u) (hoff : s.minOff u ≠ 0) (hp : s.slots[i].permit = some p) (hu : p.unit = u) {d r : Nat}
    (hr : min r (s.stageCount u) ≤ p.stage) (hst : p.state ≠ .resting) :
    (s.requestEvent u d r .tripped).slots[i] = { s.slots[i] with
      counter := 0, aValue := s.minOff u, aArmed := true, pArmed := false
      permit := some { p with state := .resting, reason := some .tripped, rotationDue := false } } := by
  refine State.requestEvent_slots hs ?_ (Option.some_ne_none _)
  have hrl := s.recordRequest_runningLevel d r .tripped hw
  have ha := State.recordRequest_reworked (State.tables_of_sound hs) (State.tablesSound_inOrder hs u) d r .tripped
  have hrema : (s.recordRequest u d r .tripped).Remains u := fun h => by
    rw [State.recordRequest, s.status_modifyStatus_same] at h
    rw [s.recordRequest_minOff]
    exact hrem h
  have hac : (s.recordRequest u d r .tripped).configured u = true := by
    rw [State.configured, State.recordRequest, s.status_modifyStatus_same]; exact hc
  have haslots : (s.recordRequest u d r .tripped).slots = s.slots := rfl
  have hamin := s.recordRequest_minOff (u := u) d r .tripped
  rw [State.requested_tripped]
  generalize s.recordRequest u d r .tripped = a at hrl ha hrema hac haslots hamin
  have hpa : a.slots[i].permit = some p := by rw [haslots]; exact hp
  have hdown : (a.trippedDown u).slots[i] = { s.slots[i] with
      counter := 0, aValue := s.minOff u, aArmed := true, pArmed := false
      permit := some { p with state := .resting, reason := some .tripped, rotationDue := false } } := by
    rw [State.trippedDown_slots, if_pos ((State.mem_trippedSlots hpa hu).mpr ⟨hst, by rw [hrl]; exact hr⟩),
      a.rested_of u (Slot.setReason_of hpa .tripped), hamin, if_neg hoff, haslots]
    rfl
  have htrip := State.trip_slots_resting hdown rfl rfl
  have hnarrow := a.narrows_trip u
  have hsame := (effects_sameUnit u).trip a hrema
  have hlevel := hsame.runningLevel hw
  generalize a.trip u = t at htrip hnarrow hsame hlevel
  refine State.levelsTaken_slots_resting (hnarrow.free ha.tables.free)
    ((State.complete_slots_other (congrArg Slot.permit htrip) fun _ h => by cases h).trans htrip) rfl rfl (fun _ => ?_)
    (hsame.configured.trans hac)
  rw [hlevel, hrl]
  exact hr

/-- What a NORMAL report leaves of a STOPPING permit at or above the running level (R32). -/
theorem State.requestEvent_slots_completed (hs : s.tablesSound) (hw : isWired u = false) (hc : s.configured u = true)
    (hoff : s.minOff u ≠ 0) (hp : s.slots[i].permit = some p) (hu : p.unit = u) {d r : Nat}
    (hr : min r (s.stageCount u) ≤ p.stage) (hst : p.state = .stopping) :
    (s.requestEvent u d r .normal).slots[i] = { s.slots[i] with
      counter := 0, aValue := s.minOff u, aArmed := true, pArmed := false
      permit := some { p with state := .resting, rotationDue := false } } := by
  refine State.requestEvent_slots hs ?_ (Option.some_ne_none _)
  have hrl := s.recordRequest_runningLevel d r .normal hw
  have ha := State.recordRequest_reworked (State.tables_of_sound hs) (State.tablesSound_inOrder hs u) d r .normal
  have hac : (s.recordRequest u d r .normal).configured u = true := by
    rw [State.configured, State.recordRequest, s.status_modifyStatus_same]; exact hc
  have haslots : (s.recordRequest u d r .normal).slots = s.slots := rfl
  have hamin := s.recordRequest_minOff (u := u) d r .normal
  rw [State.requested_normal]
  generalize s.recordRequest u d r .normal = a at hrl ha hac haslots hamin
  have hpa : a.slots[i].permit = some p := by rw [haslots]; exact hp
  refine State.levelsTaken_slots_resting ha.tables.free ?_ rfl rfl (fun _ => by rw [hrl]; exact hr) hac
  rw [State.complete_slots_stopping hpa hu hst (by rw [hrl]; exact hr), a.rested_of u hpa, hamin, if_neg hoff, haslots]

end

/-- Settles O54: the trip and the completion, and that a unit which is TRIPPED wants nothing of the queue. -/
theorem reportTripsOrCompletes : Obligations.ReportTripsOrCompletes := by
  intro s u d r x hsound hawaits hlinked hstate hoff
  have hexec := exec_reportReceived hawaits
  have hconf : s.configured u = true := decide_eq_true fun h => by
    rw [h] at hstate
    rcases hstate with h | h <;> cases h
  have hremains : (s.reporting u).Remains u := by
    rcases hstate with h | h
    · exact .of_active ((s.reporting_state u).trans h)
    · exact .of_locked ((s.reporting_state u).trans h)
  have hsound' := State.reporting_sound hsound u
  have hconf' := (s.reporting_configured u).trans hconf
  have hoff' : (s.reporting u).minOff u ≠ 0 := by rw [State.reporting_minOff]; exact hoff
  rw [if_pos hconf] at hexec
  refine ⟨_, hexec, fun hx => ?_, fun i p hp hu hr => ⟨fun hx hst => ?_, fun hx hst => ?_⟩⟩
  · rw [reportedCondition, if_neg hx, State.requestEvent_eq, State.desireStep_of_not_wants]
    · exact State.dequeue_queued _ u
    · have hsame := State.requested_sameUnit hconf' hremains d.toNat r.toNat .tripped
      refine Bool.eq_false_iff.mpr fun hw => ?_
      obtain ⟨-, -, hnormal⟩ := (State.eligible_iff _ u).mp (Bool.and_eq_true_iff.mp hw).1
      rw [hsame.flag, State.recorded_status] at hnormal
      cases hnormal
  · have hslot := State.requestEvent_slots_tripped (d := d.toNat) hsound' hlinked hconf' hremains hoff'
      (by rw [s.reporting_slots]; exact hp) hu (by rw [s.reporting_stageCount]; exact hr) hst
    rw [s.reporting_minOff, s.reporting_slots] at hslot
    rw [reportedCondition, if_neg hx]
    exact hslot
  · have hslot := State.requestEvent_slots_completed (d := d.toNat) hsound' hlinked hconf' hoff'
      (by rw [s.reporting_slots]; exact hp) hu (by rw [s.reporting_stageCount]; exact hr) hst
    rw [s.reporting_minOff, s.reporting_slots] at hslot
    rw [reportedCondition, if_pos hx]
    exact hslot

end Sys2Proof.Machine


/-! A request of a unit that runs no more than what is commanded: its commanded-on permits at the desired level (R36, R37,
R40), and the commanded level that it leaves. -/

namespace Sys2Proof.Machine

section

variable {s t : State} {u : UnitNo} {i : SlotNo} {p : Permit}

/-! ### The running level, where nothing more runs -/

theorem State.applyRunning_of_quiet (ho : s.InOrder u) (hr : s.runningLevel u ≤ s.level u) : s.applyRunning u =
    if (s.complete u (s.runningLevel u)).configured u then (s.complete u (s.runningLevel u)).closeWindow u
    else s.complete u (s.runningLevel u) := by
  have hlevel := (ho.complete (s.runningLevel u)).2
  have hfind : (s.complete u (s.runningLevel u)).findRunning u (s.runningLevel u) = s.complete u (s.runningLevel u) :=
    if_neg (by rw [hlevel]; exact Nat.not_lt.mpr hr)
  rw [State.applyRunning_eq]
  dsimp only
  rw [hfind]

/-- The running level, taken where the unit still holds its record. -/
def State.runningTaken (u : UnitNo) (s : State) : State := if s.configured u then s.applyRunning u else s

theorem State.levelsTaken_eq (s : State) (u : UnitNo) : s.levelsTaken u = (s.runningTaken u).applyDesired u := rfl

/-- A running level that shows nothing more running leaves the commanded-on permits and the commanded level. -/
theorem State.runningTaken_of_quiet (ho : s.InOrder u) (hr : s.runningLevel u ≤ s.level u) :
    (s.runningTaken u).InOrder u ∧ (s.runningTaken u).level u = s.level u
      ∧ ∀ (i : SlotNo) (p : Permit), s.slots[i].permit = some p → p.state.commandedOn = true →
        (s.runningTaken u).slots[i] = s.slots[i] := by
  have hcomplete := ho.complete (s.runningLevel u)
  have hslots {i : SlotNo} {p : Permit} (hp : s.slots[i].permit = some p) (hon : p.state.commandedOn = true) :
      (s.complete u (s.runningLevel u)).slots[i] = s.slots[i] :=
    State.complete_slots_other hp fun _ h => by rw [h] at hon; cases hon
  unfold State.runningTaken
  rw [State.applyRunning_of_quiet ho hr]
  generalize s.complete u (s.runningLevel u) = t at hcomplete hslots
  split
  · split
    · exact ⟨(State.sameRoles_of_slots (s := t) (t := t.closeWindow u) rfl).inOrder hcomplete.1, hcomplete.2, fun i p => hslots⟩
    · exact ⟨hcomplete.1, hcomplete.2, fun i p => hslots⟩
  · exact ⟨ho, rfl, fun _ _ _ _ => rfl⟩

/-! ### The desired level -/

/-- The desired level of an ACTIVE unit, taken (R36, R40). -/
def State.desiredTaken (u : UnitNo) (d : Nat) (s : State) : State := (s.restoreBelow u d).releaseFrom u d

theorem State.applyDesired_of_active (h : (s.status u).state = .active) :
    s.applyDesired u = s.desiredTaken u (s.effectiveDesired u) := if_pos h

theorem State.applyDesired_of_not_active (h : (s.status u).state ≠ .active) : s.applyDesired u = s := if_neg h

/-- A DRAINING permit that a desired level restores (R40). -/
def Permit.restored (d : Nat) (p : Permit) : Bool :=
  decide (p.state = .draining) && decide (p.reason = some .released) && decide (p.stage < d)

theorem State.restoreBelow_slots {d : Nat} (hp : s.slots[i].permit = some p) (hu : p.unit = u) :
    (s.restoreBelow u d).slots[i] = if p.restored d then s.slots[i].enterRunningRestored (s.rotation u) else s.slots[i] := by
  rw [State.restoreBelow_eq, State.slots_mapSlots, State.holds_eq_any, hp, Option.any_some, hu, decide_eq_true rfl,
    Bool.true_and]
  rfl

/-- What a release leaves of a slot: drained where it is a STARTING or RUNNING stage from the desired level up, and stopped
where top order carries it on (R36). -/
theorem State.releaseFrom_slots {d : Nat} (ho : s.InOrder u) (hp : s.slots[i].permit = some p) (hu : p.unit = u) {sl : Slot}
    (hsl : (if p.stoppable (fun k => decide (d ≤ k)) then s.slots[i].enterDraining .released (s.minRun u) else s.slots[i])
      = sl) : (s.releaseFrom u d).slots[i] = sl
        ∨ (∃ q, sl.permit = some q ∧ q.descends = true) ∧ (s.releaseFrom u d).slots[i] = s.stopped u sl := by
  by_cases hd : d < s.level u
  · have hrelease : (s.releaseFrom u d).slots[i] = (s.enterStop u .released fun k => decide (d ≤ k)).slots[i] :=
      (congrArg (fun t : State => t.slots[i]) (if_pos hd)).trans (congrArg (·[i]) (State.handOver_slots _ u _))
    have hdrained : (s.drained u .released fun k => decide (d ≤ k)).slots[i] = sl := by
      rw [s.slots_drained, State.holds_eq_any, hp, Option.any_some, hu, decide_eq_true rfl, Bool.true_and]
      exact hsl
    rw [hrelease]
    rcases s.enterStop_slots u .released (fun k => decide (d ≤ k)) i with h | ⟨hh, h⟩
    · exact .inl (h.trans hdrained)
    · obtain ⟨q, hq, -, hqd⟩ := (State.holds_iff _ u _ i).mp hh
      rw [hdrained] at hq h
      exact .inr ⟨⟨q, hq, hqd⟩, h⟩
  · refine .inl ((congrArg (fun t : State => t.slots[i]) (if_neg hd)).trans ((if_neg fun hst => ?_).symm.trans hsl))
    obtain ⟨hstate, hk⟩ := Permit.stoppable_iff.mp hst
    have := (ho.on_iff hp hu).mp (commandedOn_of_starting_or_running hstate)
    have := of_decide_eq_true hk
    omega

theorem State.restoreBelow_stopped (s : State) (u : UnitNo) (d : Nat) : (s.restoreBelow u d).stopped u = s.stopped u := by
  rw [State.restoreBelow_eq]
  exact s.mapSlots_stopped u _ _

theorem State.restoreBelow_minRun (s : State) (u : UnitNo) (d : Nat) : (s.restoreBelow u d).minRun u = s.minRun u := by
  rw [State.restoreBelow_eq]
  exact s.withSlots_minRun u _

/-- A permit below the desired level that is on its way or runs is kept (R36). -/
theorem State.desiredTaken_kept {d : Nat} (ho : s.InOrder u) (hp : s.slots[i].permit = some p) (hu : p.unit = u)
    (hst : p.state = .starting ∨ p.state = .running) (hd : p.stage < d) : (s.desiredTaken u d).slots[i] = s.slots[i] := by
  have hrestore : (s.restoreBelow u d).slots[i] = s.slots[i] := by
    rw [State.restoreBelow_slots hp hu, if_neg]
    rcases hst with h | h <;> simp [Permit.restored, h]
  have hno : ¬ p.stoppable (fun k => decide (d ≤ k)) = true := fun h =>
    absurd (of_decide_eq_true (Permit.stoppable_iff.mp h).2) (Nat.not_le.mpr hd)
  rcases State.releaseFrom_slots (d := d) ((s.restoreBelow_sameRoles u d).inOrder ho) (by rw [hrestore]; exact hp) hu
    (if_neg hno) with h | ⟨⟨q, hq, hqd⟩, -⟩
  · exact h.trans hrestore
  · rw [hrestore, hp] at hq
    cases hq
    rw [(Permit.descends_iff.mp hqd).1] at hst
    rcases hst with h | h <;> cases h

/-- A DRAINING permit that was RELEASED and stands below the desired level runs again (R40). -/
theorem State.desiredTaken_restored {d : Nat} (ho : s.InOrder u) (hp : s.slots[i].permit = some p) (hu : p.unit = u)
    (hst : p.state = .draining) (hreason : p.reason = some .released) (hd : p.stage < d) :
    (s.desiredTaken u d).slots[i] = { s.slots[i] with
      pValue := s.rotation u, pArmed := decide (s.rotation u ≠ 0) && decide (s.slots[i].counter < s.rotation u * 64)
      permit := some { p with
        state := .running, reason := none
        rotationDue := decide (s.rotation u ≠ 0) && decide (s.rotation u * 64 ≤ s.slots[i].counter) } } := by
  have hrestore : (s.restoreBelow u d).slots[i] = s.slots[i].enterRunningRestored (s.rotation u) := by
    rw [State.restoreBelow_slots hp hu, if_pos (by simp [Permit.restored, hst, hreason, hd])]
  rw [Slot.enterRunningRestored_of hp] at hrestore
  have hpermit := congrArg Slot.permit hrestore
  rcases State.releaseFrom_slots (d := d) ((s.restoreBelow_sameRoles u d).inOrder ho) hpermit hu (if_neg fun h =>
      absurd (of_decide_eq_true (Permit.stoppable_iff.mp h).2) (Nat.not_le.mpr hd)) with h | ⟨⟨q, hq, hqd⟩, -⟩
  · exact h.trans hrestore
  · rw [hpermit] at hq
    cases hq
    cases (Permit.descends_iff.mp hqd).1

/-- Any other DRAINING permit keeps its reason: it waits as it was, or top order stops it (R30, R40). -/
theorem State.desiredTaken_draining {d : Nat} (ho : s.InOrder u) (hp : s.slots[i].permit = some p) (hu : p.unit = u)
    (hst : p.state = .draining) (h : p.reason ≠ some .released ∨ d ≤ p.stage) :
    (s.desiredTaken u d).slots[i] = s.slots[i]
      ∨ p.minRunMet = true ∧ (s.desiredTaken u d).slots[i] = s.stopped u s.slots[i] := by
  have hrestore : (s.restoreBelow u d).slots[i] = s.slots[i] := by
    rw [State.restoreBelow_slots hp hu, if_neg]
    simp only [Permit.restored, Bool.and_eq_true, decide_eq_true_eq]
    rintro ⟨⟨-, h1⟩, h2⟩
    rcases h with h | h
    · exact h h1
    · omega
  have hno : ¬ p.stoppable (fun k => decide (d ≤ k)) = true := fun h => by
    rcases (Permit.stoppable_iff.mp h).1 with h | h <;> rw [hst] at h <;> cases h
  have hrelease := State.releaseFrom_slots (d := d) ((s.restoreBelow_sameRoles u d).inOrder ho)
    (by rw [hrestore]; exact hp) hu (if_neg hno)
  rw [hrestore, State.restoreBelow_stopped] at hrelease
  rcases hrelease with h | ⟨⟨q, hq, hqd⟩, h⟩
  · exact .inl h
  · cases hp.symm.trans hq
    exact .inr ⟨(Permit.descends_iff.mp hqd).2, h⟩

/-- A STARTING or RUNNING permit from the desired level up drains with reason RELEASED, or stops once its minimum run is met
(R36). -/
theorem State.desiredTaken_released {d : Nat} (ho : s.InOrder u) (hp : s.slots[i].permit = some p) (hu : p.unit = u)
    (hst : p.state = .starting ∨ p.state = .running) (hd : d ≤ p.stage) :
    (s.desiredTaken u d).slots[i] = s.slots[i].enterDraining .released (s.minRun u)
      ∨ (p.minRunMet = true ∨ s.minRun u ≤ s.slots[i].counter)
        ∧ (s.desiredTaken u d).slots[i] = s.stopped u (s.slots[i].enterDraining .released (s.minRun u)) := by
  have hrestore : (s.restoreBelow u d).slots[i] = s.slots[i] := by
    rw [State.restoreBelow_slots hp hu, if_neg]
    rcases hst with h | h <;> simp [Permit.restored, h]
  have hyes : p.stoppable (fun k => decide (d ≤ k)) = true := Permit.stoppable_iff.mpr ⟨hst, decide_eq_true hd⟩
  have hrelease := State.releaseFrom_slots (d := d) ((s.restoreBelow_sameRoles u d).inOrder ho)
    (by rw [hrestore]; exact hp) hu (if_pos hyes)
  rw [hrestore, State.restoreBelow_stopped, State.restoreBelow_minRun] at hrelease
  rcases hrelease with h | ⟨⟨q, hq, hqd⟩, h⟩
  · exact .inl h
  · refine .inr ⟨?_, h⟩
    rw [Slot.enterDraining_permit, hp] at hq
    cases hq
    simpa only [Bool.or_eq_true, decide_eq_true_eq] using (Permit.descends_iff.mp hqd).2

/-! ### The commanded level that is left -/

theorem PermitState.commandedOn_cases {st : PermitState} (h : st.commandedOn = true) :
    (st = .starting ∨ st = .running) ∨ st = .draining := by
  cases st with
  | starting => exact .inl (.inl rfl)
  | running => exact .inl (.inr rfl)
  | draining => exact .inr rfl
  | stopping => cases h
  | resting => cases h

theorem State.releaseFrom_of_le {d : Nat} (h : s.level u ≤ d) : s.releaseFrom u d = s := if_neg (Nat.not_lt.mpr h)

/-- A desired level at or above the commanded one leaves it. -/
theorem State.desiredTaken_level_of_le {d : Nat} (h : s.level u ≤ d) : (s.desiredTaken u d).level u = s.level u := by
  have hlevel := (s.restoreBelow_sameRoles u d).level u
  rw [State.desiredTaken, State.releaseFrom_of_le (hlevel.trans_le h), hlevel]

theorem State.desiredTaken_level_le {d : Nat} (ho : s.InOrder u) : (s.desiredTaken u d).level u ≤ s.level u := by
  have hroles := s.restoreBelow_sameRoles u d
  rw [← hroles.level u]
  exact ((hroles.inOrder ho).releaseFrom d).2

/-- A release stops at the desired level where every stage below it that drains was RELEASED (R36, R40). -/
theorem State.le_desiredTaken_level {d : Nat} (ho : s.InOrder u) (hd : d ≤ s.level u) (hdrain : ∀ (i : SlotNo) (p : Permit),
    s.slots[i].permit = some p → p.unit = u → p.stage < d → p.state = .draining → p.reason = some .released) :
    d ≤ (s.desiredTaken u d).level u := by
  have hroles := s.restoreBelow_sameRoles u d
  have hlevel := hroles.level u
  refine Nat.not_lt.mp fun hlt => ?_
  obtain ⟨i, p, hp, hu, hk, hon⟩ := ho.exists_on (k := (s.desiredTaken u d).level u) (by omega)
  have hafter : ∃ q, (s.desiredTaken u d).slots[i].permit = some q ∧ q.unit = u ∧ q.stage = p.stage
      ∧ q.state.commandedOn = true := by
    have hpd : p.stage < d := by omega
    by_cases hst : p.state = .draining
    · have h := State.desiredTaken_restored ho hp hu hst (hdrain i p hp hu hpd hst) hpd
      exact ⟨_, congrArg Slot.permit h, hu, rfl, rfl⟩
    · have h := State.desiredTaken_kept ho hp hu ((PermitState.commandedOn_cases hon).resolve_right hst) hpd
      exact ⟨p, (congrArg Slot.permit h).trans hp, hu, rfl, hon⟩
  obtain ⟨q, hq, hqu, hqk, hqon⟩ := hafter
  have horder : (s.desiredTaken u d).InOrder u := ((hroles.inOrder ho).releaseFrom d).1
  have := (horder.on_iff hq hqu).mp hqon
  omega

end

end Sys2Proof.Machine


/-! A report of a unit that runs no more than what is commanded: what is released, restored and kept, and the desire step
behind it (R9, R12, R36, R37, R40). -/

namespace Sys2Proof.Machine

section

variable {s t b : State} {u : UnitNo} {i : SlotNo} {p : Permit} {d r : Nat}

/-- The state of a NORMAL request behind its running level, where nothing more than what is commanded runs. -/
structure State.QuietRequest (s : State) (u : UnitNo) (d r : Nat) (b : State) : Prop where
  requested : s.requested u d r .normal = b.applyDesired u
  order : b.InOrder u
  level : b.level u = s.level u
  slots : ∀ (i : SlotNo) (p : Permit), s.slots[i].permit = some p → p.state.commandedOn = true → b.slots[i] = s.slots[i]
  unit : s.configured u = true → s.Remains u → State.SameUnit u ((s.recordRequest u d r .normal).closeWindow u) b
  idle : (s.status u).state ≠ .active → (b.status u).state ≠ .active

theorem State.runningTaken_sameUnit (ho : s.InOrder u) (hr : s.runningLevel u ≤ s.level u) (hc : s.configured u = true)
    (hrem : s.Remains u) : State.SameUnit u (s.closeWindow u) (s.runningTaken u) := by
  have hsame := (effects_sameUnit u).complete s (s.runningLevel u) hrem
  rw [State.runningTaken, if_pos hc, State.applyRunning_of_quiet ho hr, if_pos (hsame.configured.trans hc)]
  exact hsame.closeWindow

theorem State.recordRequest_remains (h : s.Remains u) (d r : Nat) (c : Condition) : (s.recordRequest u d r c).Remains u :=
  fun hst => by
    rw [State.recordRequest, s.status_modifyStatus_same] at hst
    rw [s.recordRequest_minOff]
    exact h hst

theorem State.recordRequest_configured (s : State) (u : UnitNo) (d r : Nat) (c : Condition) :
    (s.recordRequest u d r c).configured u = s.configured u := by
  rw [State.configured, State.recordRequest, s.status_modifyStatus_same]
  rfl

theorem State.recordRequest_state (s : State) (u : UnitNo) (d r : Nat) (c : Condition) :
    ((s.recordRequest u d r c).status u).state = (s.status u).state := by
  rw [State.recordRequest, s.status_modifyStatus_same]

theorem State.runningTaken_reworked (hs : s.Tables) (ho : s.InOrder u) : State.Reworked u s (s.runningTaken u) := by
  unfold State.runningTaken
  split
  · exact State.applyRunning_reworked hs ho
  · exact ⟨hs, ho, .refl u s, .inl ⟨rfl, rfl⟩⟩

theorem State.quietRequest (hs : s.tablesSound) (hr : (s.recordRequest u d r .normal).runningLevel u ≤ s.level u) :
    s.QuietRequest u d r ((s.recordRequest u d r .normal).runningTaken u) := by
  have ha := State.recordRequest_reworked (State.tables_of_sound hs) (State.tablesSound_inOrder hs u) d r .normal
  obtain ⟨h1, h2, h3⟩ := State.runningTaken_of_quiet ha.order hr
  refine ⟨rfl, h1, h2, h3, fun hc hrem => ?_, fun hst hb => hst ?_⟩
  · exact State.runningTaken_sameUnit ha.order hr ((s.recordRequest_configured u d r .normal).trans hc)
      (State.recordRequest_remains hrem d r .normal)
  · rcases (State.runningTaken_reworked ha.tables ha.order).record with ⟨-, h⟩ | ⟨-, h⟩
    · rw [h, State.recordRequest_state] at hb
      exact hb
    · rw [h] at hb
      cases hb

theorem State.recorded_effectiveDesired (s : State) (u : UnitNo) (d r : Nat) :
    ((s.recordRequest u d r .normal).closeWindow u).effectiveDesired u = min d (s.stageCount u) := by
  rw [State.effectiveDesired, State.recorded_status]
  exact if_pos rfl

/-- What an ACTIVE unit's quiet request reads of the unit's entry. -/
structure State.QuietActive (s : State) (u : UnitNo) (d : Nat) (b : State) : Prop where
  desired : b.applyDesired u = b.desiredTaken u (min d (s.stageCount u))
  minRun : b.minRun u = s.minRun u
  rotation : b.rotation u = s.rotation u
  stopped : b.stopped u = s.stopped u

theorem State.QuietRequest.active (h : s.QuietRequest u d r b) (hst : (s.status u).state = .active)
    (hsite : b.site = s.site) : s.QuietActive u d b := by
  have hc : s.configured u = true := decide_eq_true (by rw [hst]; exact fun h => UnitState.noConfusion h)
  have hsame := h.unit hc (.of_active hst)
  have hrecord : b.record u = s.record u := hsame.1.trans (s.recorded_record u d r .normal)
  refine ⟨?_, ?_, ?_, ?_⟩
  · rw [State.applyDesired_of_active, hsame.effectiveDesired, State.recorded_effectiveDesired]
    rw [hsame.state, State.recorded_status]
    exact hst
  · rw [State.minRun, State.minRun, hrecord]
  · rw [State.rotation, State.rotation, hrecord]
  · exact State.stopped_congr u (by rw [State.minOff, State.minOff, hrecord]) hsite

theorem State.runningTaken_aside (s : State) (u : UnitNo) : s.Aside u (s.runningTaken u) := by
  unfold State.runningTaken
  split
  · exact s.applyRunning_aside u
  · exact .refl u s

/-! ### A unit that is not ACTIVE (R16) -/

/-- In a unit that is not ACTIVE a quiet request acts on no commanded-on permit and not on the queue (R16). -/
theorem State.requestEvent_of_idle (hs : s.tablesSound) (hr : (s.recordRequest u d r .normal).runningLevel u ≤ s.level u)
    (hst : (s.status u).state ≠ .active) : (s.requestEvent u d r .normal).queue = s.queue
      ∧ ∀ (i : SlotNo) (p : Permit), s.slots[i].permit = some p → p.state.commandedOn = true →
        (s.requestEvent u d r .normal).slots[i] = s.slots[i] := by
  have hquiet := State.quietRequest hs hr
  have hqueue := (s.requested_aside u d r .normal).queue
  generalize (s.recordRequest u d r .normal).runningTaken u = b at hquiet
  have hrequested := hquiet.requested.trans (State.applyDesired_of_not_active (hquiet.idle hst))
  refine ⟨?_, fun i p hp hon => State.requestEvent_slots hs (by rw [hrequested]; exact hquiet.slots i p hp hon)
    (by rw [hp]; exact Option.some_ne_none p)⟩
  rw [State.requestEvent_eq, hrequested, State.desireStep_of_not_wants b u (b.wants_of_not_active u (hquiet.idle hst))]
  rw [hrequested] at hqueue
  show b.queue.filter _ = s.queue
  rw [hqueue]
  refine List.filter_eq_self.mpr fun e he => decide_eq_true fun hu => hst ?_
  have hclaims := (State.claims_of_sound hs _ (List.mem_map_of_mem he)).1
  exact hu ▸ ((State.eligible_iff s _).mp hclaims).1

end

end Sys2Proof.Machine


/-! The desire step behind a report, and the report of a unit that runs no more than what is commanded (R12, R16, R36, R37,
R40, R112 to R116). -/

namespace Sys2Proof.Machine

section

variable {s : State} {u : UnitNo} {n : Nat}

/-- What the desire step of a unit that wants a level comes to: a state before its pass, and whether a pass runs on it (R12,
R112 to R116). -/
def State.DesireOutcome (s : State) (u : UnitNo) (n : Nat) (before : State) : Prop :=
  (n ≤ s.level u → s.desireStep u = before ∧ before.queue = s.queue.filter fun e => decide (e.unit ≠ u))
  ∧ (s.level u < n →
    (∀ e ∈ s.queue, e.unit = u → e.wanted = n → s.desireStep u = before ∧ before.queue = s.queue)
    ∧ (∀ e ∈ s.queue, e.unit = u → e.wanted ≠ n → s.desireStep u = before.admissionPass
      ∧ before.queue = s.queue.map fun f => if f.unit = u then { f with wanted := n } else f)
    ∧ (s.queued u = false → s.queue.length < 16 → s.desireStep u = before.admissionPass
      ∧ before.queue = placedEntry (.new u n (s.cls u)) s.queue)
    ∧ ∀ l, s.queued u = false → 16 ≤ s.queue.length → s.queue.getLast? = some l → before.raised .queueFull = true
      ∧ (s.cls u < l.cls → s.desireStep u = before.admissionPass
        ∧ before.queue = placedEntry (.new u n (s.cls u)) s.queue.dropLast)
      ∧ (l.cls ≤ s.cls u → s.desireStep u = before ∧ before.queue = s.queue))

theorem entry_unique {q : List QueueEntry} (h : Lined (q.map QueueEntry.claim)) {e f : QueueEntry} (he : e ∈ q) (hf : f ∈ q)
    (hu : e.unit = f.unit) : e = f := by
  have hnodup : (q.map QueueEntry.unit).Nodup := by
    have := h.nodup
    rw [List.map_map] at this
    exact this
  exact List.inj_on_of_nodup_map hnodup he hf hu

theorem State.queued_of_mem {e : QueueEntry} (he : e ∈ s.queue) (hu : e.unit = u) : s.queued u = true :=
  List.any_eq_true.mpr ⟨e, he, decide_eq_true hu⟩

/-- The outcome with the unit's own entry in the queue. -/
theorem State.desireOutcome_of_entry (hl : Lined (s.queue.map QueueEntry.claim)) (hw : s.wants u = true)
    (hd : s.effectiveDesired u = n) (hlt : s.level u < n) {e : QueueEntry} (he : s.entryOf u = some e) :
    ∃ before, before.level u = s.level u ∧ s.DesireOutcome u n before := by
  obtain ⟨hmem, hu⟩ := State.entryOf_some he
  have hown {f : QueueEntry} (hf : f ∈ s.queue) (hfu : f.unit = u) : f = e := entry_unique hl hf hmem (hfu.trans hu.symm)
  have hno (hq : s.queued u = false) : False := by rw [State.queued_of_mem hmem hu] at hq; cases hq
  have hstep := s.desireStep_of_entry u hw he
  rw [hd] at hstep
  by_cases hn : e.wanted = n
  · rw [if_pos hn] at hstep
    exact ⟨s, rfl, fun h => absurd hlt (Nat.not_lt.mpr h), fun _ => ⟨fun _ _ _ _ => ⟨hstep, rfl⟩,
      fun f hf hfu hne => absurd hn (hown hf hfu ▸ hne), fun hq => (hno hq).elim, fun _ hq => (hno hq).elim⟩⟩
  · rw [if_neg hn, State.rewant_eq] at hstep
    exact ⟨s.withQueue (s.queue.map fun f => if f.unit = u then { f with wanted := n } else f), rfl,
      fun h => absurd hlt (Nat.not_lt.mpr h), fun _ => ⟨fun f hf hfu heq => absurd heq (hown hf hfu ▸ hn),
      fun _ _ _ _ => ⟨hstep, rfl⟩, fun hq => (hno hq).elim, fun _ hq => (hno hq).elim⟩⟩

/-- The outcome for a newcomer to the queue. -/
theorem State.desireOutcome_of_newcomer (hl : Lined (s.queue.map QueueEntry.claim)) (hw : s.wants u = true)
    (hd : s.effectiveDesired u = n) (hlt : s.level u < n) (hq : s.queued u = false) :
    ∃ before, before.level u = s.level u ∧ s.DesireOutcome u n before := by
  have hno {f : QueueEntry} (hf : f ∈ s.queue) (hfu : f.unit = u) : False := by
    rw [State.queued_of_mem hf hfu] at hq; cases hq
  have hstep : s.desireStep u = _ := State.desireStep_of_newcomer hw hq (by
    have := hl.sorted
    rw [List.map_map] at this
    exact this)
  rw [hd] at hstep
  dsimp only at hstep
  by_cases hlen : s.queue.length < 16
  · rw [if_pos hlen] at hstep
    exact ⟨s.withQueue (placedEntry (.new u n (s.cls u)) s.queue), rfl, fun h => absurd hlt (Nat.not_lt.mpr h), fun _ =>
      ⟨fun f hf hfu => (hno hf hfu).elim, fun f hf hfu => (hno hf hfu).elim, fun _ _ => ⟨hstep, rfl⟩,
       fun _ _ hfull => absurd hlen (Nat.not_lt.mpr hfull)⟩⟩
  · rw [if_neg hlen] at hstep
    have hraised (q : List QueueEntry) : ((s.raise .queueFull).withQueue q).raised .queueFull = true :=
      (s.raised_raise .queueFull .queueFull).trans (by rw [decide_eq_true rfl, Bool.or_true])
    by_cases hlast : (s.queue.getLast?.any fun l => decide (s.cls u < l.cls)) = true
    · rw [if_pos hlast] at hstep
      refine ⟨(s.raise .queueFull).withQueue (placedEntry (.new u n (s.cls u)) s.queue.dropLast), rfl,
        fun h => absurd hlt (Nat.not_lt.mpr h), fun _ => ⟨fun f hf hfu => (hno hf hfu).elim,
        fun f hf hfu => (hno hf hfu).elim, fun _ h => absurd h hlen, fun l _ _ hgl => ⟨hraised _, fun _ => ⟨hstep, rfl⟩,
        fun hle => ?_⟩⟩⟩
      rw [hgl, Option.any_some, decide_eq_true_eq] at hlast
      omega
    · rw [if_neg hlast] at hstep
      refine ⟨s.raise .queueFull, rfl, fun h => absurd hlt (Nat.not_lt.mpr h), fun _ =>
        ⟨fun f hf hfu => (hno hf hfu).elim, fun f hf hfu => (hno hf hfu).elim, fun _ h => absurd h hlen,
        fun l _ _ hgl => ⟨hraised s.queue, fun hlt' => ?_, fun _ => ⟨hstep, rfl⟩⟩⟩⟩
      rw [hgl, Option.any_some, decide_eq_true_eq] at hlast
      exact absurd hlt' hlast

/-- The desire step of a unit that wants a level, by whether it is commanded that far. -/
theorem State.desireOutcome (hl : Lined (s.queue.map QueueEntry.claim)) (he : s.eligible u = true)
    (hd : s.effectiveDesired u = n) : ∃ before, before.level u = s.level u ∧ s.DesireOutcome u n before := by
  by_cases hlt : s.level u < n
  · have hw : s.wants u = true := by rw [State.wants, he, hd, decide_eq_true hlt]; rfl
    cases hentry : s.entryOf u with
    | some e => exact State.desireOutcome_of_entry hl hw hd hlt hentry
    | none => exact State.desireOutcome_of_newcomer hl hw hd hlt ((s.entryOf_eq_none_iff u).mp hentry)
  · have hw : s.wants u = false := by rw [State.wants, hd, decide_eq_false hlt, Bool.and_false]
    have hstep := s.desireStep_of_not_wants u hw
    exact ⟨s.dequeue u, rfl, fun _ => ⟨hstep, rfl⟩, fun h => absurd h hlt⟩

end

end Sys2Proof.Machine


/-! The slots of a unit behind a quiet request, and the report that releases and restores (R36, R37, R40). -/

namespace Sys2Proof.Machine

section

variable {s : State} {u : UnitNo} {i : SlotNo} {p : Permit} {d r : Nat}

theorem State.stopped_permit_ne_none (h : isWired u = false ∨ s.minOff u ≠ 0) {sl : Slot} (hsl : sl.permit ≠ none) :
    (s.stopped u sl).permit ≠ none := by
  obtain ⟨q, hq⟩ := Option.ne_none_iff_exists'.mp hsl
  by_cases hw : isWired u = true
  · rw [s.stopped_of_wired u hw (h.resolve_left fun h' => by rw [hw] at h'; cases h'), Slot.enterResting_of hq]
    exact Option.some_ne_none _
  · rw [s.stopped_of_linked u (Bool.eq_false_iff.mpr hw), Slot.enterStopping_of hq]
    exact Option.some_ne_none _

/-- An ACTIVE unit with a request that shows nothing more running than what is commanded. -/
structure State.Asks (s : State) (u : UnitNo) (d r : Nat) : Prop where
  sound : s.tablesSound
  active : (s.status u).state = .active
  quiet : (s.recordRequest u d r .normal).runningLevel u ≤ s.level u

theorem State.Asks.exists_quiet (h : s.Asks u d r) : ∃ b, s.QuietRequest u d r b ∧ s.QuietActive u d b :=
  have hquiet := State.quietRequest h.sound h.quiet
  ⟨_, hquiet, hquiet.active h.active ((State.runningTaken_aside _ u).base.site)⟩

/-- The desired level, for a commanded-on stage, is the one that was asked for (R8). -/
theorem State.Asks.stage_lt_iff (h : s.Asks u d r) (hp : s.slots[i].permit = some p) (hu : p.unit = u)
    (hon : p.state.commandedOn = true) : p.stage < min d (s.stageCount u) ↔ p.stage < d := by
  have ho := State.tablesSound_inOrder h.sound u
  have h1 := (ho.on_iff hp hu).mp hon
  have h2 := ho.level_le_stageCount (State.tables_of_sound h.sound).ratings
  omega

theorem State.Asks.kept (h : s.Asks u d r) (hp : s.slots[i].permit = some p) (hu : p.unit = u)
    (hst : p.state = .starting ∨ p.state = .running) (hd : p.stage < d) :
    (s.requestEvent u d r .normal).slots[i] = s.slots[i] := by
  obtain ⟨b, hq, ha⟩ := h.exists_quiet
  have hon := commandedOn_of_starting_or_running hst
  have hslot := hq.slots i p hp hon
  refine State.requestEvent_slots h.sound ?_ (by rw [hp]; exact Option.some_ne_none p)
  rw [hq.requested, ha.desired]
  exact (State.desiredTaken_kept hq.order (by rw [hslot]; exact hp) hu hst ((h.stage_lt_iff hp hu hon).mpr hd)).trans hslot

theorem State.Asks.restored (h : s.Asks u d r) (hp : s.slots[i].permit = some p) (hu : p.unit = u)
    (hst : p.state = .draining) (hreason : p.reason = some .released) (hd : p.stage < d) :
    (s.requestEvent u d r .normal).slots[i] = { s.slots[i] with
      pValue := s.rotation u, pArmed := decide (s.rotation u ≠ 0) && decide (s.slots[i].counter < s.rotation u * 64)
      permit := some { p with
        state := .running, reason := none
        rotationDue := decide (s.rotation u ≠ 0) && decide (s.rotation u * 64 ≤ s.slots[i].counter) } } := by
  obtain ⟨b, hq, ha⟩ := h.exists_quiet
  have hon : p.state.commandedOn = true := by rw [hst]; rfl
  have hslot := hq.slots i p hp hon
  refine State.requestEvent_slots h.sound ?_ (Option.some_ne_none _)
  have hrun := State.desiredTaken_restored hq.order (by rw [hslot]; exact hp) hu hst hreason
    ((h.stage_lt_iff hp hu hon).mpr hd)
  rw [hslot, ha.rotation] at hrun
  rw [hq.requested, ha.desired]
  exact hrun

theorem State.Asks.draining (h : s.Asks u d r) (hstop : isWired u = false ∨ s.minOff u ≠ 0)
    (hp : s.slots[i].permit = some p) (hu : p.unit = u) (hst : p.state = .draining)
    (hno : p.reason ≠ some .released ∨ d ≤ p.stage) : (s.requestEvent u d r .normal).slots[i] = s.slots[i]
      ∨ p.minRunMet = true ∧ (s.requestEvent u d r .normal).slots[i] = s.stopped u s.slots[i] := by
  obtain ⟨b, hq, ha⟩ := h.exists_quiet
  have hslot := hq.slots i p hp (by rw [hst]; rfl)
  have hpermit : s.slots[i].permit ≠ none := by rw [hp]; exact Option.some_ne_none p
  have hdrain := State.desiredTaken_draining (d := min d (s.stageCount u)) hq.order (by rw [hslot]; exact hp) hu hst
    (hno.imp id fun h => (Nat.min_le_left _ _).trans h)
  rw [hslot, ha.stopped, ← ha.desired, ← hq.requested] at hdrain
  exact hdrain.imp (fun h' => State.requestEvent_slots h.sound h' hpermit) fun ⟨h1, h2⟩ =>
    ⟨h1, State.requestEvent_slots h.sound h2 (State.stopped_permit_ne_none hstop hpermit)⟩

theorem State.Asks.released (h : s.Asks u d r) (hstop : isWired u = false ∨ s.minOff u ≠ 0)
    (hp : s.slots[i].permit = some p) (hu : p.unit = u) (hst : p.state = .starting ∨ p.state = .running)
    (hd : d ≤ p.stage) : (s.requestEvent u d r .normal).slots[i] = s.slots[i].enterDraining .released (s.minRun u)
      ∨ (p.minRunMet = true ∨ s.minRun u ≤ s.slots[i].counter) ∧ (s.requestEvent u d r .normal).slots[i]
        = s.stopped u (s.slots[i].enterDraining .released (s.minRun u)) := by
  obtain ⟨b, hq, ha⟩ := h.exists_quiet
  have hslot := hq.slots i p hp (commandedOn_of_starting_or_running hst)
  have hpermit : (s.slots[i].enterDraining .released (s.minRun u)).permit ≠ none := by
    rw [Slot.enterDraining_permit, hp]; exact Option.some_ne_none _
  have hrelease := State.desiredTaken_released (d := min d (s.stageCount u)) hq.order (by rw [hslot]; exact hp) hu hst
    ((Nat.min_le_left _ _).trans hd)
  rw [hslot, ha.stopped, ha.minRun, ← ha.desired, ← hq.requested] at hrelease
  exact hrelease.imp (fun h' => State.requestEvent_slots h.sound h' hpermit) fun ⟨h1, h2⟩ =>
    ⟨h1, State.requestEvent_slots h.sound h2 (State.stopped_permit_ne_none hstop hpermit)⟩

/-- The commanded level behind a quiet request (R36, R40). -/
theorem State.Asks.level (h : s.Asks u d r) : (s.requested u d r .normal).level u ≤ s.level u
    ∧ (s.level u ≤ min d (s.stageCount u) → (s.requested u d r .normal).level u = s.level u)
    ∧ ((∀ (i : SlotNo) (p : Permit), s.slots[i].permit = some p → p.unit = u → p.stage < min d (s.stageCount u) →
        p.state = .draining → p.reason = some .released) → min d (s.stageCount u) ≤ s.level u →
      min d (s.stageCount u) ≤ (s.requested u d r .normal).level u) := by
  obtain ⟨b, hq, ha⟩ := h.exists_quiet
  rw [hq.requested, ha.desired, ← hq.level]
  refine ⟨State.desiredTaken_level_le hq.order, State.desiredTaken_level_of_le, fun hdrain hd =>
    State.le_desiredTaken_level hq.order hd fun i p hp hu hk hst => ?_⟩
  have hlevel := (hq.order.on_iff hp hu).mp (by rw [hst]; rfl)
  rw [hq.level] at hlevel
  obtain ⟨j, q, hqj, hqu, hqk, hqon⟩ := (State.tablesSound_inOrder h.sound u).exists_on hlevel
  have hslot := hq.slots j q hqj hqon
  have hij := hq.order.distinct (by rw [hslot]; exact hqj) hp hqu hu hqk
  subst hij
  rw [hslot, hqj] at hp
  cases hp
  exact hdrain j p hqj hu hk hst

end

end Sys2Proof.Machine


/-! The report of a unit that runs no more than what is commanded (R9, R12, R16, R36, R37, R40). -/

namespace Sys2Proof.Machine

section

variable {s : State} {u : UnitNo} {d r : Byte}

theorem State.reporting_quiet (hw : isWired u = false) (hr : r.toNat ≤ s.level u) (d : Nat) :
    ((s.reporting u).recordRequest u d r.toNat .normal).runningLevel u ≤ (s.reporting u).level u := by
  rw [State.recordRequest_runningLevel _ _ _ _ hw, State.reporting_level]
  exact (Nat.min_le_left _ _).trans hr

theorem State.reporting_asks (hs : s.tablesSound) (hw : isWired u = false) (hr : r.toNat ≤ s.level u)
    (hst : (s.status u).state = .active) (d : Nat) : (s.reporting u).Asks u d r.toNat :=
  ⟨State.reporting_sound hs u, (s.reporting_state u).trans hst, State.reporting_quiet hw hr d⟩

theorem exec_report_normal (h : s.awaitsWith u (reportFrame u d r 0#8)) (hc : s.configured u = true) :
    exec .reportReceived s = .next ((s.reporting u).requestEvent u d.toNat r.toNat .normal) := by
  rw [exec_reportReceived h, if_pos hc]
  rfl

theorem State.configured_of_state (h : (s.status u).state ≠ .unconfigured) : s.configured u = true := decide_eq_true h

/-- The stop of a linked unit's drained permit (R31). -/
theorem Slot.enterStopping_shows {sl : Slot} {p : Permit} (hp : sl.permit = some p) (v : Nat) :
    (sl.enterStopping v).permit = some { p with state := .stopping, rotationDue := false }
      ∧ (sl.enterStopping v).counter = 0 ∧ (sl.enterStopping v).aValue = v := by
  rw [Slot.enterStopping_of hp]
  exact ⟨rfl, rfl, rfl⟩

/-- A release of a linked unit's stage, as it is shown (R36). -/
theorem State.Asks.released_linked {n m : Nat} (h : s.Asks u n m) (hw : isWired u = false) {i : SlotNo} {p : Permit}
    (hp : s.slots[i].permit = some p) (hu : p.unit = u) (hst : p.state = .starting ∨ p.state = .running)
    (hd : n ≤ p.stage) {t : State} (ht : s.requestEvent u n m .normal = t) :
    ∃ q, t.slots[i].permit = some q ∧ q.reason = some .released
      ∧ (q.state = .draining ∧ t.slots[i].counter = s.slots[i].counter
        ∨ q.state = .stopping ∧ t.slots[i].counter = 0 ∧ t.slots[i].aValue = s.site.complianceTimeout)
      ∧ (p.minRunMet = false → s.slots[i].counter < s.minRun u →
        q.state = .draining ∧ t.slots[i].aValue = s.minRun u ∧ t.slots[i].aArmed = true) := by
  have hslot := h.released (.inl hw) hp hu hst hd
  rw [ht] at hslot
  have hdrained := (Slot.enterDraining_permit s.slots[i] (s.minRun u) .released).trans (congrArg _ hp)
  rcases hslot with hslot | ⟨hmet, hslot⟩
  · rw [hslot]
    refine ⟨_, hdrained, rfl, .inl ⟨rfl, Slot.enterDraining_counter _ _ .released⟩, fun hm hc => ?_⟩
    rw [Slot.enterDraining_unmet hp hm hc]
    exact ⟨rfl, rfl, rfl⟩
  · rw [s.stopped_of_linked u hw] at hslot
    obtain ⟨h1, h2, h3⟩ := Slot.enterStopping_shows hdrained s.site.complianceTimeout
    rw [hslot]
    refine ⟨_, h1, rfl, .inr ⟨rfl, h2, h3⟩, fun hm hc => ?_⟩
    rcases hmet with h' | h'
    · rw [hm] at h'; cases h'
    · omega

end

/-- Settles O56: the permits of a quiet request, by the desired level, and the desire step of what it leaves. -/
theorem reportReleasesAndRestores : Obligations.ReportReleasesAndRestores := by
  intro s u d r hsound hawaits hlinked hr
  have hslots (i : SlotNo) : (s.reporting u).slots[i] = s.slots[i] := congrArg (·[i]) (s.reporting_slots u)
  refine ⟨fun hst i p hp hu => ?_, fun hst => ?_, fun hst => ?_⟩
  · have hexec := exec_report_normal hawaits (State.configured_of_state (by rw [hst]; exact fun h => UnitState.noConfusion h))
    have hasks := State.reporting_asks hsound hlinked hr hst d.toNat
    have hp' : (s.reporting u).slots[i].permit = some p := by rw [hslots]; exact hp
    refine ⟨_, hexec, fun hd hs => ?_, fun hd hs => ?_, fun hd hs => ?_, fun hd hs hreason => ?_, fun hd hs hreason => ?_⟩
    · have h := hasks.released_linked hlinked hp' hu hs hd rfl
      rw [hslots, s.reporting_site, s.reporting_minRun] at h
      exact h
    · rcases hasks.draining (.inl hlinked) hp' hu hs (.inr hd) with h | ⟨-, h⟩
      · exact ⟨p, by rw [h]; exact hp', rfl⟩
      · rw [h, State.stopped_of_linked _ u hlinked]
        exact ⟨_, (Slot.enterStopping_shows hp' _).1, rfl⟩
    · exact (hasks.kept hp' hu hs hd).trans (hslots i)
    · have h := hasks.restored hp' hu hs hreason hd
      rw [hslots, s.reporting_rotation] at h
      exact h
    · rcases hasks.draining (.inl hlinked) hp' hu hs (.inl hreason) with h | ⟨hm, h⟩
      · exact ⟨p, by rw [h]; exact hp', hu, rfl, rfl, .inl ⟨hs, h.trans (hslots i)⟩⟩
      · rw [h, State.stopped_of_linked _ u hlinked]
        exact ⟨_, (Slot.enterStopping_shows hp' _).1, hu, rfl, rfl, .inr ⟨rfl, hm⟩⟩
  · have hne : (s.status u).state ≠ .unconfigured ∧ (s.status u).state ≠ .active := by
      rcases hst with h | h <;> rw [h] <;> exact ⟨fun h => UnitState.noConfusion h, fun h => UnitState.noConfusion h⟩
    obtain ⟨hqueue, hkeep⟩ := State.requestEvent_of_idle (State.reporting_sound hsound u)
      (State.reporting_quiet hlinked hr d.toNat) (by rw [State.reporting_state]; exact hne.2)
    refine ⟨_, exec_report_normal hawaits (State.configured_of_state hne.1), hqueue.trans (s.reporting_queue u),
      fun i p hp _ hon => ?_⟩
    exact (hkeep i p (by rw [hslots]; exact hp) hon).trans (hslots i)
  · intro wanted entry placed
    have hconf : s.configured u = true := State.configured_of_state (by rw [hst]; exact fun h => UnitState.noConfusion h)
    have hexec := exec_report_normal hawaits hconf
    obtain ⟨hle, heq, hfloor⟩ := (State.reporting_asks hsound hlinked hr hst d.toNat).level
    have hsame := State.requested_sameUnit ((s.reporting_configured u).trans hconf)
      (.of_active ((s.reporting_state u).trans hst)) d.toNat r.toNat .normal
    have hqueue := ((s.reporting u).requested_aside u d.toNat r.toNat .normal).queue.trans (s.reporting_queue u)
    rw [State.requestEvent_eq] at hexec
    generalize (s.reporting u).requested u d.toNat r.toNat .normal = c at hexec hle heq hfloor hsame hqueue
    rw [s.reporting_level, s.reporting_stageCount] at hfloor heq
    rw [s.reporting_level] at hle
    have hlined : Lined (c.queue.map QueueEntry.claim) := by rw [hqueue]; exact State.lined_of_sound hsound
    have helig : c.eligible u = true := by
      rw [hsame.eligible, State.eligible_iff, State.recorded_status]
      exact ⟨(s.reporting_state u).trans hst, .inr (s.reporting_link u), rfl⟩
    have hdesired : c.effectiveDesired u = wanted := by
      rw [hsame.effectiveDesired, State.recorded_effectiveDesired, s.reporting_stageCount]
    have hcls : c.cls u = s.cls u := by
      rw [State.cls, hsame.1, State.recorded_record, s.reporting_record]
      rfl
    obtain ⟨before, hlevel, hrest, hgrow⟩ := State.desireOutcome hlined helig hdesired
    rw [hqueue] at hrest hgrow
    rw [hcls, State.queued, hqueue] at hgrow
    refine ⟨before, by rw [hlevel]; exact hle, fun h => hlevel.trans (heq h), fun hdrain h => ?_, fun h => ?_, fun h => ?_⟩
    · rw [hlevel]
      exact hfloor (fun i p hp => hdrain i p (by rw [← hslots]; exact hp)) h
    · obtain ⟨h1, h2⟩ := hrest (by rw [← hlevel]; exact h)
      exact ⟨by rw [hexec, h1], h2⟩
    · obtain ⟨h1, h2, h3, h4⟩ := hgrow (by rw [← hlevel]; exact h)
      rw [hexec]
      refine ⟨fun e he hu hw => ?_, fun e he hu hw => ?_, fun hq hlen => ?_, fun l hq hlen hl => ?_⟩
      · obtain ⟨k1, k2⟩ := h1 e he hu hw
        exact ⟨by rw [k1], k2⟩
      · obtain ⟨k1, k2⟩ := h2 e he hu hw
        exact ⟨by rw [k1], k2⟩
      · obtain ⟨k1, k2⟩ := h3 hq hlen
        exact ⟨by rw [k1], k2⟩
      · obtain ⟨k0, k1, k2⟩ := h4 l hq hlen hl
        exact ⟨k0, fun hc => ⟨by rw [(k1 hc).1], (k1 hc).2⟩, fun hc => ⟨by rw [(k2 hc).1], (k2 hc).2⟩⟩

end Sys2Proof.Machine


/-! The call of a wired unit: the drive output, and the request event of its channel (R11, R16, R37, R40, R162 to R164). -/

namespace Sys2Proof.Machine

section

variable {s t : State} {u : UnitNo} {c : ChannelNo} {i : SlotNo} {p : Permit}

/-! ### The drive output (R163) -/

theorem State.driveLevel_of_held (h : s.resetHeld = true ∨ s.configured (channelUnit c) = false) : s.driveLevel c = none := by
  have hdrive : s.driveOutput c = .undriven := if_pos (by rcases h with h | h <;> simp [h])
  unfold State.driveLevel
  rw [hdrive]

theorem State.driveLevel_of_driven {w : WiredFields} (hr : s.resetHeld = false) (hc : s.configured (channelUnit c) = true)
    (hw : s.wiredFields c = some w) : s.driveLevel c = some (match w.drivePolarity with
      | .activeHigh => decide (s.level (channelUnit c) = 1)
      | .activeLow => decide (s.level (channelUnit c) ≠ 1)) := by
  have hwired : (s.record (channelUnit c)).bind UnitRecord.wired = some w := hw
  by_cases hl : s.level (channelUnit c) = 1
  · simp only [State.driveLevel, State.driveOutput_active hr hc hl, hwired, hl]
    cases w.drivePolarity <;> rfl
  · simp only [State.driveLevel, State.driveOutput_inactive hr hc hl, hwired, hl]
    cases w.drivePolarity with
    | activeHigh => rfl
    | activeLow => exact congrArg some (decide_eq_true hl).symm

/-! ### The channels behind a request event -/

/-- The effects of a request event leave the channels of a unit that does not retire within it. -/
theorem effects_channels (u : UnitNo) :
    Effects u fun s t => s.Remains u → State.SameUnit u s t ∧ t.channels = s.channels where
  refl _ _ := ⟨.of_units rfl, rfl⟩
  trans h k hs := by
    obtain ⟨h1, h2⟩ := h hs
    obtain ⟨k1, k2⟩ := k (h1.remains hs)
    exact ⟨h1.trans k1, k2.trans h2⟩
  slots _ _ _ := ⟨.of_units rfl, rfl⟩
  take h hs := ⟨(effects_sameUnit u).take h hs, by unfold State.takeFree at h; split at h <;> cases h; rfl⟩
  rest s i hs := by
    refine ⟨State.restSlot_sameUnit hs i, ?_⟩
    unfold State.restSlot
    split
    · next hoff =>
      have hst : (s.status u).state ≠ .retiring := fun h => (hs h).2 hoff
      unfold State.freeSlot State.retireIfEmpty
      split
      · next h => exact absurd (of_decide_eq_true (Bool.and_eq_true_iff.mp h).1) hst
      · rfl
    · rfl
  comply s hs := ⟨State.settleCompliance_sameUnit, by unfold State.settleCompliance; split <;> rfl⟩
  urgent s hs := ⟨(effects_sameUnit u).urgent s hs, by unfold State.joinUrgent; split <;> rfl⟩
  note _ _ _ _ := ⟨.of_units rfl, rfl⟩

/-- A quiet request, before its desire step, leaves the channels of a unit that does not retire within it. -/
theorem State.requested_channels (hs : s.tablesSound) {d r : Nat}
    (hr : (s.recordRequest u d r .normal).runningLevel u ≤ s.level u) (hc : s.configured u = true) (hrem : s.Remains u) :
    (s.requested u d r .normal).channels = s.channels := by
  have ha := State.recordRequest_reworked (State.tables_of_sound hs) (State.tablesSound_inOrder hs u) d r .normal
  have hac := (s.recordRequest_configured u d r .normal).trans hc
  have harem := State.recordRequest_remains hrem d r .normal
  have hachan : (s.recordRequest u d r .normal).channels = s.channels := rfl
  rw [State.requested_normal, State.levelsTaken_eq]
  have hquiet : (s.recordRequest u d r .normal).runningLevel u ≤ (s.recordRequest u d r .normal).level u := hr
  generalize s.recordRequest u d r .normal = a at ha hac harem hachan hquiet
  have hrun : (a.runningTaken u).channels = a.channels := by
    obtain ⟨hsame, hchan⟩ := (effects_channels u).complete a (a.runningLevel u) harem
    rw [State.runningTaken, if_pos hac, State.applyRunning_of_quiet ha.order hquiet, if_pos (hsame.configured.trans hac)]
    exact hchan
  have hremains : (a.runningTaken u).Remains u :=
    (State.runningTaken_sameUnit ha.order hquiet hac harem).remains fun h => by
      unfold State.closeWindow at h ⊢
      rw [State.status_modifyStatus_same] at h
      rw [State.modifyStatus_minOff]
      exact harem h
  exact (((effects_channels u).applyDesired _ hremains).2.trans hrun).trans hachan

/-- The desire step leaves what a channel calls (R162). -/
theorem State.desireStep_calling (s : State) (u : UnitNo) (c : ChannelNo) :
    (s.desireStep u).channels[c].calling = s.channels[c].calling := by
  have hgrant (t : State) (v : UnitNo) : (t.createGrant v).channels[c].calling = t.channels[c].calling := by
    cases hf : t.freeList with
    | nil => rw [t.createGrant_nil v hf]
    | cons i rest =>
      rw [t.createGrant_cons v hf, State.onChannelOf_channels]
      have hjoin : ((t.placeGrant v i rest).joinUrgent v).channels = t.channels := by
        unfold State.joinUrgent
        split <;> rfl
      rw [hjoin]
      split <;> rfl
  have hraise (b : Bool) : (s.raiseIf b .queueFull).channels = s.channels := by cases b <;> rfl
  obtain ⟨b, q, h | ⟨e, -, h⟩⟩ := s.desireStep_queueStep u <;> rw [h]
  · show (s.raiseIf b .queueFull).channels[c].calling = _
    rw [hraise]
  · show ((s.raiseIf b .queueFull).createGrant e.unit).channels[c].calling = _
    rw [hgrant, hraise]

/-! ### The top stage -/

/-- The release of a unit's top stage whose minimum run is met: it is stopped (R30, R36). -/
theorem State.desiredTaken_top {d : Nat} (ho : s.InOrder u) (h4 : s.level u ≤ 4) (hp : s.slots[i].permit = some p)
    (hu : p.unit = u) (hk : p.stage + 1 = s.level u) (hst : p.state = .starting ∨ p.state = .running) (hd : d ≤ p.stage)
    (hm : p.minRunMet = true ∨ s.minRun u ≤ s.slots[i].counter) :
    (s.desiredTaken u d).slots[i] = s.stopped u (s.slots[i].enterDraining .released (s.minRun u)) := by
  have hroles := s.restoreBelow_sameRoles u d
  have hrestore : (s.restoreBelow u d).slots[i] = s.slots[i] := by
    rw [State.restoreBelow_slots hp hu, if_neg]
    rcases hst with h | h <;> simp [Permit.restored, h]
  have hstopped := s.restoreBelow_stopped u d
  have hminRun := s.restoreBelow_minRun u d
  rw [State.desiredTaken]
  generalize s.restoreBelow u d = b at hroles hrestore hstopped hminRun
  have hlevel := hroles.level u
  have hdroles := b.drained_sameRoles u .released fun k => decide (d ≤ k)
  have hdrained : (b.drained u .released fun k => decide (d ≤ k)).slots[i]
      = s.slots[i].enterDraining .released (s.minRun u) := by
    rw [b.slots_drained, State.holds_eq_any, hrestore, hp, Option.any_some, hu, decide_eq_true rfl, Bool.true_and,
      if_pos (Permit.stoppable_iff.mpr ⟨hst, decide_eq_true hd⟩), hminRun]
  have hdstopped := b.drained_stopped u .released fun k => decide (d ≤ k)
  have hrelease : (b.releaseFrom u d).slots[i] = (b.enterStop u .released fun k => decide (d ≤ k)).slots[i] :=
    (congrArg (fun t : State => t.slots[i]) (if_pos (by omega))).trans (congrArg (·[i]) (State.handOver_slots _ u _))
  rw [hrelease, State.enterStop_eq, ← hstopped, ← hdstopped, ← hdrained]
  have hw : (b.drained u .released fun k => decide (d ≤ k)).level u = s.level u := (hdroles.level u).trans hlevel
  generalize (b.drained u .released fun k => decide (d ≤ k)) = w at hdroles hdrained hw
  exact (State.topOrder_top (p := { p with state := .draining, reason := some .released, minRunMet := true, rotationDue := false })
    (hdroles.inOrder (hroles.inOrder ho)) (by rw [hw]; exact h4)
    (by rw [hdrained]; exact Slot.enterDraining_met hp hm .released) hu (by rw [hw]; exact hk)
    (Permit.descends_iff.mpr ⟨rfl, rfl⟩)).1

/-- A DRAINING permit that is not restored is left where nothing is released (R37). -/
theorem State.desiredTaken_waits {d : Nat} (hp : s.slots[i].permit = some p) (hu : p.unit = u) (hle : s.level u ≤ d)
    (hno : p.reason ≠ some .released) : (s.desiredTaken u d).slots[i] = s.slots[i] := by
  have hlevel := (s.restoreBelow_sameRoles u d).level u
  rw [State.desiredTaken, State.releaseFrom_of_le (hlevel.trans_le hle), State.restoreBelow_slots hp hu, if_neg]
  simp [Permit.restored, hno]

/-! ### The request event of a channel -/

/-- The channel as a change of its call presents it (R162). -/
def State.presented (c : ChannelNo) (calling : Bool) (s : State) : State :=
  s.modifyChannel c fun ch => { ch with calling := calling, callDue := false }

theorem exec_callChange (hr : s.resetHeld = false) (hdue : s.channels[c].callDue = true)
    (hc : s.configured (channelUnit c) = true) : exec (.callChange c) s = .next
      ((s.presented c !s.channels[c].calling).requestEvent (channelUnit c) (if !s.channels[c].calling then 1 else 0)
        (s.level (channelUnit c)) .normal) := by
  refine congrArg Host.Outcome.next ((State.live_of_running hr _).trans ?_)
  rw [State.callChange, if_pos hdue, if_pos hc]
  rfl

theorem State.presented_sound (h : s.tablesSound) (b : Bool) : (s.presented c b).tablesSound :=
  State.tablesSound_congr (s := s) h ⟨rfl, rfl, rfl, rfl⟩ (List.Sublist.refl _)

theorem State.presented_calling (s : State) (c : ChannelNo) (b : Bool) : (s.presented c b).channels[c].calling = b := by
  rw [State.presented, State.modifyChannel_channels, getElem_set_eq, if_pos rfl]

/-- A wired unit runs what is commanded (R24). -/
theorem State.recordRequest_quiet_wired (s : State) (hw : isWired u = true) (d r : Nat) :
    (s.recordRequest u d r .normal).runningLevel u ≤ s.level u := by
  rw [State.runningLevel, if_pos hw]
  exact le_of_eq (State.level_of_slots rfl u)

theorem State.requestEvent_calling (hs : s.tablesSound) (hc : s.configured (channelUnit c) = true)
    (hrem : s.Remains (channelUnit c)) (d r : Nat) :
    (s.requestEvent (channelUnit c) d r .normal).channels[c].calling = s.channels[c].calling := by
  rw [State.requestEvent_eq, State.desireStep_calling, State.requested_channels hs
    (s.recordRequest_quiet_wired (isWired_channelUnit c) d r) hc hrem]

/-- A wired unit has one stage (R2). -/
theorem State.wired_stageCount (h : s.tablesSound) (hw : isWired u = true) (hc : s.configured u = true) :
    s.stageCount u = 1 := by
  have hto := State.tables_of_sound h
  cases hr : s.record u with
  | none => exact absurd ((hto.records.2 u).1.mpr hr) (of_decide_eq_true hc)
  | some r =>
    have hv := (hto.records.2 u).2 r hr
    simp only [UnitRecord.valid, hw, if_true, Bool.and_eq_true, decide_eq_true_eq] at hv
    rw [State.stageCount, hr]
    exact hv.2.1

end

end Sys2Proof.Machine


/-! The call change of a wired unit (R11, R16, R37, R40, R162 to R164). -/

namespace Sys2Proof.Machine

section

variable {s : State} {u : UnitNo} {c : ChannelNo} {i : SlotNo} {p : Permit} {d r : Nat}

/-- A wired unit's stage that was asked off, with its minimum run met, rests (R36, R164). -/
theorem State.Asks.rests (h : s.Asks u 0 r) (hw : isWired u = true) (hoff : s.minOff u ≠ 0)
    (hp : s.slots[i].permit = some p) (hu : p.unit = u) (hst : p.state = .running)
    (hm : p.minRunMet = true ∨ s.minRun u ≤ s.slots[i].counter) : (s.requestEvent u 0 r .normal).slots[i]
      = { s.slots[i] with
        counter := 0, aValue := s.minOff u, aArmed := true, pArmed := false
        permit := some { p with state := .resting, reason := some .released, minRunMet := true, rotationDue := false } } := by
  obtain ⟨b, hq, ha⟩ := h.exists_quiet
  have hon := commandedOn_of_starting_or_running (.inr hst)
  have hslot := hq.slots i p hp hon
  obtain ⟨h0, h1⟩ := State.wired_top h.sound hp (by rw [hu]; exact hw) hon
  rw [hu] at h1
  have htop := State.desiredTaken_top (d := 0) hq.order (by rw [hq.level, h1]; decide) (by rw [hslot]; exact hp) hu
    (by rw [hq.level]; omega) (.inr hst) (Nat.zero_le _) (by rw [ha.minRun, hslot]; exact hm)
  rw [hslot, ha.stopped, ha.minRun, s.stopped_of_wired u hw hoff, Slot.enterDraining_enterResting hp hm,
    decide_eq_true (Nat.pos_of_ne_zero hoff)] at htop
  refine State.requestEvent_slots h.sound ?_ (Option.some_ne_none _)
  rw [hq.requested, ha.desired, Nat.zero_min]
  exact htop

/-- A stage that was asked off, with its minimum run not met, drains (R29, R36). -/
theorem State.Asks.drains (h : s.Asks u d r) (hp : s.slots[i].permit = some p) (hu : p.unit = u)
    (hst : p.state = .starting ∨ p.state = .running) (hd : d ≤ p.stage) (hm : p.minRunMet = false)
    (hc : s.slots[i].counter < s.minRun u) :
    (s.requestEvent u d r .normal).slots[i] = s.slots[i].enterDraining .released (s.minRun u) := by
  obtain ⟨b, hq, ha⟩ := h.exists_quiet
  have hslot := hq.slots i p hp (commandedOn_of_starting_or_running hst)
  have hrelease := State.desiredTaken_released (d := min d (s.stageCount u)) hq.order (by rw [hslot]; exact hp) hu hst
    ((Nat.min_le_left _ _).trans hd)
  rw [hslot, ha.minRun, ← ha.desired, ← hq.requested] at hrelease
  rcases hrelease with h' | ⟨hmet, -⟩
  · refine State.requestEvent_slots h.sound h' ?_
    rw [Slot.enterDraining_permit, hp]
    exact Option.some_ne_none _
  · rw [hm] at hmet
    rcases hmet with h' | h'
    · cases h'
    · omega

/-- A wired unit's stage that is called on, and drains for another reason, is left (R37, R164). -/
theorem State.Asks.waits (h : s.Asks u d r) (hle : s.level u ≤ min d (s.stageCount u)) (hp : s.slots[i].permit = some p)
    (hu : p.unit = u) (hst : p.state = .draining) (hno : p.reason ≠ some .released) :
    (s.requestEvent u d r .normal).slots[i] = s.slots[i] := by
  obtain ⟨b, hq, ha⟩ := h.exists_quiet
  have hslot := hq.slots i p hp (by rw [hst]; rfl)
  refine State.requestEvent_slots h.sound ?_ (by rw [hp]; exact Option.some_ne_none p)
  rw [hq.requested, ha.desired]
  exact (State.desiredTaken_waits (by rw [hslot]; exact hp) hu (by rw [hq.level]; exact hle) hno).trans hslot

/-- A unit without a permit that is asked for its stage while the hold runs waits in the queue (R11, R91, R112). -/
theorem State.Asks.queued (h : s.Asks u 1 r) (hw : isWired u = true) (hno : s.hasPermit u = false) (hhold : s.hold ≠ .ended)
    (hlen : s.queue.length < 16) : ∃ e ∈ (s.requestEvent u 1 r .normal).queue, e.unit = u ∧ e.wanted = 1 := by
  have hconf : s.configured u = true := decide_eq_true (by rw [h.active]; exact fun h => UnitState.noConfusion h)
  have hcount := State.wired_stageCount h.sound hw hconf
  have hsame := State.requested_sameUnit hconf (.of_active h.active) 1 r .normal
  have hlevel := h.level.1
  have haside := s.requested_aside u 1 r .normal
  rw [State.level_of_noPermit s u hno] at hlevel
  rw [State.requestEvent_eq]
  generalize s.requested u 1 r .normal = t at hsame hlevel haside
  have hqueue := haside.queue
  have hdesired : t.effectiveDesired u = 1 := by
    rw [hsame.effectiveDesired, State.recorded_effectiveDesired, hcount, Nat.min_self]
  have hwants : t.wants u = true := by
    have helig : t.eligible u = true := by
      rw [hsame.eligible, State.eligible_iff, State.recorded_status]
      exact ⟨h.active, .inl hw, rfl⟩
    rw [State.wants, helig, hdesired, decide_eq_true (by omega)]
    rfl
  have hlined : Lined (t.queue.map QueueEntry.claim) := by rw [hqueue]; exact State.lined_of_sound h.sound
  cases he : t.entryOf u with
  | some e =>
    obtain ⟨hmem, heu⟩ := State.entryOf_some he
    have hclaims := State.claims_of_sound h.sound _ (List.mem_map_of_mem (hqueue ▸ hmem))
    have hwanted : e.wanted = 1 := by
      obtain ⟨-, -, h1, h2⟩ := hclaims
      have h2 : e.wanted ≤ s.stageCount e.unit := h2
      have h1 : s.level e.unit < e.wanted := h1
      rw [heu, hcount] at h2
      omega
    have hstep := t.desireStep_of_entry u hwants he
    rw [hdesired, if_pos hwanted] at hstep
    rw [hstep]
    exact ⟨e, hmem, heu, hwanted⟩
  | none =>
    have hstep := State.desireStep_of_newcomer hwants ((t.entryOf_eq_none_iff u).mp he) (by
      have := hlined.sorted
      rw [List.map_map] at this
      exact this)
    dsimp only at hstep
    rw [hdesired, if_pos (by rw [hqueue]; exact hlen)] at hstep
    rw [hstep]
    let new := QueueEntry.new u 1 (t.cls u)
    obtain ⟨-, hkeys⟩ := (t.withQueue (placedEntry new t.queue)).admissionPass_keys_of_closed
      (.inl (decide_eq_true (show t.hold ≠ .ended by rw [haside.base.hold]; exact hhold)))
    have hnew : new.key ∈ (placedEntry new t.queue).map QueueEntry.key :=
      List.mem_map_of_mem (List.mem_append_right _ List.mem_cons_self)
    rw [show (t.withQueue (placedEntry new t.queue)).queue = placedEntry new t.queue from rfl] at hkeys
    rw [← hkeys] at hnew
    obtain ⟨e, hmem, hkey⟩ := List.mem_map.mp hnew
    simp only [QueueEntry.key, Prod.mk.injEq] at hkey
    exact ⟨e, hmem, hkey.1, hkey.2.1⟩

/-- A unit that asks for nothing holds no entry (R11, R114). -/
theorem State.Asks.leaves (h : s.Asks u 0 r) : (s.requestEvent u 0 r .normal).queued u = false := by
  have hconf : s.configured u = true := decide_eq_true (by rw [h.active]; exact fun h => UnitState.noConfusion h)
  have hsame := State.requested_sameUnit hconf (.of_active h.active) 0 r .normal
  have hdesired : (s.requested u 0 r .normal).effectiveDesired u = 0 := by
    rw [hsame.effectiveDesired, State.recorded_effectiveDesired, Nat.zero_min]
  rw [State.requestEvent_eq, State.desireStep_of_not_wants]
  · exact State.dequeue_queued _ u
  · rw [State.wants, hdesired, decide_eq_false (Nat.not_lt_zero _), Bool.and_false]

end

/-- What the request event of an ACTIVE wired unit asks, on the channel as it is presented. -/
theorem State.presented_asks {s : State} {c : ChannelNo} (hs : s.tablesSound) (b : Bool)
    (hst : (s.status (channelUnit c)).state = .active) (d r : Nat) : (s.presented c b).Asks (channelUnit c) d r :=
  ⟨State.presented_sound hs b, hst, (s.presented c b).recordRequest_quiet_wired (isWired_channelUnit c) d r⟩

/-- What a release of the call leaves of an ACTIVE wired unit (R11, R36, R164). -/
theorem State.presented_released {s : State} {c : ChannelNo} (hs : s.tablesSound) (hreset : s.resetHeld = false)
    (hst : (s.status (channelUnit c)).state = .active) (r : Nat) {t : State}
    (ht : (s.presented c false).requestEvent (channelUnit c) 0 r .normal = t) : t.queued (channelUnit c) = false
      ∧ ∀ (i : SlotNo) (p : Permit), s.slots[i].permit = some p → p.unit = channelUnit c → p.state = .running →
        (s.minOff p.unit ≠ 0 → p.minRunMet = true ∨ s.minRun p.unit ≤ s.slots[i].counter →
          t.driveOutput c = .inactive ∧ t.slots[i] = { s.slots[i] with
            counter := 0, aValue := s.minOff p.unit, aArmed := true, pArmed := false
            permit := some { p with state := .resting, reason := some .released, minRunMet := true, rotationDue := false } })
        ∧ (p.minRunMet = false → s.slots[i].counter < s.minRun p.unit → t.driveOutput c = .active
          ∧ t.slots[i] = { s.slots[i] with
            aValue := s.minRun p.unit, aArmed := true, pArmed := false
            permit := some { p with state := .draining, reason := some .released, rotationDue := false } }) := by
  have hasks := State.presented_asks hs false hst 0 r
  have hsound := State.requestEvent_sound hasks.sound (channelUnit c) 0 r .normal
  have hheld := (State.requestEvent_base (s.presented c false) (channelUnit c) 0 r .normal).resetHeld.trans hreset
  have hw := isWired_channelUnit c
  refine ⟨by rw [← ht]; exact hasks.leaves, fun i p hp hu hrun => ⟨fun hoff hm => ?_, fun hm hcnt => ?_⟩⟩
  · rw [hu] at hoff hm
    have hslot := hasks.rests hw hoff hp hu hrun hm
    rw [ht] at hsound hheld hslot
    rw [← hu] at hslot
    exact ⟨State.driveOutput_off hsound hheld (congrArg Slot.permit hslot) hu.symm rfl, hslot⟩
  · rw [hu] at hcnt
    have hslot := (hasks.drains hp hu (.inr hrun) (Nat.zero_le _) hm hcnt).trans (Slot.enterDraining_unmet hp hm hcnt .released)
    rw [ht] at hsound hheld hslot
    rw [← hu] at hslot
    exact ⟨State.driveOutput_on hsound hheld (congrArg Slot.permit hslot) hu.symm rfl, hslot⟩

/-- What a call leaves of an ACTIVE wired unit (R11, R37, R40). -/
theorem State.presented_called {s : State} {c : ChannelNo} (hs : s.tablesSound) (hreset : s.resetHeld = false)
    (hst : (s.status (channelUnit c)).state = .active) (r : Nat) {t : State}
    (ht : (s.presented c true).requestEvent (channelUnit c) 1 r .normal = t) :
    (s.hasPermit (channelUnit c) = false → s.hold ≠ .ended → s.queue.length < 16 →
      ∃ e ∈ t.queue, e.unit = channelUnit c ∧ e.wanted = 1)
    ∧ ∀ (i : SlotNo) (p : Permit), s.slots[i].permit = some p → p.unit = channelUnit c → p.state = .draining →
      (p.reason = some .released → t.driveOutput c = .active ∧ t.slots[i] = { s.slots[i] with
        pValue := s.rotation p.unit
        pArmed := decide (s.rotation p.unit ≠ 0) && decide (s.slots[i].counter < s.rotation p.unit * 64)
        permit := some { p with
          state := .running
          reason := none
          rotationDue := decide (s.rotation p.unit ≠ 0)
            && decide (s.rotation p.unit * 64 ≤ s.slots[i].counter) } })
      ∧ (p.reason ≠ some .released → t.driveOutput c = .active ∧ t.slots[i] = s.slots[i]) := by
  have hasks := State.presented_asks hs true hst 1 r
  have hsound := State.requestEvent_sound hasks.sound (channelUnit c) 1 r .normal
  have hheld := (State.requestEvent_base (s.presented c true) (channelUnit c) 1 r .normal).resetHeld.trans hreset
  have hw := isWired_channelUnit c
  refine ⟨fun hno hhold hlen => by rw [← ht]; exact hasks.queued hw hno hhold hlen, fun i p hp hu hdrain => ?_⟩
  have hstage := State.wired_top hs hp (by rw [hu]; exact hw) (by rw [hdrain]; rfl)
  refine ⟨fun hreason => ?_, fun hreason => ?_⟩
  · have hslot := hasks.restored hp hu hdrain hreason (by omega)
    rw [ht] at hsound hheld hslot
    rw [← hu] at hslot
    exact ⟨State.driveOutput_on hsound hheld (congrArg Slot.permit hslot) hu.symm rfl, hslot⟩
  · have hcount := State.wired_stageCount hs hw (by rw [← hu]; exact State.configured_of_permit hs hp)
    have hslot := hasks.waits (show s.level _ ≤ min 1 (s.stageCount _) by rw [hcount, ← hu]; omega) hp hu hdrain hreason
    rw [ht] at hsound hheld hslot
    exact ⟨State.driveOutput_on hsound hheld ((congrArg Slot.permit hslot).trans hp) hu.symm (by rw [hdrain]; rfl), hslot⟩

/-- The channel and the desired level that a call change leaves (R162). -/
theorem State.presented_recorded {s : State} {c : ChannelNo} (hs : s.tablesSound) (b : Bool)
    (hc : s.configured (channelUnit c) = true) (hrem : s.Remains (channelUnit c)) (r : Nat) {t : State}
    (ht : (s.presented c b).requestEvent (channelUnit c) (if b = true then 1 else 0) r .normal = t) :
    t.channels[c].calling = b ∧ (t.status (channelUnit c)).desired = if b = true then 1 else 0 := by
  have hcalling := State.requestEvent_calling (State.presented_sound (c := c) hs b) hc hrem (if b = true then 1 else 0) r
  obtain ⟨-, flag, hstatus⟩ := State.requestEvent_recorded (s := s.presented c b) hc hrem (if b = true then 1 else 0) r .normal
  rw [ht] at hcalling hstatus
  refine ⟨hcalling.trans (State.presented_calling s c b), (congrArg UnitStatus.desired hstatus).trans ?_⟩
  show min _ (s.stageCount (channelUnit c)) = _
  rw [State.wired_stageCount hs (isWired_channelUnit c) hc]
  split <;> rfl

/-- Settles O47: the request event of the channel's unit, by the call and the state of its stage. -/
theorem callChangeReleasesRestoresOrAsks : Obligations.CallChangeReleasesRestoresOrAsks := by
  refine ⟨fun s c => ⟨fun w hr hc hw => State.driveLevel_of_driven hr hc hw, State.driveLevel_of_held⟩,
    fun s c hsound hreset hdue hst => ?_, fun s c hsound hreset hdue hst => ?_⟩
  · have hconf : s.configured (channelUnit c) = true :=
      State.configured_of_state (by rw [hst]; exact fun h => UnitState.noConfusion h)
    have hexec := exec_callChange hreset hdue hconf
    generalize (!s.channels[c].calling) = b at hexec
    intro calls
    obtain ⟨hcalling, hdesired⟩ := State.presented_recorded hsound b hconf (.of_active hst) (s.level (channelUnit c)) rfl
    refine ⟨_, hexec, hcalling, hdesired, ?_⟩
    cases b with
    | false =>
      obtain ⟨hqueue, hslots⟩ := State.presented_released hsound hreset hst (s.level (channelUnit c)) rfl
      exact ⟨fun _ => hqueue, fun h => (Bool.false_ne_true h).elim, fun i p hp hu => ⟨fun _ h1 h2 h3 => (hslots i p hp hu h1).1 h2 h3,
        fun _ h1 h2 h3 => (hslots i p hp hu h1).2 h2 h3, fun h => (Bool.false_ne_true h).elim,
        fun h => (Bool.false_ne_true h).elim⟩⟩
    | true =>
      obtain ⟨hqueue, hslots⟩ := State.presented_called hsound hreset hst (s.level (channelUnit c)) rfl
      exact ⟨fun h => (Bool.false_ne_true h.symm).elim, fun _ => hqueue, fun i p hp hu => ⟨fun h => (Bool.false_ne_true h.symm).elim,
        fun h => (Bool.false_ne_true h.symm).elim, fun _ h1 h2 => (hslots i p hp hu h1).1 h2,
        fun _ h1 h2 => (hslots i p hp hu h1).2 h2⟩⟩
  · have hne : (s.status (channelUnit c)).state ≠ .unconfigured ∧ (s.status (channelUnit c)).state ≠ .active := by
      rcases hst with h | h <;> rw [h] <;> exact ⟨fun h => UnitState.noConfusion h, fun h => UnitState.noConfusion h⟩
    have hconf := State.configured_of_state hne.1
    have hexec := exec_callChange hreset hdue hconf
    generalize (!s.channels[c].calling) = b at hexec
    intro calls
    obtain ⟨hqueue, hkeep⟩ := State.requestEvent_of_idle (State.presented_sound (c := c) hsound b)
      ((s.presented c b).recordRequest_quiet_wired (isWired_channelUnit c) (if b = true then 1 else 0)
        (s.level (channelUnit c))) hne.2
    exact ⟨_, hexec, hqueue, fun h => State.presented_recorded hsound b hconf (.of_locked h) (s.level (channelUnit c)) rfl,
      fun i p hp _ hon => hkeep i p hp hon⟩

end Sys2Proof.Machine


/-! SET UNIT of a wired unit: the record installed, and the call of its channel presented (R3, R11, R162, R163, R165). -/

namespace Sys2Proof.Machine

section

variable {s : State} {u : UnitNo} {c : ChannelNo}

/-! ### A request of a unit without permits -/

theorem State.restoreBelow_of_noPermit (hno : s.hasPermit u = false) (d : Nat) : s.restoreBelow u d = s := by
  unfold State.restoreBelow
  rw [s.slotsOf_of_noPermit u hno]
  rfl

theorem State.complete_of_noPermit (hno : s.hasPermit u = false) (r : Nat) :
    s.complete u r = s.modifyStatus u fun st => { st with noncompliant := false } := by
  have hstopping : s.hasStopping u = false := Bool.eq_false_iff.mpr fun h => by
    obtain ⟨i, p, hp, hu, -⟩ := (s.hasStopping_iff u).mp h
    exact (s.hasPermit_eq_false_iff u).mp hno i p hp hu
  unfold State.complete State.settleCompliance
  rw [s.slotsOf_of_noPermit u hno]
  show (if s.hasStopping u = true then s else _) = _
  rw [hstopping]
  rfl

theorem State.applyDesired_of_noPermit (hno : s.hasPermit u = false) : s.applyDesired u = s := by
  unfold State.applyDesired
  dsimp only
  split
  · rw [State.restoreBelow_of_noPermit hno]
    exact State.releaseFrom_of_le (by rw [s.level_of_noPermit u hno]; exact Nat.zero_le _)
  · rfl

/-- A unit without permits is left with what was asked, recorded (R8, R9). -/
theorem State.requested_of_noPermit (hno : s.hasPermit u = false) (hc : s.configured u = true) (d : Nat) :
    s.requested u d 0 .normal = s.modifyStatus u fun st => { st with
      desired := min d (s.stageCount u), running := 0, condition := .normal, window := .closed, noncompliant := false } := by
  have hano : (s.recordRequest u d 0 .normal).hasPermit u = false := hno
  have hlevel : (s.recordRequest u d 0 .normal).level u = 0 := State.level_of_noPermit _ u hano
  have hrun : (s.recordRequest u d 0 .normal).runningLevel u = 0 := by
    unfold State.runningLevel
    split
    · exact hlevel
    · rw [State.recordRequest, s.status_modifyStatus_same]
      exact Nat.zero_min _
  have hac := (s.recordRequest_configured u d 0 .normal).trans hc
  have horder : (s.recordRequest u d 0 .normal).InOrder u :=
    ⟨fun {i _ p _} hp _ hpu _ _ => absurd hpu ((s.hasPermit_eq_false_iff u).mp hno i p hp),
     fun {i p} hp hpu => absurd hpu ((s.hasPermit_eq_false_iff u).mp hno i p hp)⟩
  have hcomplete := State.complete_of_noPermit hano 0
  have htaken : (s.recordRequest u d 0 .normal).runningTaken u = s.modifyStatus u fun st => { st with
      desired := min d (s.stageCount u), running := 0, condition := .normal, window := .closed, noncompliant := false } := by
    rw [State.runningTaken, if_pos hac, State.applyRunning_of_quiet horder (by rw [hrun]; exact Nat.zero_le _), hrun, hcomplete,
      if_pos, State.closeWindow, State.modifyStatus_modifyStatus, State.recordRequest, State.modifyStatus_modifyStatus]
    · exact congrArg (fun f => s.modifyStatus u f) (funext fun st => by rw [Nat.zero_min])
    · rw [State.configured, State.status_modifyStatus_same]
      exact hac
  rw [State.requested_normal, State.levelsTaken_eq, htaken]
  exact State.applyDesired_of_noPermit hno

/-! ### A pass and an entry that it may grant -/

/-- A grant is the first commanded-on permit of a unit without permits (R24, R99). -/
theorem State.createGrant_level_of_noPermit (hno : s.hasPermit u = false) {i : SlotNo} {rest : List SlotNo}
    (h : s.freeList = i :: rest) : (s.createGrant u).level u = 1 := by
  have hslots := (s.createGrant_slots u h).1
  obtain ⟨p, hp, hu, -, -, hon⟩ := Slot.granted_permit u (s.level u) ((s.rating u (s.level u)).getD 0) s.site.settleTime
    (s.minRun u) (s.rotation u)
  have hoff : s.holds u (·.state.commandedOn) i = false := Bool.eq_false_iff.mpr fun hh => by
    obtain ⟨q, hq, hqu, -⟩ := (s.holds_iff u _ i).mp hh
    exact (s.hasPermit_eq_false_iff u).mp hno i q hq hqu
  have hraised : (s.createGrant u).holds u (·.state.commandedOn) i = true :=
    (State.holds_iff _ u _ i).mpr ⟨p, by rw [hslots, getElem_set_eq, if_pos rfl]; exact hp, hu, hon⟩
  rw [State.level_of_on u (fun j hj => by rw [hslots, getElem_set_eq, if_neg hj]) hoff hraised, s.level_of_noPermit u hno]

/-- A pass grants a unit without permits its stage, or leaves it an entry with the level that it wants (R91, R99). -/
theorem State.admissionPass_serves (hno : s.hasPermit u = false) {e : QueueEntry} (he : e ∈ s.queue) (hu : e.unit = u)
    {n : Nat} (hn : e.wanted = n) :
    s.admissionPass.level u = 1 ∨ ∃ f ∈ s.admissionPass.queue, f.unit = u ∧ f.wanted = n := by
  have hkey : e.key ∈ (s.walk s.queue).entries.map QueueEntry.key := by
    rw [map_key_of_sameBut (s.walk_entries s.queue)]
    exact List.mem_map_of_mem he
  obtain ⟨f, hf, hfe⟩ := List.mem_map.mp hkey
  simp only [QueueEntry.key, Prod.mk.injEq] at hfe
  obtain ⟨hfu, hfw, -, -⟩ := hfe
  rw [hu] at hfu
  rw [hn] at hfw
  unfold State.admissionPass
  rw [Walk.entries, List.mem_append, List.mem_append] at hf
  dsimp only
  cases hg : (s.walk s.queue).granted with
  | none =>
    rw [hg] at hf
    refine .inr ⟨f, ?_, hfu, hfw⟩
    rcases hf with (hf | hf) | hf
    · exact List.mem_append_left _ hf
    · cases hf
    · exact List.mem_append_right _ hf
  | some g =>
    rw [hg, Option.toList_some, List.mem_singleton] at hf
    rcases hf with (hf | hf) | hf
    · refine .inr ⟨f.passedOver, List.mem_append_left _ (List.mem_append_left _ (List.mem_map_of_mem hf)), ?_⟩
      unfold QueueEntry.passedOver
      split <;> exact ⟨hfu, hfw⟩
    · subst hf
      obtain ⟨-, -, hfree, -⟩ := s.obstacle_none (s.walk_granted hg).2
      obtain ⟨i, rest, hil⟩ := List.exists_cons_of_ne_nil hfree
      left
      show (s.createGrant f.unit).level u = 1
      rw [hfu, State.createGrant_level_of_noPermit hno hil]
    · exact .inr ⟨f, List.mem_append_right _ hf, hfu, hfw⟩

/-! ### The record of a wired unit, installed -/

theorem State.modifyChannel_modifyChannel (s : State) (c : ChannelNo) (f g : Channel → Channel) :
    (s.modifyChannel c f).modifyChannel c g = s.modifyChannel c fun ch => g (f ch) := by
  have h : (s.modifyChannel c f).channels[c] = f s.channels[c] := by
    rw [State.modifyChannel_channels, getElem_set_eq, if_pos rfl]
  unfold State.modifyChannel at h ⊢
  dsimp only at h ⊢
  rw [h, Vector.set_set]

/-- A wired unit's channel as SET UNIT leaves it before the request event (R162, R165). -/
def State.wired (c : ChannelNo) (r : UnitRecord) (b : Bool) (s : State) : State :=
  { s with
    units := s.units.set (channelUnit c) { record := some r, status := .fresh }
    channels := s.channels.set c { s.channels[c] with
      calling := b, callDue := false, grantRecorded := false, cycleCounter := 0 } }

theorem State.install_of_wired (s : State) (c : ChannelNo) (r : UnitRecord) (b : Bool) :
    (s.install (channelUnit c) r).presented c b = s.wired c r b := by
  unfold State.install State.onChannelOf
  rw [channelOf_channelUnit]
  exact State.modifyChannel_modifyChannel _ c _ _

theorem State.wired_entry (s : State) (c : ChannelNo) (r : UnitRecord) (b : Bool) :
    (s.wired c r b).units[channelUnit c] = { record := some r, status := .fresh } :=
  (getElem_set_eq s.units _ _ _).trans (if_pos rfl)

/-- The call that a channel shows to a record (R162). -/
theorem State.callState_install (s : State) (c : ChannelNo) {r : UnitRecord} {w : WiredFields} (hw : r.wired = some w) :
    (s.install (channelUnit c) r).callState c
      = decide (s.channels[c].filter.level = some (decide (w.callPolarity = .activeHigh))) := by
  have hfields : (s.install (channelUnit c) r).wiredFields c = some w := by
    rw [State.wiredFields, State.record, State.install_entry]
    exact hw
  have hfilter : (s.install (channelUnit c) r).channels[c].filter = s.channels[c].filter := by
    unfold State.install State.onChannelOf
    rw [channelOf_channelUnit]
    dsimp only
    rw [State.modifyChannel_channels, getElem_set_eq, if_pos rfl]
    rfl
  unfold State.callState
  rw [hfields, hfilter]
  cases s.channels[c].filter.level with
  | none => rfl
  | some high => simp

theorem exec_setUnit_wired {r : UnitRecord} {w : WiredFields} (hopen : s.portShut = false)
    (hnone : s.record (channelUnit c) = none) (hno : s.hasPermit (channelUnit c) = false) (hr : r.valid (channelUnit c) = true)
    (hw : r.wired = some w) {b : Bool}
    (hb : decide (s.channels[c].filter.level = some (decide (w.callPolarity = .activeHigh))) = b) :
    exec (.setUnit (r.encode (channelUnit c))) s = .next
      ((((s.buffered (0x10#8 :: r.encode (channelUnit c))).wired c r b).requestEvent (channelUnit c) (if b then 1 else 0) 0
        .normal).latch (.bare .ok)) := by
  have hlevel : ((s.buffered (0x10#8 :: r.encode (channelUnit c))).install (channelUnit c) r).level (channelUnit c) = 0 := by
    refine (State.level_congr (s := s) _ fun i => ?_).trans (s.level_of_noPermit _ hno)
    unfold State.install State.onChannelOf
    rw [channelOf_channelUnit]
    rfl
  have hcall := ((s.buffered (0x10#8 :: r.encode (channelUnit c))).callState_install c hw).trans hb
  rw [exec_setUnit_encode hopen hr, State.setUnitRecord_of_none (s := s.buffered (0x10#8 :: r.encode (channelUnit c))) hnone]
  unfold State.configureUnit
  rw [channelOf_channelUnit]
  dsimp only
  rw [hcall, State.callEvent, hlevel, ← State.install_of_wired]
  rfl

/-- A wired unit's entry with another status, as it is installed. -/
theorem State.wired_modifyStatus (s : State) (c : ChannelNo) (r : UnitRecord) (b : Bool) (f : UnitStatus → UnitStatus) :
    (s.wired c r b).modifyStatus (channelUnit c) f = { s.wired c r b with
      units := s.units.set (channelUnit c) { record := some r, status := f .fresh } } := by
  have h := s.wired_entry c r b
  unfold State.modifyStatus
  rw [h]
  unfold State.wired
  dsimp only
  rw [Vector.set_set]

/-- The request of a wired unit that is installed, before its desire step (R3, R11). -/
theorem State.wired_requested (s : State) (c : ChannelNo) {r : UnitRecord} (b : Bool) (hr : r.valid (channelUnit c) = true)
    (hno : s.hasPermit (channelUnit c) = false) {d : Nat} (hd : d ≤ 1) :
    (s.wired c r b).requested (channelUnit c) d 0 .normal = { s.wired c r b with
      units := s.units.set (channelUnit c) { record := some r, status := { UnitStatus.fresh with
        desired := d, window := .closed } } } := by
  have hentry := s.wired_entry c r b
  have hc : (s.wired c r b).configured (channelUnit c) = true := by rw [State.configured, State.status, hentry]; rfl
  have hcount : d ≤ (s.wired c r b).stageCount (channelUnit c) := by
    rw [State.stageCount, State.record, hentry]
    exact hd.trans (UnitRecord.stageCount_pos hr)
  rw [State.requested_of_noPermit (s := s.wired c r b) hno hc d, State.wired_modifyStatus, Nat.min_eq_left hcount]
  rfl

/-- The desire step of a unit without permits that is asked for its stage: it holds it, or an entry for it (R11, R112). -/
theorem State.desireStep_serves (hno : s.hasPermit u = false) (hw : s.wants u = true) (hd : s.effectiveDesired u = 1)
    (hlen : s.queue.length < 16) :
    (s.desireStep u).level u = 1 ∨ ∃ e ∈ (s.desireStep u).queue, e.unit = u ∧ e.wanted = 1 := by
  have hserves (q : List QueueEntry) {e : QueueEntry} (he : e ∈ q) (hu : e.unit = u) (hn : e.wanted = 1) :
      (s.withQueue q).admissionPass.level u = 1
        ∨ ∃ f ∈ (s.withQueue q).admissionPass.queue, f.unit = u ∧ f.wanted = 1 :=
    State.admissionPass_serves (s := s.withQueue q)
      ((State.hasPermit_eq_false_iff _ u).mpr ((s.hasPermit_eq_false_iff u).mp hno)) he hu hn
  cases he : s.entryOf u with
  | some e =>
    obtain ⟨hmem, hu⟩ := State.entryOf_some he
    have hstep := s.desireStep_of_entry u hw he
    rw [hd, State.rewant_eq] at hstep
    by_cases h1 : e.wanted = 1
    · rw [if_pos h1] at hstep
      rw [hstep]
      exact .inr ⟨e, hmem, hu, h1⟩
    · rw [if_neg h1] at hstep
      rw [hstep]
      exact hserves _ (e := { e with wanted := 1 }) (List.mem_map.mpr ⟨e, hmem, if_pos hu⟩) hu rfl
  | none =>
    have hstep := s.desireStep_of_noEntry u hw he
    rw [hd, if_pos hlen, State.enqueue_eq] at hstep
    rw [hstep]
    exact hserves _ ((insertByClass_perm _ s.queue).mem_iff.mpr List.mem_cons_self) rfl rfl

end

/-- Settles O23: the request event of the unit just installed, with its call and without. -/
theorem setUnitConfiguresAWiredUnit : Obligations.SetUnitConfiguresAWiredUnit := by
  intro s c r w hopen hnone hno hr hw
  have hreset := State.resetHeld_of_open hopen
  have hexec {b : Bool} := exec_setUnit_wired (b := b) hopen hnone hno hr hw
  have hrequested (b : Bool) := (s.buffered (0x10#8 :: r.encode (channelUnit c))).wired_requested c (r := r) b hr hno
    (d := if b = true then 1 else 0) (by split <;> decide)
  have hstatus {q : State} {d : Nat} (hq : q.units = s.units.set (channelUnit c) { record := some r, status :=
      { UnitStatus.fresh with desired := d, window := .closed } }) : q.status (channelUnit c)
        = { UnitStatus.fresh with desired := d, window := .closed } := by
    rw [State.status, hq]
    exact congrArg UnitEntry.status ((getElem_set_eq s.units _ _ _).trans (if_pos rfl))
  refine ⟨fun hcall => ?_, fun hcall hlen => ?_⟩
  · have hexec := hexec (decide_eq_false hcall)
    rw [State.requestEvent_eq, hrequested, State.desireStep_of_not_wants] at hexec
    · refine ⟨_, hexec, State.driveOutput_inactive hreset (decide_eq_true ?_) ?_, rfl⟩
      · rw [hstatus rfl]
        exact fun h => UnitState.noConfusion h
      · refine fun h => absurd ?_ (show (0 : Nat) ≠ 1 by decide)
        exact ((s.level_of_noPermit _ hno).symm.trans (State.level_of_slots (s := s) rfl _).symm).trans h
    · rw [State.wants, State.effectiveDesired, hstatus rfl]
      exact Bool.and_false _
  · have hexec := hexec (decide_eq_true hcall)
    have hcalling : ((s.buffered (0x10#8 :: r.encode (channelUnit c))).wired c r true).channels[c].calling = true :=
      congrArg Channel.calling ((getElem_set_eq s.channels c c _).trans (if_pos rfl))
    obtain ⟨q, hq, hunits, hchan, hslots, hqueue, hheld⟩ : ∃ q : State, ((s.buffered (0x10#8 :: r.encode (channelUnit c))).wired c
        r true).requested (channelUnit c) (if true = true then 1 else 0) 0 .normal = q ∧ q.units = s.units.set (channelUnit c)
          { record := some r, status := { UnitStatus.fresh with desired := 1, window := .closed } }
        ∧ q.channels[c].calling = true ∧ q.slots = s.slots ∧ q.queue = s.queue ∧ q.resetHeld = false :=
      ⟨_, hrequested true, rfl, hcalling, rfl, rfl, hreset⟩
    rw [State.requestEvent_eq, hq] at hexec
    have hst := hstatus hunits
    have hqno : q.hasPermit (channelUnit c) = false := (State.hasPermit_eq_false_iff _ _).mpr (by
      rw [hslots]
      exact (s.hasPermit_eq_false_iff _).mp hno)
    have hdesired : q.effectiveDesired (channelUnit c) = 1 := by rw [State.effectiveDesired, hst]; rfl
    have hwants : q.wants (channelUnit c) = true := by
      have helig : q.eligible (channelUnit c) = true :=
        (State.eligible_iff _ _).mpr (by rw [hst]; exact ⟨rfl, .inl (isWired_channelUnit c), rfl⟩)
      rw [State.wants, helig, hdesired, q.level_of_noPermit _ hqno]
      rfl
    have hpassed := State.desireStep_passed q (channelUnit c)
    have hafter : ((q.desireStep (channelUnit c)).status (channelUnit c)) = _ :=
      (State.record_of_units (congrArg (·[channelUnit c]) hpassed.units)).2.trans hst
    have hstill := (State.desireStep_calling q (channelUnit c) c).trans hchan
    have hserves := State.desireStep_serves hqno hwants hdesired (by rw [hqueue]; exact hlen)
    have hfree := hpassed.base.resetHeld.trans hheld
    refine ⟨_, hexec, ?_⟩
    generalize q.desireStep (channelUnit c) = t at hafter hstill hserves hfree
    refine ⟨hstill, congrArg UnitStatus.desired hafter, congrArg UnitStatus.state hafter, if_neg ?_, hserves⟩
    have hconf : t.configured (channelUnit c) = true := State.configured_of_state (by
      rw [hafter]
      exact fun h => UnitState.noConfusion h)
    show ¬ (t.resetHeld || !t.configured (channelUnit c)) = true
    rw [hfree, hconf]
    decide

end Sys2Proof.Machine


/-! SET UNIT of a configured unit: the new record, the entry moved to its class, and the wanted level lowered (R4, R5, R118,
R119, R128). -/

namespace Sys2Proof.Machine

section

variable {s : State} {u : UnitNo}

/-! ### The entry moved to its class (R118) -/

/-- The line with a unit's entry behind every other of a class (R118). -/
def movedLine (u : UnitNo) (n : Nat) (q : List QueueEntry) : List QueueEntry :=
  (q.filter fun e => decide (e.unit ≠ u) && decide (e.cls ≤ n))
    ++ (q.filter fun e => decide (e.unit = u)).map (fun e => { e with cls := n })
    ++ q.filter fun e => decide (e.unit ≠ u) && decide (n < e.cls)

/-- A line that stands by class is its entries up to a class, and those above it. -/
theorem filter_le_append_filter_lt {q : List QueueEntry} (h : (q.map QueueEntry.cls).Pairwise (· ≤ ·)) (n : Nat) :
    (q.filter fun e => decide (e.cls ≤ n)) ++ (q.filter fun e => decide (n < e.cls)) = q := by
  induction q with
  | nil => rfl
  | cons e q ih =>
    obtain ⟨hall, htail⟩ := List.pairwise_cons.mp h
    have hrest := ih htail
    by_cases he : e.cls ≤ n
    · rw [List.filter_cons_of_pos (by simpa using he), List.filter_cons_of_neg (by simpa using he), List.cons_append, hrest]
    · have habove : ∀ f ∈ e :: q, n < f.cls := fun f hf => by
        rcases List.mem_cons.mp hf with rfl | hf
        · omega
        · have := hall f.cls (List.mem_map_of_mem hf)
          omega
      rw [List.filter_eq_nil_iff.mpr fun f hf => by simpa using habove f hf,
        List.filter_eq_self.mpr fun f hf => by simpa using habove f hf, List.nil_append]

theorem filter_unit_of_nodup {q : List QueueEntry} (h : (q.map QueueEntry.unit).Nodup) {e : QueueEntry} (he : e ∈ q)
    (hu : e.unit = u) : (q.filter fun f => decide (f.unit = u)) = [e] := by
  have hall : ∀ f ∈ q.filter fun f => decide (f.unit = u), f = e := fun f hf => by
    obtain ⟨hfq, hfu⟩ := List.mem_filter.mp hf
    exact List.inj_on_of_nodup_map h hfq he ((of_decide_eq_true hfu).trans hu.symm)
  have hmem : e ∈ q.filter fun f => decide (f.unit = u) := List.mem_filter.mpr ⟨he, decide_eq_true hu⟩
  have hnodup : (q.filter fun f => decide (f.unit = u)).Nodup := (List.Nodup.of_map _ h).filter _
  generalize (q.filter fun f => decide (f.unit = u)) = l at hall hmem hnodup
  match l, hall, hmem, hnodup with
  | [f], hall, _, _ => rw [hall f List.mem_cons_self]
  | f :: g :: l, hall, _, hnodup =>
    have h1 := hall f List.mem_cons_self
    have h2 := hall g (List.mem_cons_of_mem f List.mem_cons_self)
    rw [h1, h2] at hnodup
    exact absurd List.mem_cons_self (List.nodup_cons.mp hnodup).1

theorem State.moveByClass_eq (hnodup : (s.queue.map QueueEntry.unit).Nodup)
    (hsorted : (s.queue.map QueueEntry.cls).Pairwise (· ≤ ·)) (n : Nat) :
    s.moveByClass u n = s.withQueue (movedLine u n s.queue) := by
  have hrest : ((s.queue.filter fun e => decide (e.unit ≠ u)).map QueueEntry.cls).Pairwise (· ≤ ·) :=
    hsorted.sublist (List.filter_sublist.map _)
  unfold State.moveByClass movedLine
  cases he : s.entryOf u with
  | some e =>
    obtain ⟨hmem, hu⟩ := State.entryOf_some he
    rw [filter_unit_of_nodup hnodup hmem hu]
    dsimp only
    rw [State.dequeue_eq]
    show s.withQueue (insertByClass { e with cls := n } (s.queue.filter fun f => decide (f.unit ≠ u))) = _
    rw [insertByClass_eq _ hrest, List.filter_filter, List.filter_filter, List.map_singleton, List.append_assoc]
    simp only [Bool.and_comm, List.singleton_append]
  | none =>
    have hno : ∀ e ∈ s.queue, e.unit ≠ u := fun e hmem hu => List.find?_eq_none.mp he e hmem (decide_eq_true hu)
    have hself : (s.queue.filter fun e => decide (e.unit ≠ u)) = s.queue :=
      List.filter_eq_self.mpr fun e hmem => decide_eq_true (hno e hmem)
    have hsplit := filter_le_append_filter_lt hrest n
    rw [List.filter_filter, List.filter_filter, hself] at hsplit
    have hnil : (s.queue.filter fun e => decide (e.unit = u)) = [] :=
      List.filter_eq_nil_iff.mpr fun e hmem => by simpa using hno e hmem
    rw [hnil, List.map_nil, List.append_nil]
    simp only [Bool.and_comm] at hsplit ⊢
    rw [hsplit]
    rfl

/-! ### The class and what it spares (R119, R128) -/

/-- The line behind a change of class. -/
def reclassed (u : UnitNo) (a b : Nat) (q : List QueueEntry) : List QueueEntry := if b = a then q else movedLine u b q

theorem State.changeClass_eq (hnodup : (s.queue.map QueueEntry.unit).Nodup)
    (hsorted : (s.queue.map QueueEntry.cls).Pairwise (· ≤ ·)) (a b : Nat) : s.changeClass u a b =
      (s.withSlots (if b = 0 ∧ a ≠ 0 then (s.spareClassZero u).slots else s.slots)).withQueue (reclassed u a b s.queue) := by
  unfold State.changeClass reclassed
  by_cases hab : a = b
  · subst hab
    rw [if_pos rfl, if_pos rfl, if_neg fun h => h.2 h.1]
    rfl
  · rw [if_neg hab, if_neg (Ne.symm hab)]
    dsimp only
    by_cases hb : b = 0
    · subst hb
      have hqueue := (s.spareClassZero_aside u).queue
      rw [if_pos rfl, if_pos ⟨rfl, hab⟩, State.moveByClass_eq (by rw [hqueue]; exact hnodup) (by rw [hqueue]; exact hsorted),
        hqueue, State.spareClassZero_eq]
      rfl
    · rw [if_neg hb, if_neg fun h => hb h.1, State.moveByClass_eq hnodup hsorted]
      rfl

theorem State.spareClassZero_slots (s : State) (u : UnitNo) (i : SlotNo) : (s.spareClassZero u).slots[i] =
    if s.slots[i].permit.any (fun p => decide (p.unit = u) && (decide (p.reason = some .shed)
        || decide (p.reason = some .curtailed) || decide (p.reason = some .rotated))) = true then
      { s.slots[i] with permit := s.slots[i].permit.map fun p => { p with reason := some .released } }
    else s.slots[i] := by
  have hspared (p : Permit) : p.reason.any StopReason.spared = (decide (p.reason = some .shed)
      || decide (p.reason = some .curtailed) || decide (p.reason = some .rotated)) := by
    rw [Bool.eq_iff_iff, StopReason.any_spared_iff]
    simp only [Bool.or_eq_true, decide_eq_true_eq, or_assoc]
  rw [State.spareClassZero_eq, State.slots_mapSlots, State.holds_eq_any]
  simp only [hspared]
  rfl

/-! ### The wanted level (R5) -/

theorem mem_movedLine {n : Nat} {q : List QueueEntry} {f : QueueEntry} (hf : f ∈ movedLine u n q) (hu : f.unit = u) :
    ∃ e ∈ q, e.unit = u ∧ e.wanted = f.wanted := by
  have hother {l : QueueEntry → Bool} (h : f ∈ q.filter fun e => decide (e.unit ≠ u) && l e) : False :=
    of_decide_eq_true (Bool.and_eq_true_iff.mp (List.mem_filter.mp h).2).1 hu
  unfold movedLine at hf
  rw [List.mem_append, List.mem_append] at hf
  rcases hf with (hf | hf) | hf
  · exact (hother hf).elim
  · obtain ⟨e, he, rfl⟩ := List.mem_map.mp hf
    obtain ⟨hmem, heu⟩ := List.mem_filter.mp he
    exact ⟨e, hmem, of_decide_eq_true heu, rfl⟩
  · exact (hother hf).elim

theorem movedLine_mem {n : Nat} {q : List QueueEntry} {e : QueueEntry} (he : e ∈ q) (hu : e.unit = u) :
    { e with cls := n } ∈ movedLine u n q :=
  List.mem_append_left _ (List.mem_append_right _
    (List.mem_map.mpr ⟨e, List.mem_filter.mpr ⟨he, decide_eq_true hu⟩, rfl⟩))

/-- A change of class keeps the wanted level of a unit's entry. -/
theorem mem_reclassed {a b : Nat} {q : List QueueEntry} {f : QueueEntry} (hf : f ∈ reclassed u a b q) (hu : f.unit = u) :
    ∃ e ∈ q, e.unit = u ∧ e.wanted = f.wanted := by
  unfold reclassed at hf
  split at hf
  · exact ⟨f, hf, hu, rfl⟩
  · exact mem_movedLine hf hu

theorem reclassed_mem {a b : Nat} {q : List QueueEntry} {e : QueueEntry} (he : e ∈ q) (hu : e.unit = u) :
    ∃ f ∈ reclassed u a b q, f.unit = u := by
  unfold reclassed
  split
  · exact ⟨e, he, hu⟩
  · exact ⟨_, movedLine_mem he hu, hu⟩

theorem State.clampWanted_of_le {r : UnitRecord} (h : ∀ e ∈ s.queue, e.unit = u → e.wanted ≤ r.stageCount) :
    s.clampWanted u r = s := by
  unfold State.clampWanted
  split
  · next e he =>
    obtain ⟨hmem, hu⟩ := State.entryOf_some he
    exact if_neg (Nat.not_lt.mpr (h e hmem hu))
  · rfl

theorem State.clampWanted_of_gt {r : UnitRecord} {e : QueueEntry} (he : s.entryOf u = some e) (h : r.stageCount < e.wanted) :
    s.clampWanted u r
      = (s.withQueue (s.queue.map fun f => if f.unit = u then { f with wanted := r.stageCount } else f)).admissionPass := by
  unfold State.clampWanted
  rw [he]
  exact if_pos h

end

/-- What SET UNIT of a configured unit comes to (R4). -/
theorem exec_setUnit_changed {s : State} {u : UnitNo} {old r : UnitRecord} (hopen : s.portShut = false)
    (hrec : s.record u = some old) (hst : (s.status u).state = .active ∨ (s.status u).state = .locked)
    (hr : r.valid u = true) (hrat : r.ratings = old.ratings ∨ s.hasPermit u = false) :
    exec (.setUnit (r.encode u)) s = .next (((s.buffered (0x10#8 :: r.encode u)).changeRecord u old r).latch (.bare .ok)) := by
  have hno : ¬ (s.status u).state = .retiring := fun h => by
    rw [h] at hst
    rcases hst with h | h <;> cases h
  have hfit : ¬ (decide (r.ratings ≠ old.ratings) && s.hasPermit u) = true := fun h => by
    obtain ⟨h1, h2⟩ := Bool.and_eq_true_iff.mp h
    rcases hrat with h | h
    · exact of_decide_eq_true h1 h
    · rw [h] at h2; cases h2
  have hset : (s.buffered (0x10#8 :: r.encode u)).setUnitRecord u r
      = ((s.buffered (0x10#8 :: r.encode u)).changeRecord u old r, .bare .ok) := by
    unfold State.setUnitRecord
    rw [show (s.buffered (0x10#8 :: r.encode u)).record u = some old from hrec]
    exact (if_neg hno).trans (if_neg (by simpa using hfit))
  rw [exec_setUnit_encode hopen hr, hset]

/-- Settles O24: the record replaced, the class changed, and the entry's wanted level lowered. -/
theorem setUnitChangesARecord : Obligations.SetUnitChangesARecord := by
  intro s u old r hopen hrec hst hr hrat hnodup hsorted bytes moved changed
  have hexec := exec_setUnit_changed hopen hrec hst hr hrat
  let x := (s.buffered bytes).replaceRecord u r
  let y := (x.withSlots (if r.cls = 0 ∧ old.cls ≠ 0 then (x.spareClassZero u).slots else x.slots)).withQueue moved
  have hy : x.changeClass u old.cls r.cls = y := State.changeClass_eq (s := x) hnodup hsorted old.cls r.cls
  have hchanged (t : State) (response : Response)
      (ht : { t with slots := s.slots, queue := s.queue } = State.answered { s with units := x.units } bytes response)
      (hslots : t.slots = y.slots) : changed t response := by
    refine ⟨ht, fun i => ?_⟩
    rw [hslots]
    show (if r.cls = 0 ∧ old.cls ≠ 0 then (x.spareClassZero u).slots else x.slots)[i] = _
    by_cases h0 : r.cls = 0 ∧ old.cls ≠ 0
    · refine (congrArg (·[i]) (if_pos h0)).trans ((x.spareClassZero_slots u i).trans (if_congr ?_ rfl rfl))
      exact ⟨fun h => ⟨h0.1, h0.2, h⟩, fun h => h.2.2⟩
    · exact (congrArg (·[i]) (if_neg h0)).trans (if_neg fun h => h0 ⟨h.1, h.2.1⟩).symm
  have hrecord : (s.buffered bytes).changeRecord u old r = y.clampWanted u r := congrArg (State.clampWanted u r) hy
  rw [hrecord] at hexec
  refine ⟨fun hle => ?_, fun e he hu hlt => ?_⟩
  · have hclamp : y.clampWanted u r = y := State.clampWanted_of_le fun f hf hfu => by
      obtain ⟨e, he, heu, hew⟩ := mem_reclassed hf hfu
      rw [← hew]
      exact hle e he heu
    rw [hclamp] at hexec
    exact ⟨_, hexec, hchanged _ _ rfl rfl, rfl⟩
  · obtain ⟨f, hf⟩ : ∃ f, y.entryOf u = some f := by
      obtain ⟨g, hg, hgu⟩ := reclassed_mem (u := u) (a := old.cls) (b := r.cls) he hu
      refine Option.ne_none_iff_exists'.mp fun hnone => ?_
      exact List.find?_eq_none.mp hnone g hg (decide_eq_true hgu)
    have hwanted : r.stageCount < f.wanted := by
      obtain ⟨hmem, hfu⟩ := State.entryOf_some hf
      obtain ⟨e', he', heu, hew⟩ := mem_reclassed hmem hfu
      rw [← hew, List.inj_on_of_nodup_map hnodup he' he (heu.trans hu.symm)]
      exact hlt
    rw [State.clampWanted_of_gt hf hwanted] at hexec
    refine ⟨y.withQueue (moved.map fun f => if f.unit = u then { f with wanted := r.ratings.length } else f),
      hchanged _ _ rfl rfl, rfl, hexec.trans (congrArg Host.Outcome.next (State.latch_eq_answered ?_ _))⟩
    rw [State.admissionPass_panel]
    rfl

end Sys2Proof.Machine


/-! The stages that a report finds running, one by one: each adopted stage in its own slot or a new one (R42, R43), each
unpermitted one in its own or a new one (R45), and what is left over where no slot is FREE (R44). -/

namespace Sys2Proof.Machine

section

variable {s t : State} {u : UnitNo} {i j : SlotNo} {p : Permit} {k : Nat}

/-! ### Adoption, where there are slots enough -/

/-- The slot of an adopted stage (R42). -/
structure Slot.ShowsAdopted (u : UnitNo) (k rating : Nat) (sl : Slot) : Prop where
  permit : sl.permit = some ⟨u, k, rating, .running, .adopted, true, false, none⟩
  counter : sl.counter = 0
  disarmed : sl.aArmed = false

theorem Slot.enterRunningAdopted_shows {sl : Slot} (hp : sl.permit = some p) (rot : Nat) :
    (sl.enterRunningAdopted rot).ShowsAdopted p.unit p.stage p.rating := by
  rw [Slot.enterRunningAdopted_of hp]
  exact ⟨rfl, rfl, rfl⟩

/-- The lowest stage above the commanded level, adopted in slot `i` (R42). -/
structure State.Adopts (u : UnitNo) (s t : State) (i : SlotNo) : Prop where
  tables : t.Tables
  order : t.InOrder u
  level : t.level u = s.level u + 1
  units : t.units = s.units
  room : s.freeList.length ≤ t.freeList.length + 1
  own : ∀ p, s.slots[i].permit = some p → p.unit = u ∧ p.stage = s.level u
  others : ∀ j ≠ i, t.slots[j] = s.slots[j]
  shows : t.slots[i].ShowsAdopted u (s.level u) ((s.rating u (s.level u)).getD 0)

theorem State.adoptOne_adopts (hs : s.Tables) (ho : s.InOrder u) (hl : s.level u < s.stageCount u) (hfree : s.freeList ≠ []) :
    ∃ t i, s.adoptOne u (s.level u) = some t ∧ s.Adopts u t i := by
  cases hi : s.slotAt u (s.level u) with
  | some i =>
    obtain ⟨p, hp, hpu, hpk⟩ := s.slotAt_some u hi
    have hshow : ((s.modifySlot i (Slot.enterRunningAdopted (s.rotation u))).slots[i]).ShowsAdopted u (s.level u) p.rating := by
      rw [s.slots_modifySlot, if_pos rfl, ← hpk, ← hpu]
      exact Slot.enterRunningAdopted_shows hp _
    have hother (j : SlotNo) (hj : j ≠ i) : (s.modifySlot i (Slot.enterRunningAdopted (s.rotation u))).slots[j] = s.slots[j] := by
      rw [s.slots_modifySlot, if_neg hj]
    have hn : s.Narrows u (s.modifySlot i (Slot.enterRunningAdopted (s.rotation u))) := State.narrows_modifySlot hp hpu
      ⟨_, congrArg Slot.permit (Slot.enterRunningAdopted_of hp), rfl, rfl, rfl⟩
    have hadopt : s.adoptOne u (s.level u) = some (s.modifySlot i (Slot.enterRunningAdopted (s.rotation u))) := by
      rw [State.adoptOne, hi]
    have hunits : (s.modifySlot i (Slot.enterRunningAdopted (s.rotation u))).units = s.units := rfl
    have hroom : (s.modifySlot i (Slot.enterRunningAdopted (s.rotation u))).freeList = s.freeList := rfl
    have hrating := hs.ratings i p hp
    rw [hpu, hpk] at hrating
    generalize s.modifySlot i (Slot.enterRunningAdopted (s.rotation u)) = t at hshow hother hn hadopt hunits hroom
    obtain ⟨ho', hl'⟩ := ho.raise (t := t) (i := i) (fun j => by
        by_cases hj : j = i
        · rw [if_pos hj, hj]; exact hshow.permit
        · rw [if_neg hj, hother j hj])
      rfl rfl rfl (fun x hx _ => by cases hp.symm.trans hx; exact hpk)
      (fun j x hj hx hxu hxk => hj (ho.distinct hx hp hxu hpu (hxk.trans hpk.symm)))
    refine ⟨t, i, hadopt, hn.tables hs, ho', hl', hunits, by rw [hroom]; exact Nat.le_succ _,
      fun x hx => by cases hp.symm.trans hx; exact ⟨hpu, hpk⟩, hother, ?_⟩
    rw [hrating]
    exact hshow
  | none =>
    obtain ⟨i, rest, hcons⟩ := List.exists_cons_of_ne_nil hfree
    cases ht : s.adoptOne u (s.level u) with
    | none => rw [State.adoptOne, hi] at ht; dsimp only at ht; rw [State.takeFree, hcons] at ht; cases ht
    | some t =>
      have ht' := ht
      rw [State.adoptOne, hi] at ht'
      obtain ⟨i, hfree', hslots, hunits, hsite⟩ := s.takeFree_some ht'
      have hshow : t.slots[i].ShowsAdopted u (s.level u) ((s.rating u (s.level u)).getD 0) := by
        rw [hslots, if_pos rfl]
        exact Slot.enterRunningAdopted_shows (Slot.newPermit_permit _ _ _ _ _ _) _
      have hslots' (j : SlotNo) : t.slots[j].permit = if j = i then
          some ⟨u, s.level u, (s.rating u (s.level u)).getD 0, .running, .adopted, true, false, none⟩
          else s.slots[j].permit := by
        by_cases hj : j = i
        · rw [if_pos hj, hj]; exact hshow.permit
        · rw [if_neg hj, hslots, if_neg hj]
      have hnone : s.slots[i].permit = none := State.head_free hs.free hfree'
      obtain ⟨ho', hl'⟩ := ho.raise hslots' rfl rfl rfl (fun x hx _ => absurd (hnone.symm.trans hx) (by simp))
        fun j x _ hx hxu => State.slotAt_none_iff.mp hi j x hx hxu
      exact ⟨t, i, rfl, hs.take hfree' hslots' hi (State.rating_isSome hl) hsite hunits, ho', hl', hunits,
        by rw [hfree']; exact Nat.le_refl _, fun x hx => absurd (hnone.symm.trans hx) (by simp),
        fun j hj => by rw [hslots, if_neg hj], hshow⟩

/-- The stages from the commanded level up to below `r`, adopted (R42). -/
structure State.AdoptedTo (u : UnitNo) (r : Nat) (s t : State) : Prop where
  level : t.level u = r
  stages : ∀ k, s.level u ≤ k → k < r → ∃ i, t.slots[i].ShowsAdopted u k ((s.rating u k).getD 0)
    ∧ ∀ (j : SlotNo) (p : Permit), s.slots[j].permit = some p → p.unit = u → p.stage = k → j = i

theorem State.adopt_adoptedTo (m : Nat) : ∀ (l : Nat) (s : State), s.Tables → s.InOrder u → s.level u = l →
    l + m ≤ s.stageCount u → m ≤ s.freeList.length → State.AdoptedTo u (l + m) s (s.adopt u (List.range' l m)) := by
  induction m with
  | zero => exact fun l s _ _ hl _ _ => ⟨hl, fun k h1 h2 => by omega⟩
  | succ m ih =>
    intro l s hs ho hl hm hroom
    have hne : s.freeList ≠ [] := fun h => by rw [h] at hroom; cases hroom
    obtain ⟨t, i, ht, ha⟩ := State.adoptOne_adopts hs ho (by omega) hne
    have hrec : t.record u = s.record u := (State.record_of_units (by rw [ha.units])).1
    have hrating (k : Nat) : t.rating u k = s.rating u k := by rw [State.rating, hrec]; rfl
    have hcount := State.stageCount_congr hrec
    have haroom := ha.room
    have hlevel := ha.level
    obtain ⟨h1, h2⟩ := ih (l + 1) t ha.tables ha.order (by omega) (by omega) (by omega)
    have hkept := State.adopt_slots_other (u := u) (i := i) (List.range' (l + 1) m) t ha.shows.permit
      (fun _ hk => by have := (List.mem_range'_1.mp hk).1; dsimp only at this; omega)
      (State.not_mem_freeList ha.tables.free ha.shows.permit)
    rw [List.range'_succ, State.adopt_cons, ← hl, ht, hl]
    refine ⟨h1.trans (by omega), fun k hk hkr => ?_⟩
    by_cases hkl : k = s.level u
    · subst hkl
      refine ⟨i, ?_, fun j p hp hpu hpk => by_contra fun hj => ?_⟩
      · show ((t.adopt u (List.range' (l + 1) m)).slots[i]).ShowsAdopted u _ _
        rw [hkept]
        exact ha.shows
      · exact hj (ha.order.distinct (by rw [ha.others j hj]; exact hp) ha.shows.permit hpu rfl hpk)
    · obtain ⟨i', hshow, huniq⟩ := h2 k (by omega) (by omega)
      rw [hrating] at hshow
      refine ⟨i', hshow, fun j p hp hpu hpk => huniq j p ?_ hpu hpk⟩
      by_cases hj : j = i
      · exact absurd (ha.own p (hj ▸ hp)).2 (by omega)
      · rw [ha.others j hj]; exact hp

/-! ### Unpermitted stages -/

/-- A stage that is recorded leaves the permits of the others, and makes none of them. -/
theorem State.recordUnpermitted_back {m : Nat} (hp : (s.recordUnpermitted u m).1.slots[i].permit = some p)
    (hk : p.unit = u → p.stage ≠ m) : s.slots[i].permit = some p := by
  rcases s.recordUnpermitted_cases u m with ⟨j, q, hj, hq, -, h⟩ | ⟨j, q, -, -, -, h⟩ | ⟨t, -, ht, h⟩ | ⟨-, -, h⟩ <;>
    rw [h] at hp
  · obtain ⟨x, hx, hxu, hxk⟩ := s.slotAt_some u hj
    cases hq.symm.trans hx
    rw [s.slots_modifySlot] at hp
    split at hp
    · rw [Slot.stopUnpermitted_of hq] at hp
      cases hp
      exact absurd hxk (hk hxu)
    · exact hp
  · exact hp
  · obtain ⟨j, -, hslots, -, -⟩ := s.takeFree_some ht
    rw [hslots] at hp
    split at hp
    · rw [Slot.stopUnpermittedNew_permit] at hp
      cases hp
      exact absurd rfl (hk rfl)
    · exact hp
  · exact hp

/-- What recording a stage makes of the slot that holds its permit: a RESTING one is STOPPING, any other is left (R45). -/
def Slot.recorded (compliance : Nat) (sl : Slot) : Slot :=
  if sl.permit.any (fun p => decide (p.state = .resting)) then sl.stopUnpermitted compliance else sl

theorem Slot.recorded_of_resting {sl : Slot} (hp : sl.permit = some p) (h : p.state = .resting) (v : Nat) :
    sl.recorded v = sl.stopUnpermitted v := if_pos (by rw [hp, Option.any_some, h]; rfl)

theorem Slot.recorded_of_not_resting {sl : Slot} (hp : sl.permit = some p) (h : p.state ≠ .resting) (v : Nat) :
    sl.recorded v = sl := if_neg (by rw [hp, Option.any_some]; simpa using h)

theorem State.recordUnpermitted_own (ho : s.InOrder u) (hp : s.slots[i].permit = some p) (hu : p.unit = u) :
    (s.recordUnpermitted u p.stage).1.slots[i] = s.slots[i].recorded s.site.complianceTimeout := by
  have hslot := ho.slotAt_eq hp hu
  rcases s.recordUnpermitted_cases u p.stage with ⟨j, q, hj, hq, hr, h⟩ | ⟨j, q, hj, hq, hr, h⟩ | ⟨t, hno, -, -⟩ | ⟨hno, -, -⟩
  · cases hslot.symm.trans hj
    rw [h, s.slots_modifySlot, if_pos rfl, Slot.recorded_of_resting hq hr]
  · cases hslot.symm.trans hj
    rw [h, Slot.recorded_of_not_resting hq hr]
  · rw [hno] at hslot; cases hslot
  · rw [hno] at hslot; cases hslot

theorem State.recordUnpermitted_site (s : State) (u : UnitNo) (m : Nat) : (s.recordUnpermitted u m).1.site = s.site :=
  (s.recordUnpermitted_aside u m).base.site

/-- The slot of a stage in the list is recorded once, whatever the others find (R45). -/
theorem State.recordAllUnpermitted_own (l : List Nat) : ∀ s : State, s.Tables → s.InOrder u → l.Nodup →
    (∀ m ∈ l, m < s.stageCount u) → s.slots[i].permit = some p → p.unit = u → p.stage ∈ l →
    (s.recordAllUnpermitted u l).1.slots[i] = s.slots[i].recorded s.site.complianceTimeout := by
  induction l with
  | nil => exact fun s _ _ _ _ _ _ h => absurd h List.not_mem_nil
  | cons m l ih =>
    intro s hs ho hnodup hl hp hu hk
    obtain ⟨hm, hnodup⟩ := List.nodup_cons.mp hnodup
    obtain ⟨hs', ho', -, hunits⟩ := State.recordUnpermitted_sound hs ho (hl m List.mem_cons_self)
    have hcount : (s.recordUnpermitted u m).1.stageCount u = s.stageCount u :=
      State.stageCount_congr (State.record_of_units (by rw [hunits])).1
    have hfree := State.not_mem_freeList hs.free hp
    by_cases hkm : p.stage = m
    · subst hkm
      have hown := State.recordUnpermitted_own ho hp hu
      obtain ⟨q, hq, hqk⟩ : ∃ q, (s.slots[i].recorded s.site.complianceTimeout).permit = some q ∧ q.stage = p.stage := by
        by_cases hr : p.state = .resting
        · rw [Slot.recorded_of_resting hp hr, Slot.stopUnpermitted_of hp]
          exact ⟨_, rfl, rfl⟩
        · rw [Slot.recorded_of_not_resting hp hr]
          exact ⟨p, hp, rfl⟩
      have hq' := (congrArg Slot.permit hown).trans hq
      exact (State.recordAllUnpermitted_slots_other l _ hq' (fun _ => hqk ▸ hm)
        (State.not_mem_freeList hs'.free hq')).trans hown
    · obtain ⟨hslot, -⟩ := State.recordUnpermitted_slots_other (u := u) (k := m) hp (fun _ => hkm) hfree
      have hkl : p.stage ∈ l := (List.mem_cons.mp hk).resolve_left hkm
      have := ih _ hs' ho' hnodup (fun x hx => by rw [hcount]; exact hl x (List.mem_cons_of_mem m hx))
        (by rw [hslot]; exact hp) hu hkl
      rw [hslot, s.recordUnpermitted_site] at this
      exact this

/-- A stage without a permit gets one, where there are slots enough (R45). -/
theorem State.recordAllUnpermitted_new (l : List Nat) : ∀ s : State, s.Tables → s.InOrder u → l.Nodup →
    (∀ m ∈ l, m < s.stageCount u) → l.length ≤ s.freeList.length → k ∈ l →
    (∀ (j : SlotNo) (p : Permit), s.slots[j].permit = some p → p.unit = u → p.stage ≠ k) →
    ∃ i : SlotNo, (s.recordAllUnpermitted u l).1.slots[i] = Slot.stopUnpermitted s.site.complianceTimeout
      (Slot.newPermit u k ((s.rating u k).getD 0) .stopping .adopted true none) := by
  induction l with
  | nil => exact fun s _ _ _ _ _ h _ => absurd h List.not_mem_nil
  | cons m l ih =>
    intro s hs ho hnodup hl hroom hk hno
    obtain ⟨hm, hnodup⟩ := List.nodup_cons.mp hnodup
    obtain ⟨hs', ho', -, hunits⟩ := State.recordUnpermitted_sound hs ho (hl m List.mem_cons_self)
    by_cases hkm : k = m
    · subst hkm
      have hnone := State.slotAt_none_iff.mpr hno
      rcases s.recordUnpermitted_cases u k with ⟨j, q, hj, -, -, -⟩ | ⟨j, q, hj, -, -, -⟩ | ⟨t, -, ht, h⟩ | ⟨-, hfree, -⟩
      · rw [hnone] at hj; cases hj
      · rw [hnone] at hj; cases hj
      · obtain ⟨i, -, hslots, -, -⟩ := s.takeFree_some ht
        have hi : (s.recordUnpermitted u k).1.slots[i] = Slot.stopUnpermitted s.site.complianceTimeout
            (Slot.newPermit u k ((s.rating u k).getD 0) .stopping .adopted true none) := by
          rw [h, hslots, if_pos rfl]
        have hp := (congrArg Slot.permit hi).trans (Slot.stopUnpermittedNew_permit k _ _)
        exact ⟨i, (State.recordAllUnpermitted_slots_other l _ hp (fun _ => hm)
          (State.not_mem_freeList hs'.free hp)).trans hi⟩
      · rw [hfree] at hroom; cases hroom
    · have hrec : (s.recordUnpermitted u m).1.record u = s.record u := (State.record_of_units (by rw [hunits])).1
      have hroom' : s.freeList.length ≤ (s.recordUnpermitted u m).1.freeList.length + 1 := by
        rcases s.recordUnpermitted_cases u m with ⟨j, q, -, -, -, h⟩ | ⟨j, q, -, -, -, h⟩ | ⟨t, -, ht, h⟩ | ⟨-, -, h⟩ <;> rw [h]
        · exact Nat.le_succ _
        · exact Nat.le_succ _
        · obtain ⟨j, hfree, -⟩ := s.takeFree_some ht
          rw [hfree]
          exact Nat.le_refl _
        · exact Nat.le_succ _
      rw [List.length_cons] at hroom
      obtain ⟨i, hi⟩ := ih _ hs' ho' hnodup (fun x hx => by
          rw [State.stageCount_congr hrec]; exact hl x (List.mem_cons_of_mem m hx))
        (by omega) ((List.mem_cons.mp hk).resolve_left hkm) fun j p hp hpu hpk =>
          hno j p (State.recordUnpermitted_back hp fun _ h => hkm (hpk.symm.trans h)) hpu hpk
      rw [s.recordUnpermitted_site, State.rating, hrec] at hi
      exact ⟨i, hi⟩

/-! ### What is left over with no FREE slot -/

theorem State.adoptOne_full (hfree : s.freeList = []) (m : Nat) :
    (s.slotAt u m = none ∧ s.adoptOne u m = none)
    ∨ ∃ (j : SlotNo) (q : Permit), s.slots[j].permit = some q ∧ q.unit = u ∧ q.stage = m
      ∧ s.adoptOne u m = some (s.modifySlot j (Slot.enterRunningAdopted (s.rotation u))) := by
  cases hj : s.slotAt u m with
  | some j =>
    obtain ⟨q, hq, hqu, hqk⟩ := s.slotAt_some u hj
    exact .inr ⟨j, q, hq, hqu, hqk, by rw [State.adoptOne, hj]⟩
  | none =>
    refine .inl ⟨rfl, ?_⟩
    rw [State.adoptOne, hj]
    dsimp only
    rw [State.takeFree, hfree]

/-- Adoption with no FREE slot ends at the first stage without a permit: that one and every stage above it is left (R44). -/
structure State.AdoptsUpTo (u : UnitNo) (k : Nat) (s t : State) : Prop where
  full : t.raised .tableFull = true
  narrows : s.Narrows u t
  above : ∀ (j : SlotNo) (p : Permit), s.slots[j].permit = some p → p.unit = u → k < p.stage → t.slots[j] = s.slots[j]

theorem State.adopt_full (m : Nat) : ∀ (l : Nat) (s : State), s.freeList = [] → l ≤ k → k < l + m →
    (∀ (j : SlotNo) (p : Permit), s.slots[j].permit = some p → p.unit = u → p.stage ≠ k) →
    State.AdoptsUpTo u k s (s.adopt u (List.range' l m)) := by
  induction m with
  | zero => exact fun l s _ h1 h2 => absurd h1 (by omega)
  | succ m ih =>
    intro l s hfree hlk hkm hno
    rw [List.range'_succ, State.adopt_cons]
    rcases State.adoptOne_full (u := u) hfree l with ⟨-, h⟩ | ⟨j, q, hq, hqu, hqk, h⟩ <;> rw [h]
    · exact ⟨by rw [Option.elim, s.raised_raise, decide_eq_true rfl, Bool.or_true],
        State.narrows_of_aside (s.raise_aside u _) rfl rfl rfl, fun _ _ _ _ _ => rfl⟩
    · have hne : l ≠ k := fun hlk => hno j q hq hqu (hqk.trans hlk)
      have hn : s.Narrows u (s.modifySlot j (Slot.enterRunningAdopted (s.rotation u))) := State.narrows_modifySlot hq hqu
        ⟨_, congrArg Slot.permit (Slot.enterRunningAdopted_of hq), rfl, rfl, rfl⟩
      have hother (x : SlotNo) (p : Permit) (hp : s.slots[x].permit = some p) (hpk : k < p.stage) :
          (s.modifySlot j (Slot.enterRunningAdopted (s.rotation u))).slots[x] = s.slots[x] := by
        rw [s.slots_modifySlot, if_neg]
        rintro rfl
        cases hq.symm.trans hp
        omega
      have hfree' : (s.modifySlot j (Slot.enterRunningAdopted (s.rotation u))).freeList = [] := hfree
      obtain ⟨h1, h2, h3⟩ := ih (l + 1) (s.modifySlot j (Slot.enterRunningAdopted (s.rotation u))) hfree' (by omega) (by omega)
        fun x p hp hpu hpk => by
          obtain ⟨y, hy, hyu, hyk, -⟩ := hn.back x p hp hpu
          exact hno x y hy hyu (hyk.trans hpk)
      exact ⟨h1, hn.trans h2, fun x p hp hpu hpk =>
        (h3 x p ((congrArg Slot.permit (hother x p hp hpk)).trans hp) hpu hpk).trans (hother x p hp hpk)⟩

theorem State.recordUnpermitted_full (hfree : s.freeList = []) (m : Nat) :
    s.Narrows u (s.recordUnpermitted u m).1 ∧ (s.recordUnpermitted u m).1.freeList = []
      ∧ (s.slotAt u m = none → (s.recordUnpermitted u m).2 = true) := by
  rcases s.recordUnpermitted_cases u m with ⟨j, q, hj, hq, -, h⟩ | ⟨j, q, hj, -, -, h⟩ | ⟨t, -, ht, -⟩ | ⟨-, -, h⟩
  · rw [h]
    obtain ⟨x, hx, hxu, -⟩ := s.slotAt_some u hj
    cases hq.symm.trans hx
    exact ⟨State.narrows_modifySlot hq hxu ⟨_, congrArg Slot.permit (Slot.stopUnpermitted_of hq _), rfl, rfl, rfl⟩, hfree,
      fun hno => by rw [hno] at hj; cases hj⟩
  · rw [h]
    exact ⟨.refl u s, hfree, fun hno => by rw [hno] at hj; cases hj⟩
  · rw [State.takeFree, hfree] at ht
    cases ht
  · rw [h]
    exact ⟨.refl u s, hfree, fun _ => rfl⟩

/-- Recording with no FREE slot leaves every stage without a permit, and tells it (R44, R45). -/
theorem State.recordAllUnpermitted_full (l : List Nat) : ∀ s : State, s.freeList = [] →
    s.Narrows u (s.recordAllUnpermitted u l).1
    ∧ ((∀ (j : SlotNo) (p : Permit), s.slots[j].permit = some p → p.unit = u → p.stage ≠ k) → k ∈ l →
      (s.recordAllUnpermitted u l).2 = true) := by
  induction l with
  | nil => exact fun s _ => ⟨.refl u s, fun _ h => absurd h List.not_mem_nil⟩
  | cons m l ih =>
    intro s hfree
    obtain ⟨h1, h2, h3⟩ := State.recordUnpermitted_full (u := u) hfree m
    obtain ⟨h4, h5⟩ := ih _ h2
    refine ⟨h1.trans h4, fun hno hk => Bool.or_eq_true_iff.mpr ?_⟩
    rcases List.mem_cons.mp hk with rfl | hk
    · exact .inl (h3 (State.slotAt_none_iff.mpr hno))
    · refine .inr (h5 (fun j p hp hpu hpk => ?_) hk)
      obtain ⟨y, hy, hyu, hyk, -⟩ := h1.back j p hp hpu
      exact hno j y hy hyu (hyk.trans hpk)

end

end Sys2Proof.Machine


/-! What a NORMAL report makes of the stages that it shows running above the commanded level: the state behind the running
level, and what the rest of the request leaves of it (R7, R9, R16, R42 to R45). -/

namespace Sys2Proof.Machine

section

variable {s t : State} {u : UnitNo} {i : SlotNo} {p : Permit} {d r k l : Nat}

/-! ### The state behind the completions -/

theorem State.stageCount_le_four (h : s.recordsSound) (u : UnitNo) : s.stageCount u ≤ 4 := by
  unfold State.stageCount
  cases hrec : s.record u with
  | none => exact Nat.zero_le 4
  | some x =>
    have hv := (h.2 u).2 x hrec
    simp only [UnitRecord.valid, inRange, Bool.and_eq_true, decide_eq_true_eq] at hv
    obtain ⟨⟨⟨⟨⟨⟨⟨-, h4⟩, -⟩, -⟩, -⟩, -⟩, -⟩, -⟩ := hv
    exact h4

theorem State.SameUnit.window (h : State.SameUnit u s t) : (t.status u).window = (s.status u).window := by rw [h.flag]

/-- A rest takes no slot from the free list, and gives none back where there is a minimum off (R35). -/
theorem State.restSlot_freeList (s : State) (u : UnitNo) (i : SlotNo) : s.freeList <+: (s.restSlot u i).freeList
    ∧ (s.minOff u ≠ 0 → (s.restSlot u i).freeList = s.freeList) := by
  unfold State.restSlot
  split
  · refine ⟨?_, fun h => absurd ‹_› h⟩
    rw [State.freeSlot_eq, State.retireIfEmpty_freeList]
    exact List.prefix_append _ _
  · exact ⟨List.prefix_rfl, fun _ => rfl⟩

theorem State.restAll_freeList (l : List SlotNo) : ∀ s : State, s.freeList <+: (s.restAll u l).freeList
    ∧ (s.minOff u ≠ 0 → (s.restAll u l).freeList = s.freeList) := by
  induction l with
  | nil => exact fun s => ⟨List.prefix_rfl, fun _ => rfl⟩
  | cons i l ih =>
    intro s
    obtain ⟨h1, h2⟩ := s.restSlot_freeList u i
    obtain ⟨h3, h4⟩ := ih (s.restSlot u i)
    exact ⟨h1.trans h3, fun h => (h4 (by rw [s.restSlot_minOff]; exact h)).trans (h2 h)⟩

/-- The state that a report leaves once what has stopped is complete, before the stages found running. -/
structure State.Completed (u : UnitNo) (r : Nat) (s c : State) : Prop where
  tables : c.Tables
  order : c.InOrder u
  level : c.level u = s.level u
  unit : State.SameUnit u s c
  site : c.site = s.site
  room : s.freeList.length ≤ c.freeList.length
  full : s.minOff u ≠ 0 → s.freeList = [] → c.freeList = []
  narrows : s.Narrows u c
  kept : ∀ (i : SlotNo) (p : Permit), s.slots[i].permit = some p → (p.unit = u → p.stage < r) → c.slots[i] = s.slots[i]

theorem State.complete_completed (hs : s.Tables) (ho : s.InOrder u) (hrem : s.Remains u) (r : Nat) :
    State.Completed u r s (s.complete u r) := by
  obtain ⟨ho', hl'⟩ := ho.complete r
  have hn := s.narrows_complete u r
  have hfree : (s.complete u r).freeList
      = (s.restAll u (s.slotsOf u fun p => decide (p.state = .stopping) && decide (r ≤ p.stage))).freeList :=
    State.settleCompliance_freeList _ u
  obtain ⟨hprefix, hsame⟩ :=
    State.restAll_freeList (u := u) (s.slotsOf u fun p => decide (p.state = .stopping) && decide (r ≤ p.stage)) s
  refine ⟨hn.tables hs, ho', hl', (effects_sameUnit u).complete s r hrem, (s.complete_aside u r).base.site,
    by rw [hfree]; exact hprefix.length_le, fun hm h => by rw [hfree, hsame hm, h], hn, fun i p hp hk => ?_⟩
  rw [s.complete_slots, if_neg]
  intro hh
  obtain ⟨q, hq, hqu, hqs⟩ := (s.holds_iff u _ i).mp hh
  cases hp.symm.trans hq
  have := hk hqu
  have := of_decide_eq_true (Bool.and_eq_true_iff.mp hqs).2
  omega

/-- A permit below the running level is one from before the completions. -/
theorem State.Completed.before {c : State} (h : State.Completed u r s c) (hp : c.slots[i].permit = some p)
    (hu : p.unit = u) (hk : p.stage < r) : s.slots[i].permit = some p := by
  obtain ⟨q, hq, hqu, hqk, -⟩ := h.narrows.back i p hp hu
  have := h.kept i q hq fun _ => hqk ▸ hk
  rw [← this]
  exact hp

/-! ### The stages found running -/

theorem State.adoptStages_slots (s : State) (u : UnitNo) (l r : Nat) : (s.adoptStages u l r).slots =
    ((((s.adopt u ((List.range r).drop l)).settleCompliance u).stopAdopted u l)).slots := by
  rw [State.adoptStages_eq]
  dsimp only
  split
  · rfl
  · exact State.joinUrgent_slots _ u

theorem State.stopAdopted_of_active (h : (s.status u).state = .active) (l : Nat) : s.stopAdopted u l = s := by
  rw [State.stopAdopted, h]
  rfl

theorem State.stopAdopted_of_reason {reason : StopReason} (h : (s.status u).state.stopReason = some reason) (l : Nat) :
    s.stopAdopted u l = s.enterStop u reason fun k => decide (l ≤ k) := by
  rw [State.stopAdopted, h]

/-- The stop at once of a linked unit's adopted stages goes down through every one of them (R16, R30, R42). -/
theorem State.enterStop_adopted (ho : s.InOrder u) (h4 : s.level u ≤ 4) (hw : isWired u = false) (reason : StopReason)
    (hall : ∀ (j : SlotNo) (q : Permit), s.slots[j].permit = some q → q.unit = u → l ≤ q.stage → q.stage < s.level u →
      q.state = .running ∧ q.minRunMet = true)
    (hp : s.slots[i].permit = some p) (hu : p.unit = u) (hk : l ≤ p.stage) (hlt : p.stage < s.level u) :
    (s.enterStop u reason fun k => decide (l ≤ k)).slots[i]
      = (s.slots[i].enterDraining reason (s.minRun u)).enterStopping s.site.complianceTimeout := by
  have hdrained {j : SlotNo} {q : Permit} (hq : s.slots[j].permit = some q) (hqu : q.unit = u) (hqk : l ≤ q.stage)
      (hql : q.stage < s.level u) : (s.drained u reason fun k => decide (l ≤ k)).slots[j]
        = s.slots[j].enterDraining reason (s.minRun u) := by
    rw [s.slots_drained, if_pos]
    exact (s.holds_iff u _ j).mpr ⟨q, hq, hqu, Permit.stoppable_iff.mpr ⟨.inr (hall j q hq hqu hqk hql).1, decide_eq_true hqk⟩⟩
  have hroles := s.drained_sameRoles u reason fun k => decide (l ≤ k)
  have hstopped := s.drained_stopped u reason fun k => decide (l ≤ k)
  have hlevel := hroles.level u
  rw [State.enterStop_eq]
  have hi := hdrained hp hu hk hlt
  have hdescends {j : SlotNo} {q : Permit} (hq : (s.drained u reason fun k => decide (l ≤ k)).slots[j].permit = some q)
      (hqu : q.unit = u) (hqk : l ≤ q.stage) (hql : q.stage < s.level u) : q.descends = true := by
    obtain ⟨x, hx, hxu, hxk, -⟩ := hroles.exists hq
    obtain ⟨-, hmet⟩ := hall j x hx (hxu.trans hqu) (by omega) (by omega)
    rw [hdrained hx (hxu.trans hqu) (by omega) (by omega), Slot.enterDraining_met hx (.inl hmet)] at hq
    cases hq
    rfl
  have hx := (congrArg Slot.permit hi).trans ((Slot.enterDraining_permit s.slots[i] (s.minRun u) reason).trans (congrArg _ hp))
  have ho' := hroles.inOrder ho
  generalize s.drained u reason (fun k => decide (l ≤ k)) = w at hi hx ho' hlevel hstopped hdescends
  obtain ⟨-, hstop⟩ := ho'.topOrder (by omega)
  have hreach : (w.topOrder u).level u ≤ p.stage := Nat.not_lt.mp fun hstay => by
    have hle : (w.topOrder u).level u ≤ w.level u := (ho'.descend 4).2.1
    obtain ⟨j, m, hm, hmu, hmk, -⟩ := ho'.exists_on (k := (w.topOrder u).level u - 1) (by omega)
    have hno := hstop j m hm hmu (by omega)
    rw [hdescends hm hmu (by omega) (by omega)] at hno
    cases hno
  have hslot : (w.topOrder u).slots[i] = w.stopped u w.slots[i] :=
    ((ho'.descend_slots 4 hx hu).2 hreach (by rw [hlevel]; exact hlt)).2
  rw [hslot, hstopped, hi, s.stopped_of_linked u hw]

/-- The slots and the list that the adoption of every stage from the commanded level up to below `r` leaves (R42). -/
theorem State.adoptStages_adopts (hs : s.Tables) (ho : s.InOrder u) (hw : isWired u = false) (hc : s.configured u = true)
    (hr : r ≤ s.stageCount u) (hroom : 4 ≤ s.freeList.length) (hk : s.level u ≤ k) (hkr : k < r) :
    ∃ i sl, Slot.ShowsAdopted u k ((s.rating u k).getD 0) sl
      ∧ (∀ (j : SlotNo) (p : Permit), s.slots[j].permit = some p → p.unit = u → p.stage = k → j = i)
      ∧ ((s.status u).state = .active → (s.adoptStages u (s.level u) r).slots[i] = sl
        ∧ (s.adoptStages u (s.level u) r).level u = r ∧ u ∈ (s.adoptStages u (s.level u) r).link.urgent)
      ∧ ∀ reason, (s.status u).state.stopReason = some reason → (s.adoptStages u (s.level u) r).slots[i]
        = (sl.enterDraining reason (s.minRun u)).enterStopping s.site.complianceTimeout := by
  have h4 := State.stageCount_le_four hs.records u
  have hm : s.level u + (r - s.level u) = r := by omega
  obtain ⟨hlevel, hstages⟩ := State.adopt_adoptedTo (u := u) (r - s.level u) (s.level u) s hs ho rfl (by omega) (by omega)
  obtain ⟨-, hto, -, hunits⟩ := State.adopt_sound (u := u) (r - s.level u) (s.level u) s hs ho rfl (by omega)
  have hsite := (s.adopt_aside u (List.range' (s.level u) (r - s.level u))).base.site
  rw [hm] at hlevel hstages
  rw [State.adoptStages_eq, range_drop]
  generalize s.adopt u (List.range' (s.level u) (r - s.level u)) = a at hlevel hstages hto hunits hsite
  have hsame : State.SameUnit u s (a.settleCompliance u) :=
    (State.SameUnit.of_units (by rw [hunits])).trans State.settleCompliance_sameUnit
  have hslots := a.settleCompliance_slots u
  have hto' := (State.sameRoles_of_slots hslots).inOrder hto
  have hlevel' := (State.level_of_slots hslots u).trans hlevel
  have hsite' := (a.settleCompliance_aside u).base.site.trans hsite
  generalize a.settleCompliance u = b at hsame hslots hto' hlevel' hsite'
  obtain ⟨i, hshow, huniq⟩ := hstages k hk hkr
  have hurgent : b.level u ≠ s.level u := by omega
  dsimp only
  rw [if_neg hurgent]
  refine ⟨i, a.slots[i], hshow, huniq, fun hst => ?_, fun reason hreason => ?_⟩
  · rw [State.stopAdopted_of_active (hsame.state.trans hst)]
    refine ⟨?_, ?_, State.mem_joinUrgent b u hw (hsame.configured.trans hc)⟩
    · rw [State.joinUrgent_slots, hslots]
    · rw [State.level_of_slots (State.joinUrgent_slots b u)]
      exact hlevel'
  · rw [State.joinUrgent_slots, State.stopAdopted_of_reason (by rw [hsame.state]; exact hreason)]
    have hbi : b.slots[i] = a.slots[i] := congrArg (·[i]) hslots
    refine (State.enterStop_adopted hto' (by omega) hw reason (fun j q hq hqu hqk hql => ?_)
      ((congrArg Slot.permit hbi).trans hshow.permit) rfl hk (by rw [hlevel']; exact hkr)).trans
      (by rw [hbi, hsame.minRun, hsite'])
    obtain ⟨x, hx, -⟩ := hstages q.stage hqk (by omega)
    have hxb : b.slots[x].permit = _ := (congrArg Slot.permit (congrArg (·[x]) hslots)).trans hx.permit
    have hjx := hto'.distinct hq hxb hqu rfl rfl
    subst hjx
    rw [Option.some.inj (hq.symm.trans hxb)]
    exact ⟨rfl, rfl⟩

/-- What the record of the stages found running leaves of a stage, and that it is told (R45). -/
theorem State.unpermitted_records (hs : s.Tables) (ho : s.InOrder u) (hr : r ≤ s.stageCount u) (hk : s.level u ≤ k)
    (hkr : k < r) : (s.unpermitted u ((List.range r).drop (s.level u))).raised .noncompliant = true
      ∧ (∀ (i : SlotNo) (p : Permit), s.slots[i].permit = some p → p.unit = u → p.stage = k →
        (s.unpermitted u ((List.range r).drop (s.level u))).slots[i] = s.slots[i].recorded s.site.complianceTimeout)
      ∧ (4 ≤ s.freeList.length → (∀ (j : SlotNo) (p : Permit), s.slots[j].permit = some p → p.unit = u → p.stage ≠ k) →
        ∃ i : SlotNo, (s.unpermitted u ((List.range r).drop (s.level u))).slots[i]
          = Slot.stopUnpermitted s.site.complianceTimeout
            (Slot.newPermit u k ((s.rating u k).getD 0) .stopping .adopted true none)) := by
  have h4 := State.stageCount_le_four hs.records u
  have hmem : k ∈ List.range' (s.level u) (r - s.level u) := List.mem_range'_1.mpr ⟨hk, by omega⟩
  have hbound : ∀ m ∈ List.range' (s.level u) (r - s.level u), m < s.stageCount u := fun m hm => by
    obtain ⟨-, hm⟩ := List.mem_range'_1.mp hm
    omega
  rw [range_drop, State.unpermitted_slots]
  refine ⟨?_, fun i p hp hpu hpk => ?_, fun hroom hno => ?_⟩
  · rw [State.unpermitted, State.raised_raise, decide_eq_true rfl, Bool.or_true]
  · exact State.recordAllUnpermitted_own _ s hs ho List.nodup_range' hbound hp hpu (hpk ▸ hmem)
  · exact State.recordAllUnpermitted_new _ s hs ho List.nodup_range' hbound (by rw [List.length_range']; omega) hmem hno

/-! ### What the rest of the request leaves -/

/-- The state behind the completions of a NORMAL report, and behind the stages that it finds running. -/
def State.completed (u : UnitNo) (d r : Nat) (s : State) : State :=
  (s.recordRequest u d r .normal).complete u (min r (s.stageCount u))

def State.found (u : UnitNo) (d r : Nat) (s : State) : State := (s.completed u d r).findRunning u (min r (s.stageCount u))

theorem State.recordRequest_window (s : State) (u : UnitNo) (d r : Nat) (c : Condition) :
    ((s.recordRequest u d r c).status u).window = (s.status u).window := by
  rw [State.recordRequest, s.status_modifyStatus_same]

theorem State.completed_completed (hs : s.tablesSound) (hrem : s.Remains u) (d r : Nat) :
    State.Completed u (min r (s.stageCount u)) (s.recordRequest u d r .normal) (s.completed u d r) := by
  have ha := State.recordRequest_reworked (State.tables_of_sound hs) (State.tablesSound_inOrder hs u) d r .normal
  exact State.complete_completed ha.tables ha.order (State.recordRequest_remains hrem d r .normal) _

theorem State.requested_eq_found (hs : s.tablesSound) (hw : isWired u = false) (hc : s.configured u = true)
    (hrem : s.Remains u) (d r : Nat) :
    s.requested u d r .normal = ((s.found u d r).closeWindow u).applyDesired u := by
  have hcompleted := State.completed_completed (u := u) hs hrem d r
  have hconf : (s.completed u d r).configured u = true :=
    hcompleted.unit.configured.trans ((s.recordRequest_configured u d r .normal).trans hc)
  rw [State.requested_normal, State.levelsTaken_eq, State.runningTaken,
    if_pos ((s.recordRequest_configured u d r .normal).trans hc), State.applyRunning_eq,
    s.recordRequest_runningLevel d r .normal hw]
  exact congrArg (State.applyDesired u) (if_pos hconf)

/-- A permit that is off, or RUNNING below the desired level, is left by the desired level (R36, R40). -/
theorem State.applyDesired_keeps (ho : s.InOrder u) (hp : s.slots[i].permit = some p)
    (h : p.state.commandedOn = false ∨ p.unit = u ∧ p.state = .running ∧ p.stage < s.effectiveDesired u) :
    (s.applyDesired u).slots[i] = s.slots[i] := by
  rcases h with h | ⟨hu, hst, hlt⟩
  · exact State.applyDesired_slots_off hp h
  · by_cases ha : (s.status u).state = .active
    · rw [State.applyDesired_of_active ha]
      exact State.desiredTaken_kept ho hp hu (.inr hst) hlt
    · rw [State.applyDesired_of_not_active ha]

/-- What a request leaves of the state behind the stages found running. -/
structure State.FoundStays (u : UnitNo) (d : Nat) (w t : State) : Prop where
  slots : ∀ (i : SlotNo) (p : Permit), w.slots[i].permit = some p →
    p.state.commandedOn = false ∨ p.unit = u ∧ p.state = .running ∧ p.stage < d → t.slots[i] = w.slots[i]
  notices : ∀ n : Notice, w.raised n = true → t.raised n = true
  urgent : w.level u ≤ d → u ∈ w.link.urgent → u ∈ t.link.urgent
  lacks : ∀ k, w.freeList = [] → (∀ (j : SlotNo) (p : Permit), w.slots[j].permit = some p → p.unit = u → p.stage ≠ k) →
    w.Remains u → w.minOff u ≠ 0 → ∀ (j : SlotNo) (p : Permit), t.slots[j].permit = some p → p.unit = u → p.stage ≠ k

/-- With no FREE slot and a minimum off, no effect of a request makes one FREE. -/
theorem effects_full (u : UnitNo) : Effects u fun s t => s.Remains u → s.minOff u ≠ 0 → s.freeList = [] →
    State.SameUnit u s t ∧ t.freeList = [] where
  refl _ _ _ h := ⟨.of_units rfl, h⟩
  trans h k hr hm hf := by
    obtain ⟨h1, h2⟩ := h hr hm hf
    obtain ⟨h3, h4⟩ := k (h1.remains hr) (by rw [h1.minOff]; exact hm) h2
    exact ⟨h1.trans h3, h4⟩
  slots _ _ _ _ h := ⟨.of_units rfl, h⟩
  take h _ _ hf := by rw [State.takeFree, hf] at h; cases h
  rest s i hr hm hf := ⟨State.restSlot_sameUnit hr i, ((s.restSlot_freeList u i).2 hm).trans hf⟩
  comply s _ _ hf := ⟨State.settleCompliance_sameUnit, (s.settleCompliance_freeList u).trans hf⟩
  urgent s _ _ hf := ⟨.of_units (by rw [s.joinUrgent_units]), (s.joinUrgent_freeList u).trans hf⟩
  note _ _ _ _ _ hf := ⟨.of_units rfl, hf⟩

/-- A desire step grants nothing with no FREE slot (R96). -/
theorem State.desireStep_slots_full (hf : s.freeList = []) : (s.desireStep u).slots = s.slots := by
  obtain ⟨b, q, h | ⟨e, he, -⟩⟩ := s.desireStep_queueStep u
  · rw [h]
    exact State.raiseIf_withQueue_slots s b _ q
  · obtain ⟨-, -, h, -⟩ := s.obstacle_none he
    exact absurd hf h

theorem State.foundStays {w : State} (ht : w.Tables) (ho : w.InOrder u) (hd : w.effectiveDesired u = d) :
    State.FoundStays u d w (((w.closeWindow u).applyDesired u).desireStep u) := by
  have hx : State.Reworked u w (w.closeWindow u) := State.modifyStatus_reworked ht ho rfl (ht.bounded u)
  have hy := hx.trans (State.applyDesired_reworked hx.tables hx.order)
  have hxd : (w.closeWindow u).effectiveDesired u = d := by
    rw [← hd, State.effectiveDesired, State.closeWindow, State.status_modifyStatus_same]
    rfl
  have hstep := ((w.closeWindow u).applyDesired u).desireStep_queueStep u
  refine ⟨fun i p hp h => ?_, fun n hn => ?_, fun hl hu => ?_, fun k hfree hno hrem hoff => ?_⟩
  · have happly : ((w.closeWindow u).applyDesired u).slots[i] = w.slots[i] :=
      State.applyDesired_keeps (s := w.closeWindow u) hx.order hp (by rw [hxd]; exact h)
    rw [hstep.slots_of_permit hy.tables.free (by rw [happly, hp]; exact Option.some_ne_none p), happly]
  · exact (State.desireStep_noticesGrow _ u).1 n (((effects_noticesGrow u).applyDesired (w.closeWindow u)).1 n hn)
  · refine hstep.urgent ?_
    by_cases ha : ((w.closeWindow u).status u).state = .active
    · rw [State.applyDesired_of_active ha, hxd, State.desiredTaken]
      have hlevel : ((w.closeWindow u).restoreBelow u d).level u ≤ d :=
        (((w.closeWindow u).restoreBelow_sameRoles u d).level u).trans_le hl
      rw [State.releaseFrom_of_le hlevel, State.restoreBelow_eq]
      exact hu
    · rw [State.applyDesired_of_not_active ha]
      exact hu
  · have hxoff : (w.closeWindow u).minOff u ≠ 0 := by rw [State.closeWindow, State.modifyStatus_minOff]; exact hoff
    have hxrem : (w.closeWindow u).Remains u := fun hst => by
      rw [State.closeWindow, State.status_modifyStatus_same] at hst
      exact ⟨(hrem hst).1, hxoff⟩
    obtain ⟨-, hyfree⟩ := (effects_full u).applyDesired (w.closeWindow u) hxrem hxoff hfree
    intro j p hp hpu hpk
    rw [State.desireStep_slots_full hyfree] at hp
    obtain ⟨q, hq, hqu, hqk, -⟩ := ((w.closeWindow u).narrows_applyDesired u).back j p hp hpu
    exact hno j q hq hqu (hqk.trans hpk)

end

end Sys2Proof.Machine


/-! O55: adoption and unpermitted running in a report (R7, R14, R42 to R45). -/

namespace Sys2Proof.Machine

section

variable {s t c : State} {u : UnitNo} {r k : Nat} {d b : Byte}

/-- A report from `s` that shows the stages below `r` running: the state `c` behind its completions, and the next state `t`. -/
structure State.Finds (u : UnitNo) (r d : Nat) (s c t : State) : Prop where
  tables : c.Tables
  order : c.InOrder u
  level : c.level u = s.level u
  state : (c.status u).state = (s.status u).state
  window : (c.status u).window = .opened ↔ (s.status u).window = .opened ∨ (s.status u).link = .silent
  configured : c.configured u = true
  stageCount : c.stageCount u = s.stageCount u
  rating : ∀ k, c.rating u k = s.rating u k
  site : c.site = s.site
  minOff : c.minOff u = s.minOff u
  remains : c.Remains u
  room : s.freeList.length ≤ c.freeList.length
  full : s.minOff u ≠ 0 → s.freeList = [] → c.freeList = []
  kept : ∀ (i : SlotNo) (p : Permit), s.slots[i].permit = some p → (p.unit = u → p.stage < r) → c.slots[i] = s.slots[i]
  back : ∀ (i : SlotNo) (p : Permit), c.slots[i].permit = some p → p.unit = u → ∃ q, s.slots[i].permit = some q
    ∧ q.unit = u ∧ q.stage = p.stage
  before : ∀ (i : SlotNo) (p : Permit), c.slots[i].permit = some p → p.unit = u → p.stage < r → s.slots[i].permit = some p
  stays : State.FoundStays u d (c.findRunning u r) t

theorem State.configured_of_stage (hs : s.recordsSound) (hk : k < s.stageCount u) : s.configured u = true := by
  refine State.configured_of_state fun h => ?_
  rw [State.stageCount, (hs.2 u).1.mp h] at hk
  cases hk

theorem exec_report_finds (hsound : s.tablesSound) (h : s.awaitsWith u (reportFrame u d b 0#8)) (hw : isWired u = false)
    (hb : b.toNat ≤ s.stageCount u) (hconf : s.configured u = true) (hrem : s.Remains u) :
    ∃ c t, exec .reportReceived s = .next t ∧ State.Finds u b.toNat (min d.toNat (s.stageCount u)) s c t := by
  have hsound' := State.reporting_sound hsound u
  have hrem' := State.reporting_remains hrem
  have hconf' := (s.reporting_configured u).trans hconf
  have hexec := exec_report_normal h hconf
  have hc := State.completed_completed hsound' hrem' d.toNat b.toNat
  rw [State.requestEvent_eq, State.requested_eq_found hsound' hw hconf' hrem'] at hexec
  have hmin : min b.toNat ((s.reporting u).stageCount u) = b.toNat := by rw [s.reporting_stageCount]; exact Nat.min_eq_left hb
  have hrecorded : ((s.reporting u).recordRequest u d.toNat b.toNat .normal).effectiveDesired u
      = min d.toNat (s.stageCount u) := by
    rw [State.effectiveDesired, State.recordRequest, State.status_modifyStatus_same, s.reporting_stageCount]
    rfl
  have hstate := ((s.reporting u).recordRequest_state u d.toNat b.toNat .normal).trans (s.reporting_state u)
  have hwindow : (((s.reporting u).recordRequest u d.toNat b.toNat .normal).status u).window = .opened
      ↔ (s.status u).window = .opened ∨ (s.status u).link = .silent := by
    rw [State.recordRequest_window]
    exact s.reporting_window u
  have hrec : ((s.reporting u).recordRequest u d.toNat b.toNat .normal).record u = s.record u :=
    (State.record_modifyStatus _ u u _).trans (s.reporting_record u)
  rw [hmin] at hc
  rw [State.found, hmin] at hexec
  have hremains := State.recordRequest_remains hrem' d.toNat b.toNat .normal
  have hconfigured := ((s.reporting u).recordRequest_configured u d.toNat b.toNat .normal).trans hconf'
  have hminOff := ((s.reporting u).recordRequest_minOff (u := u) d.toNat b.toNat .normal).trans (s.reporting_minOff u)
  have hslots' : ((s.reporting u).recordRequest u d.toNat b.toNat .normal).slots = s.slots := s.reporting_slots u
  have hfree' : ((s.reporting u).recordRequest u d.toNat b.toNat .normal).freeList = s.freeList := s.reporting_freeList u
  have hsite' : ((s.reporting u).recordRequest u d.toNat b.toNat .normal).site = s.site := s.reporting_site u
  have hlevel' : ((s.reporting u).recordRequest u d.toNat b.toNat .normal).level u = s.level u := s.reporting_level u
  generalize (s.reporting u).completed u d.toNat b.toNat = c at hexec hc
  generalize (s.reporting u).recordRequest u d.toNat b.toNat .normal = e at *
  have hcount := hc.unit.stageCount.trans (State.stageCount_congr hrec)
  have hfound := State.findRunning_reworked hc.tables hc.order (r := b.toNat) (by rw [hcount]; exact hb)
  have heff : (c.findRunning u b.toNat).effectiveDesired u = min d.toNat (s.stageCount u) := by
    rw [((effects_sameUnit u).findRunning c b.toNat (hc.unit.remains hremains)).effectiveDesired, hc.unit.effectiveDesired]
    exact hrecorded
  exact ⟨c, _, hexec, {
    tables := hc.tables
    order := hc.order
    level := hc.level.trans hlevel'
    state := hc.unit.state.trans hstate
    window := by rw [hc.unit.window]; exact hwindow
    configured := hc.unit.configured.trans hconfigured
    stageCount := hcount
    rating := fun k => by rw [hc.unit.rating, State.rating, hrec]; rfl
    site := hc.site.trans hsite'
    minOff := hc.unit.minOff.trans hminOff
    remains := hc.unit.remains hremains
    room := by rw [← hfree']; exact hc.room
    full := fun hm hf => hc.full (by rw [hminOff]; exact hm) (hfree'.trans hf)
    kept := fun i p hp hk => (hc.kept i p (by rw [hslots']; exact hp) hk).trans (congrArg (·[i]) hslots')
    before := fun i p hp hu hk => by
      rw [← hslots']
      exact hc.before hp hu hk
    back := fun i p hp hu => by
      obtain ⟨q, hq, hqu, hqk, -⟩ := hc.narrows.back i p hp hu
      rw [hslots'] at hq
      exact ⟨q, hq, hqu, hqk⟩
    stays := State.foundStays hfound.tables hfound.order heff }⟩

variable {D : Nat}

/-- The permit of one stage after a report, in the only slot that could hold it before. -/
structure State.StageAt (u : UnitNo) (k : Nat) (s t : State) (i : SlotNo) (q : Permit) : Prop where
  permit : t.slots[i].permit = some q
  unit : q.unit = u
  stage : q.stage = k
  rating : some q.rating = s.rating u k
  only : ∀ (j : SlotNo), ∀ p ∈ s.slots[j].permit, p.unit = u → p.stage = k → j = i

namespace State.Finds

variable (h : State.Finds u r D s c t)

include h

theorem level_lt (hk : s.level u ≤ k) (hkr : k < r) : c.level u < r := by
  rw [h.level]
  omega

theorem only (hkr : k < r) {i : SlotNo} (hi : ∀ (j : SlotNo) (p : Permit), c.slots[j].permit = some p → p.unit = u →
    p.stage = k → j = i) : ∀ (j : SlotNo), ∀ p ∈ s.slots[j].permit, p.unit = u → p.stage = k → j = i := fun j p hp hpu hpk =>
  hi j p ((congrArg Slot.permit (h.kept j p hp fun _ => hpk ▸ hkr)).trans hp) hpu hpk

/-- Adoption: RUNNING in an ACTIVE unit, stopped at once in a LOCKED or RETIRING one (R42, R43). -/
theorem adopted (hw : isWired u = false) (hr : r ≤ s.stageCount u) (hrD : r ≤ D) (hroom : 4 ≤ s.freeList.length)
    (hk : s.level u ≤ k) (hkr : k < r) (hopen : (c.status u).window = .opened) (hconf : s.configured u = true) :
    ∃ i q, State.StageAt u k s t i q
      ∧ ((s.status u).state = .active → q.state = .running ∧ q.origin = .adopted ∧ q.minRunMet = true ∧ q.reason = none
        ∧ q.rotationDue = false ∧ t.slots[i].counter = 0 ∧ t.slots[i].aArmed = false ∧ u ∈ t.link.urgent)
      ∧ ∀ reason, (s.status u).state.stopReason = some reason → q.state = .stopping ∧ q.origin = .adopted
        ∧ q.reason = some reason ∧ t.slots[i].counter = 0 ∧ t.slots[i].aValue = s.site.complianceTimeout
        ∧ t.slots[i].aArmed = true := by
  have hfind : c.findRunning u r = c.adoptStages u (c.level u) r := by
    rw [State.findRunning, if_pos (h.level_lt hk hkr), if_pos hopen]
  have hstays := h.stays
  have hrating : some ((s.rating u k).getD 0) = s.rating u k := (State.rating_isSome (by omega)).symm
  obtain ⟨i, sl, hshow, honly, hactive, hstopped⟩ := State.adoptStages_adopts (k := k) h.tables h.order hw h.configured
    (by rw [h.stageCount]; exact hr) (hroom.trans h.room) (by rw [h.level]; exact hk) hkr
  rw [h.rating] at hshow
  rw [h.state, ← hfind] at hactive hstopped
  have honly' := h.only hkr honly
  generalize c.findRunning u r = w at hstays hactive hstopped
  cases hreason : (s.status u).state.stopReason with
  | none =>
    have hst : (s.status u).state = .active := by
      cases hst : (s.status u).state with
      | active => rfl
      | unconfigured => rw [State.configured, hst] at hconf; cases hconf
      | locked => rw [hst] at hreason; cases hreason
      | retiring => rw [hst] at hreason; cases hreason
    obtain ⟨h1, h2, h3⟩ := hactive hst
    have hslot : t.slots[i] = sl := (hstays.slots i _ ((congrArg Slot.permit h1).trans hshow.permit)
      (.inr ⟨rfl, rfl, Nat.lt_of_lt_of_le hkr hrD⟩)).trans h1
    refine ⟨i, _, ⟨by rw [hslot]; exact hshow.permit, rfl, rfl, hrating, honly'⟩, fun _ => ?_, fun reason hr => by cases hr⟩
    rw [hslot]
    exact ⟨rfl, rfl, rfl, rfl, rfl, hshow.counter, hshow.disarmed, hstays.urgent (h2.trans_le hrD) h3⟩
  | some reason =>
    have h1 := hstopped reason hreason
    rw [Slot.enterDraining_enterStopping hshow.permit (.inl rfl)] at h1
    have hslot := (hstays.slots i _ (congrArg Slot.permit h1) (.inl rfl)).trans h1
    refine ⟨i, _, ⟨by rw [hslot], rfl, rfl, hrating, honly'⟩, fun hst => (by rw [hst] at hreason; cases hreason),
      fun x hx => ?_⟩
    cases hx
    rw [hslot]
    exact ⟨rfl, rfl, rfl, rfl, by rw [h.site], decide_eq_true (SiteRecord.complianceTimeout_pos h.tables.records.1)⟩

/-- Unpermitted running: a stage that was off is STOPPING, and for the reason where it was not so already (R45). -/
theorem recorded (hr : r ≤ s.stageCount u) (hroom : 4 ≤ s.freeList.length) (hk : s.level u ≤ k) (hkr : k < r)
    (hopen : ¬ (c.status u).window = .opened) : ∃ i q, State.StageAt u k s t i q ∧ t.raised .noncompliant = true
      ∧ q.state = .stopping
      ∧ ((∀ (j : SlotNo), ∀ p ∈ s.slots[j].permit, p.unit = u → p.stage = k → p.state = .resting) →
        q.reason = some .unpermitted ∧ q.minRunMet = true ∧ t.slots[i].counter = 0
          ∧ t.slots[i].aValue = s.site.complianceTimeout ∧ t.slots[i].aArmed = true) := by
  have hpos := SiteRecord.complianceTimeout_pos h.tables.records.1
  have hfind : c.findRunning u r = c.unpermitted u ((List.range r).drop (c.level u)) := by
    rw [State.findRunning, if_pos (h.level_lt hk hkr), if_neg hopen]
  have hstays := h.stays
  have hrating : some ((s.rating u k).getD 0) = s.rating u k := (State.rating_isSome (by omega)).symm
  obtain ⟨hnote, hown, hnew⟩ := State.unpermitted_records (k := k) h.tables h.order (by rw [h.stageCount]; exact hr)
    (by rw [h.level]; exact hk) hkr
  rw [← hfind] at hnote hown hnew
  rw [h.site] at hown hnew hpos
  generalize c.findRunning u r = w at hstays hnote hown hnew
  have hnoted := hstays.notices .noncompliant hnote
  cases hi : c.slotAt u k with
  | none =>
    have hno := State.slotAt_none_iff.mp hi
    obtain ⟨i, hi⟩ := hnew (hroom.trans h.room) hno
    rw [Slot.stopUnpermitted_of (Slot.newPermit_permit _ _ _ _ _ _), h.rating] at hi
    have hslot := (hstays.slots i _ (congrArg Slot.permit hi) (.inl rfl)).trans hi
    refine ⟨i, _, ⟨by rw [hslot], rfl, rfl, hrating, h.only hkr fun j p hp hpu hpk => absurd hpk (hno j p hp hpu)⟩, hnoted,
      rfl, fun _ => ?_⟩
    rw [hslot]
    exact ⟨rfl, rfl, rfl, rfl, decide_eq_true hpos⟩
  | some i =>
    obtain ⟨p, hp, hpu, hpk⟩ := c.slotAt_some u hi
    have honly := h.only hkr fun j q hq hqu hqk => h.order.distinct hq hp hqu hpu (hqk.trans hpk.symm)
    have hprating := h.tables.ratings i p hp
    rw [hpu, hpk, h.rating] at hprating
    have hoff : p.state.commandedOn = false := Bool.eq_false_iff.mpr fun hon => by
      have := (h.order.on_iff hp hpu).mp hon
      rw [h.level] at this
      omega
    have hi := hown i p hp hpu hpk
    by_cases hrest : p.state = .resting
    · rw [Slot.recorded_of_resting hp hrest, Slot.stopUnpermitted_of hp] at hi
      have hslot := (hstays.slots i _ (congrArg Slot.permit hi) (.inl rfl)).trans hi
      refine ⟨i, _, ⟨congrArg Slot.permit hslot, hpu, hpk, hprating.symm, honly⟩, hnoted, rfl, fun _ => ?_⟩
      rw [hslot]
      exact ⟨rfl, rfl, rfl, rfl, decide_eq_true hpos⟩
    · rw [Slot.recorded_of_not_resting hp hrest] at hi
      have hslot := (hstays.slots i p ((congrArg Slot.permit hi).trans hp) (.inl hoff)).trans hi
      refine ⟨i, p, ⟨by rw [hslot]; exact hp, hpu, hpk, hprating.symm, honly⟩, hnoted, ?_, fun hall => ?_⟩
      · cases hst : p.state with
        | stopping => rfl
        | resting => exact absurd hst hrest
        | starting => rw [hst] at hoff; cases hoff
        | running => rw [hst] at hoff; cases hoff
        | draining => rw [hst] at hoff; cases hoff
      · exact absurd (hall i p (h.before i p hp hpu (hpk ▸ hkr)) hpu hpk) hrest

/-! ### No FREE slot -/

theorem lacks (hno : ∀ (j : SlotNo) (p : Permit), s.slots[j].permit = some p → p.unit = u → p.stage ≠ k) (j : SlotNo)
    (p : Permit) (hp : c.slots[j].permit = some p) (hu : p.unit = u) : p.stage ≠ k := fun hpk => by
  obtain ⟨q, hq, hqu, hqk⟩ := h.back j p hp hu
  exact hno j q hq hqu (hqk.trans hpk)

/-- What is found with no FREE slot makes no permit, and frees none. -/
theorem stays_full (hfull : s.freeList = []) (hoff : s.minOff u ≠ 0)
    (hno : ∀ (j : SlotNo) (p : Permit), (c.findRunning u r).slots[j].permit = some p → p.unit = u → p.stage ≠ k) :
    ∀ (j : SlotNo), ∀ q ∈ t.slots[j].permit, q.unit = u → q.stage ≠ k := by
  have hoff' : c.minOff u ≠ 0 := by rw [h.minOff]; exact hoff
  obtain ⟨hsame, hfree⟩ := (effects_full u).findRunning c r h.remains hoff' (h.full hoff hfull)
  exact h.stays.lacks k hfree hno (hsame.remains h.remains) (by rw [hsame.minOff]; exact hoff')

/-- Adoption with no FREE slot (R44). -/
theorem adopted_full (hfull : s.freeList = []) (hoff : s.minOff u ≠ 0) (hk : s.level u ≤ k) (hkr : k < r)
    (hopen : (c.status u).window = .opened)
    (hno : ∀ (j : SlotNo) (p : Permit), s.slots[j].permit = some p → p.unit = u → p.stage ≠ k) :
    t.raised .tableFull = true ∧ (∀ (j : SlotNo), ∀ q ∈ t.slots[j].permit, q.unit = u → q.stage ≠ k)
      ∧ ∀ (j : SlotNo) (p : Permit), s.slots[j].permit = some p → p.unit = u → k < p.stage → p.stage < r →
        t.slots[j] = s.slots[j] := by
  have hfind : c.findRunning u r = c.adoptStages u (c.level u) r := by
    rw [State.findRunning, if_pos (h.level_lt hk hkr), if_pos hopen]
  have hno' := h.lacks hno
  have hlevel := h.level
  obtain ⟨h1, h2, h3⟩ := State.adopt_full (u := u) (k := k) (r - c.level u) (c.level u) c (h.full hoff hfull)
    (by omega) (by omega) hno'
  have hslots := c.adoptStages_slots u (c.level u) r
  rw [range_drop] at hslots
  have hnotes := State.adoptStages_eq (u := u) (s := c) (c.level u) r
  generalize hadopt : c.adopt u (List.range' (c.level u) (r - c.level u)) = a at h1 h2 h3 hslots
  have he := effects_noticesGrow u
  have hb := a.settleCompliance_slots u
  have hnarrow : c.Narrows u ((a.settleCompliance u).stopAdopted u (c.level u)) := by
    refine (h2.trans (a.narrows_settleCompliance u)).trans ?_
    unfold State.stopAdopted
    split
    · exact State.narrows_enterStop _ u _ _
    · exact .refl u _
  have hfull' : (c.findRunning u r).raised .tableFull = true := by
    rw [hfind, hnotes, range_drop, hadopt]
    have h5 := (he.stopAdopted (a.settleCompliance u) (c.level u)).1 _ ((he.comply a).1 _ h1)
    dsimp only
    split
    · exact h5
    · exact (he.urgent _).1 _ h5
  refine ⟨h.stays.notices _ hfull', h.stays_full hfull hoff fun j p hp hpu hpk => ?_, fun j p hp hpu hkp hpr => ?_⟩
  · rw [hfind, hslots] at hp
    obtain ⟨q, hq, hqu, hqk, -⟩ := hnarrow.back j p hp hpu
    exact hno' j q hq hqu (hqk.trans hpk)
  · have hcj := h.kept j p hp fun _ => hpr
    have hcp : c.slots[j].permit = some p := by rw [hcj]; exact hp
    have hoff' : p.state.commandedOn = false := Bool.eq_false_iff.mpr fun hon => by
      have := (h.order.on_iff hcp hpu).mp hon
      omega
    have hbj : (a.settleCompliance u).slots[j] = c.slots[j] := (congrArg (·[j]) hb).trans (h3 j p hcp hpu hkp)
    have hw : (c.findRunning u r).slots[j] = c.slots[j] := by
      rw [hfind, hslots]
      exact (State.stopAdopted_slots_off (by rw [hbj]; exact hcp) hoff').trans hbj
    exact ((h.stays.slots j p (by rw [hw]; exact hcp) (.inl hoff')).trans hw).trans hcj

/-- The record of unpermitted running with no FREE slot (R44, R45). -/
theorem recorded_full (hfull : s.freeList = []) (hoff : s.minOff u ≠ 0) (hr : r ≤ s.stageCount u) (hk : s.level u ≤ k)
    (hkr : k < r) (hopen : ¬ (c.status u).window = .opened)
    (hno : ∀ (j : SlotNo) (p : Permit), s.slots[j].permit = some p → p.unit = u → p.stage ≠ k) :
    t.raised .tableFull = true ∧ (∀ (j : SlotNo), ∀ q ∈ t.slots[j].permit, q.unit = u → q.stage ≠ k)
      ∧ t.raised .noncompliant = true
      ∧ ∀ (j : SlotNo) (p : Permit), s.slots[j].permit = some p → p.unit = u → s.level u ≤ p.stage →
        p.stage < r → p.state = .resting → t.slots[j] = { s.slots[j] with
          counter := 0, aValue := s.site.complianceTimeout, aArmed := true, pArmed := false
          permit := some { p with
            state := .stopping, reason := some .unpermitted, minRunMet := true, rotationDue := false } } := by
  have hpos := SiteRecord.complianceTimeout_pos h.tables.records.1
  have hfind : c.findRunning u r = c.unpermitted u ((List.range r).drop (c.level u)) := by
    rw [State.findRunning, if_pos (h.level_lt hk hkr), if_neg hopen]
  have hlevel := h.level
  obtain ⟨hn, htold⟩ := State.recordAllUnpermitted_full (u := u) (k := k) ((List.range r).drop (c.level u)) c
    (h.full hoff hfull)
  have hmem : k ∈ (List.range r).drop (c.level u) := by
    rw [range_drop]
    exact List.mem_range'_1.mpr ⟨by omega, by omega⟩
  have htold := htold (h.lacks hno) hmem
  have hslots := c.unpermitted_slots u ((List.range r).drop (c.level u))
  refine ⟨h.stays.notices _ ?_, h.stays_full hfull hoff fun j p hp hpu => ?_, ?_, fun j p hp hpu hpk hpr hst => ?_⟩
  · have htable : ((c.recordAllUnpermitted u ((List.range r).drop (c.level u))).1.raiseIf true .tableFull).raised
        .tableFull = true := by
      rw [State.raiseIf, if_pos rfl, State.raised_raise, decide_eq_true rfl, Bool.or_true]
    rw [hfind, State.unpermitted, State.raised_raise, htold, htable, Bool.true_or]
  · rw [hfind, hslots] at hp
    obtain ⟨q, hq, hqu, hqk, -⟩ := hn.back j p hp hpu
    exact fun hpk => h.lacks hno j q hq hqu (hqk.trans hpk)
  · obtain ⟨hnote, -⟩ := State.unpermitted_records (k := k) h.tables h.order (by rw [h.stageCount]; exact hr)
      (by omega) hkr
    exact h.stays.notices _ (by rw [hfind]; exact hnote)
  · have hcj := h.kept j p hp fun _ => hpr
    have hcp : c.slots[j].permit = some p := by rw [hcj]; exact hp
    obtain ⟨-, hown, -⟩ := State.unpermitted_records (k := p.stage) h.tables h.order (by rw [h.stageCount]; exact hr)
      (by omega) hpr
    have hw := hown j p hcp hpu rfl
    rw [← hfind, Slot.recorded_of_resting hcp hst, Slot.stopUnpermitted_of hcp, hcj, h.site] at hw
    rw [h.site] at hpos
    rw [(h.stays.slots j _ (congrArg Slot.permit hw) (.inl rfl)).trans hw, decide_eq_true hpos]

end State.Finds

end

/-- Settles O55: what is adopted, recorded or left over, from the state behind the completions of the report. -/
theorem reportAdoptsOrRecordsRunningStages : Obligations.ReportAdoptsOrRecordsRunningStages := by
  intro s u d b k hsound hawaits hw hbd hb hk hkb hret adopts
  have hconf := State.configured_of_stage (State.tables_of_sound hsound).records (Nat.lt_of_lt_of_le hkb hb)
  have hrem : s.Remains u := fun hst => ⟨hw, hret.resolve_left fun h => h hst⟩
  obtain ⟨c, t, hexec, h⟩ := exec_report_finds hsound hawaits hw hb hconf hrem
  have hD : b.toNat ≤ min d.toNat (s.stageCount u) := Nat.le_min.mpr ⟨hbd, hb⟩
  refine ⟨fun hroom => ?_, fun hfull hoff hno => ⟨t, hexec, ?_⟩⟩
  · by_cases hopen : adopts
    · obtain ⟨i, q, hq, hactive, hstopped⟩ := h.adopted hw hb hD hroom hk hkb (h.window.mpr hopen) hconf
      refine ⟨t, i, q, hexec, hq.permit, hq.unit, hq.stage, hq.rating, hq.only, fun _ => ⟨hactive, fun reason hr => ?_⟩,
        fun hno => absurd hopen hno⟩
      obtain ⟨h1, h2, h3, h4, h5, h6⟩ := hstopped reason (by
        rcases hr with ⟨hst, rfl⟩ | ⟨hst, rfl⟩ <;> rw [hst] <;> rfl)
      exact ⟨h1, h2, h3, h4, h5, h6⟩
    · obtain ⟨i, q, hq, hnote, hst, hrest⟩ := h.recorded hb hroom hk hkb fun ho => hopen (h.window.mp ho)
      exact ⟨t, i, q, hexec, hq.permit, hq.unit, hq.stage, hq.rating, hq.only, fun ho => absurd ho hopen,
        fun _ => ⟨hnote, hst, hrest⟩⟩
  · by_cases hopen : adopts
    · obtain ⟨h1, h2, h3⟩ := h.adopted_full hfull hoff hk hkb (h.window.mpr hopen) hno
      exact ⟨h1, h2, fun _ => h3, fun hn => absurd hopen hn⟩
    · obtain ⟨h1, h2, h3, h4⟩ := h.recorded_full hfull hoff hb hk hkb (fun ho => hopen (h.window.mp ho)) hno
      exact ⟨h1, h2, fun ho => absurd ho hopen, fun _ => ⟨h3, h4⟩⟩

end Sys2Proof.Machine


/-! The order of a second tick (log entry 5): an order of parts alone takes each part once, and an event named behind every
part comes behind them. -/

namespace Sys2Proof.Machine

/-! ### The completed order -/

/-- An order of parts alone is completed to the parts that are left, in some order. -/
theorem completeOrder_parts (ps : List TickPart) : ∀ left : List TickPart, left.Nodup →
    ∃ l : List TickPart, l.Perm left ∧ completeOrder left (ps.map .part) = l.map .part := by
  induction ps with
  | nil => exact fun left _ => ⟨left, .refl left, by rw [List.map_nil, completeOrder]⟩
  | cons p ps ih =>
    intro left hleft
    rw [List.map_cons, completeOrder]
    by_cases hp : left.contains p = true
    · obtain ⟨l, hl, heq⟩ := ih _ (hleft.filter fun q => decide (q ≠ p))
      refine ⟨p :: l, (hl.cons p).trans ?_, by rw [if_pos hp, heq, List.map_cons]⟩
      have herase := List.perm_cons_erase (List.contains_iff_mem.mp hp)
      rw [hleft.erase_eq_filter] at herase
      refine .trans (.of_eq ?_) herase.symm
      refine congrArg (p :: ·) (List.filter_congr fun q _ => ?_)
      exact Bool.eq_iff_iff.mpr (decide_eq_true_iff.trans bne_iff_ne.symm)
    · obtain ⟨l, hl, heq⟩ := ih left hleft
      exact ⟨l, hl, by rw [if_neg hp, heq]⟩

/-- An event behind an order that names every part comes behind them all. -/
theorem completeOrder_event (e : TickEvent) (ps : List TickPart) : ∀ left : List TickPart, (∀ p ∈ left, p ∈ ps) →
    completeOrder left (ps.map .part ++ [.event e]) = completeOrder left (ps.map .part) ++ [.event e] := by
  induction ps with
  | nil =>
    intro left h
    obtain rfl := List.eq_nil_iff_forall_not_mem.mpr fun p hp => absurd (h p hp) List.not_mem_nil
    rw [List.map_nil, List.nil_append, completeOrder, completeOrder]
    rfl
  | cons p ps ih =>
    intro left h
    rw [List.map_cons, List.cons_append, completeOrder, completeOrder]
    split
    · rw [ih, List.cons_append]
      intro q hq
      obtain ⟨hmem, hne⟩ := List.mem_filter.mp hq
      exact (List.mem_cons.mp (h q hmem)).resolve_left (of_decide_eq_true hne)
    · next hp =>
      exact ih left fun q hq => (List.mem_cons.mp (h q hq)).resolve_left fun hqp => hp (List.contains_iff_mem.mpr (hqp ▸ hq))

theorem allTickParts_nodup : allTickParts.Nodup := by decide

theorem parts_of_plainOrder {order : List TickItem} (h : plainOrder order) : ∃ ps : List TickPart, order = ps.map .part := by
  obtain ⟨h, -⟩ := h
  induction order with
  | nil => exact ⟨[], rfl⟩
  | cons x rest ih =>
    obtain ⟨ps, rfl⟩ := ih fun e he => h e (List.mem_cons_of_mem x he)
    cases x with
    | part p => exact ⟨p :: ps, rfl⟩
    | event e => exact absurd List.mem_cons_self (h e)

/-! ### The run of a tick's parts -/

/-- The state in which a second tick begins (R51). -/
def State.tickStart (s : State) : State := { s.clearTickMarks with timeBase := s.timeBase.takeSecond }

/-- The parts of a second tick, taken one after the other. -/
def State.takeParts (l : List TickPart) (s : State) : State := l.foldl (fun t p => t.takePart p) s

theorem State.takeParts_cons (p : TickPart) (l : List TickPart) (s : State) :
    s.takeParts (p :: l) = (s.takePart p).takeParts l := rfl

theorem foldl_takeItem_parts (l : List TickPart) (s : State) : (l.map .part).foldl State.takeItem s = s.takeParts l :=
  List.foldl_map

theorem State.tickOrder_parts (s : State) (ps : List TickPart) : ∃ qs : List TickPart, s.tickOrder (ps.map .part) = qs.map .part
    ∧ (∀ p ∈ ps, p ∈ qs) ∧ ∀ l : List TickItem, s.tickOrder (ps.map .part ++ l) = qs.map .part ++ l := by
  unfold State.tickOrder
  split
  · exact ⟨.startGate :: ps, rfl, fun p hp => List.mem_cons_of_mem _ hp, fun l => rfl⟩
  · exact ⟨ps, rfl, fun p hp => hp, fun l => rfl⟩

theorem exec_secondTick {s : State} (hr : s.resetHeld = false) (order : List TickItem) :
    exec (.secondTick order) s = .next (s.secondTick order) :=
  congrArg Host.Outcome.next (if_neg (Bool.eq_false_iff.mp hr))

theorem exec_secondTick_plain {s : State} {order : List TickItem} (h : plainOrder order) (hr : s.resetHeld = false) :
    ∃ l : List TickPart, l.Perm allTickParts ∧ exec (.secondTick order) s = .next (s.tickStart.takeParts l) := by
  obtain ⟨ps, rfl⟩ := parts_of_plainOrder h
  obtain ⟨qs, hqs, -⟩ := s.tickOrder_parts ps
  obtain ⟨l, hl, heq⟩ := completeOrder_parts qs allTickParts allTickParts_nodup
  refine ⟨l, hl, (exec_secondTick hr _).trans (congrArg Host.Outcome.next ?_)⟩
  rw [State.secondTick, hqs, heq, foldl_takeItem_parts]
  rfl

theorem State.takePart_resetHeld (s : State) (p : TickPart) : (s.takePart p).resetHeld = s.resetHeld := by
  cases p with
  | shedEvaluation => exact s.shedEvaluation_base.resetHeld
  | wiredRetry c =>
    show (s.retryWired c).resetHeld = s.resetHeld
    unfold State.retryWired
    split
    · exact (s.desireStep_base _).resetHeld
    · rfl
  | regularPass => exact s.admissionPass_base.resetHeld
  | restartHold | startGate | shedGate | slotCounters | subintervalClock | rateDecay | cycleCounters =>
    dsimp only [State.takePart, State.modifyMeter]

theorem State.takeParts_resetHeld (l : List TickPart) : ∀ s : State, (s.takeParts l).resetHeld = s.resetHeld := by
  induction l with
  | nil => exact fun s => rfl
  | cons p l ih =>
    intro s
    rw [State.takeParts_cons, ih, s.takePart_resetHeld]

/-- What holds before the parts and is kept by each, of the parts taken so far, holds behind them all. -/
theorem State.takeParts_induction {s : State} {P : List TickPart → State → Prop} {l : List TickPart} (hl : l.Nodup) (h0 : P [] s)
    (hstep : ∀ (done : List TickPart) (p : TickPart) (x : State), p ∈ l → (p :: done).Nodup → P done x →
      P (p :: done) (x.takePart p)) : P l.reverse (s.takeParts l) := by
  suffices ∀ (m done : List TickPart) (x : State), m ⊆ l → (m.reverse ++ done).Nodup → P done x →
      P (m.reverse ++ done) (x.takeParts m) by
    have := this l [] s (List.Subset.refl l) (by rw [List.append_nil]; exact List.nodup_reverse.mpr hl) h0
    rw [List.append_nil] at this
    exact this
  intro m
  induction m with
  | nil => exact fun done x _ _ hx => hx
  | cons p m ih =>
    intro done x hsub hnodup hx
    rw [List.reverse_cons, List.append_assoc] at hnodup ⊢
    obtain ⟨hp, hsub⟩ := List.cons_subset.mp hsub
    exact ih (p :: done) (x.takePart p) hsub hnodup (hstep done p x hp (List.nodup_append.mp hnodup).2.1 hx)

theorem mem_allTickParts (p : TickPart) : p ∈ allTickParts := by
  cases p with
  | wiredRetry c => fin_cases c <;> decide
  | _ => decide

theorem State.takeParts_append (l m : List TickPart) (s : State) : s.takeParts (l ++ m) = (s.takeParts l).takeParts m :=
  List.foldl_append

/-- A plain second tick about one of its parts: every other part comes before it or behind it, and none twice (log entry 5). -/
structure SplitAt (q : TickPart) (before behind : List TickPart) : Prop where
  nodup : before.Nodup ∧ behind.Nodup
  fresh : q ∉ before ∧ q ∉ behind
  once : ∀ p ≠ q, p ∈ behind ↔ p ∉ before

theorem exec_secondTick_split {s : State} {order : List TickItem} (h : plainOrder order) (hr : s.resetHeld = false)
    (q : TickPart) : ∃ before behind, SplitAt q before behind
      ∧ exec (.secondTick order) s = .next (((s.tickStart.takeParts before).takePart q).takeParts behind) := by
  obtain ⟨l, hl, hexec⟩ := exec_secondTick_plain h hr
  obtain ⟨before, behind, rfl⟩ := List.append_of_mem (hl.mem_iff.mpr (mem_allTickParts q))
  have hnodup := hl.nodup_iff.mpr allTickParts_nodup
  obtain ⟨h1, h2, h3⟩ := List.nodup_append.mp hnodup
  obtain ⟨h4, h5⟩ := List.nodup_cons.mp h2
  refine ⟨before, behind,
    ⟨⟨h1, h5⟩, ⟨fun hq => h3 q hq q List.mem_cons_self rfl, h4⟩, fun p hp => ⟨fun hb ha => ?_, fun ha => ?_⟩⟩, ?_⟩
  · exact h3 p ha p (List.mem_cons_of_mem q hb) rfl
  · have hmem : p ∈ before ++ q :: behind := hl.mem_iff.mpr (mem_allTickParts p)
    exact (List.mem_cons.mp ((List.mem_append.mp hmem).resolve_left ha)).resolve_left hp
  · rw [hexec, State.takeParts_append, State.takeParts_cons]

/-! ### An event behind every part -/

theorem exec_tickEvent (e : TickEvent) {t : State} (hr : t.resetHeld = false) :
    exec (TickEvent.command e) t = .next (t.takeEvent e) := by
  have hlive (f : State → State) : t.live f = f t := if_neg (Bool.eq_false_iff.mp hr)
  cases e <;> exact congrArg Host.Outcome.next (hlive _)

/-- An event named behind every part acts on what the parts leave as its own command does (R51). -/
theorem exec_secondTick_event {s : State} {parts : List TickPart} (e : TickEvent) (h : parts.Perm allTickParts)
    (hr : s.resetHeld = false) : ∃ t, exec (.secondTick (parts.map .part)) s = .next t
      ∧ exec (.secondTick (parts.map .part ++ [.event e])) s = exec (TickEvent.command e) t := by
  obtain ⟨qs, hqs, hmem, happend⟩ := s.tickOrder_parts parts
  have hall : ∀ p ∈ allTickParts, p ∈ qs := fun p hp => hmem p (h.mem_iff.mpr hp)
  obtain ⟨l, -, heq⟩ := completeOrder_parts qs allTickParts allTickParts_nodup
  have htick : s.secondTick (parts.map .part) = s.tickStart.takeParts l := by
    rw [State.secondTick, hqs, heq, foldl_takeItem_parts]
    rfl
  refine ⟨_, exec_secondTick hr _, (exec_secondTick hr _).trans ?_⟩
  rw [htick, exec_tickEvent e ((State.takeParts_resetHeld l s.tickStart).trans hr), State.secondTick, happend,
    completeOrder_event e qs _ hall, List.foldl_append, heq, foldl_takeItem_parts]
  rfl

end Sys2Proof.Machine


/-! What each part of a second tick does, but for a shed action and a pass over entries: it takes its own figure on, and the
order in which the parts do so does not matter (R51, R53, R60, R62, R72, R73, R75, R77, R124, R165, R180). -/

namespace Sys2Proof.Machine

variable {s x y : State} {done : List TickPart} {p : TickPart}

theorem State.shedEvaluation_of_closed (h : x.shedGate ≠ .opened) : x.shedEvaluation = x.moveDemand :=
  if_neg (by rw [x.moveDemand_shedGate]; exact h)

/-! ### One part -/

/-- What one part of a second tick does to the hold, the shed gate, the meter and the records. -/
structure State.PartStep (p : TickPart) (x y : State) : Prop where
  site : y.site = x.site
  units : y.units = x.units
  threshold : y.shed.threshold = x.shed.threshold
  hold : y.hold = if p = .restartHold then x.hold.tick else x.hold
  shedGate : y.shedGate = if p = .shedGate then x.shedGate.tick else x.shedGate
  meter : y.meter = if p = .subintervalClock then x.meter.clockTick x.site
    else if p = .rateDecay then x.meter.secondTick x.site else x.meter

theorem State.PartStep.of_passed (h : x.Passed y)
    (hp : p ≠ .restartHold ∧ p ≠ .shedGate ∧ p ≠ .subintervalClock ∧ p ≠ .rateDecay) :
    State.PartStep p x y := by
  obtain ⟨h1, h2, h3, h4⟩ := hp
  exact ⟨h.base.site, h.units, by rw [h.shed], by rw [if_neg h1]; exact h.base.hold, by rw [if_neg h2]; exact h.shedGate,
    by rw [if_neg h3, if_neg h4]; exact h.base.meter⟩

theorem State.retryWired_passed (x : State) (c : ChannelNo) : x.Passed (x.retryWired c) := by
  unfold State.retryWired
  split
  · exact x.desireStep_passed _
  · exact .refl x

theorem State.takePart_step (x : State) (p : TickPart) (h : p = .shedEvaluation → x.shedEvaluation = x.moveDemand) :
    State.PartStep p x (x.takePart p) := by
  cases p with
  | shedEvaluation =>
    have hmove : x.takePart .shedEvaluation = x.moveDemand := h rfl
    rw [hmove]
    exact ⟨x.moveDemand_base.site, x.moveDemand_framed.units, x.moveDemand_threshold, x.moveDemand_base.hold,
      x.moveDemand_shedGate, x.moveDemand_base.meter⟩
  | wiredRetry c => exact .of_passed (x.retryWired_passed c) ⟨by simp, by simp, by simp, by simp⟩
  | regularPass => exact .of_passed x.admissionPass_passed ⟨by simp, by simp, by simp, by simp⟩
  | restartHold | startGate | shedGate | slotCounters | subintervalClock | rateDecay | cycleCounters =>
    dsimp only [State.takePart, State.modifyMeter]
    constructor <;> simp

/-! ### Figures that the slot counters leave -/

theorem Slot.load_congr {a b : Slot} (h : a.permit = b.permit) (f : PermitState → Bool) : a.load f = b.load f := by
  unfold Slot.load
  rw [h]

theorem State.committed_congr (h : ∀ i : SlotNo, y.slots[i].permit = x.slots[i].permit) : y.committed = x.committed := by
  unfold State.committed
  exact congrArg List.sum (List.map_congr_left fun i _ => Slot.load_congr (h i) _)

theorem State.overLimit_of_not_ok (h : x.meter.state ≠ .ok) : x.overLimit = decide (x.site.budget < x.committed) := by
  rw [State.overLimit, State.regime, if_neg h]

/-! ### What a part leaves alone -/

/-- What no such part changes. -/
structure State.Unticked (x y : State) : Prop where
  freeList : y.freeList = x.freeList
  link : y.link = x.link
  store : y.store = x.store
  resetHeld : y.resetHeld = x.resetHeld
  pending : y.pending = x.pending
  panel : { y.panel with notices := x.panel.notices } = x.panel

theorem State.Unticked.refl (x : State) : x.Unticked x := ⟨rfl, rfl, rfl, rfl, rfl, rfl⟩

theorem State.Unticked.trans {z : State} (h : State.Unticked x y) (k : State.Unticked y z) : State.Unticked x z :=
  ⟨k.freeList.trans h.freeList, k.link.trans h.link, k.store.trans h.store,
    k.resetHeld.trans h.resetHeld, k.pending.trans h.pending, by
      have := congrArg (fun q : PanelPort => { q with notices := x.panel.notices }) k.panel
      exact this.trans h.panel⟩

theorem State.moveDemand_unticked (x : State) : x.Unticked x.moveDemand := by
  unfold State.moveDemand
  split_ifs <;> exact ⟨rfl, rfl, rfl, rfl, rfl, rfl⟩

theorem State.moveDemand_eq_shed (x : State) : x.moveDemand.slots = x.slots ∧ x.moveDemand.startGate = x.startGate
    ∧ x.moveDemand.openingDue = x.openingDue ∧ x.moveDemand.channels = x.channels ∧ x.moveDemand.queue = x.queue := by
  unfold State.moveDemand
  split_ifs <;> exact ⟨rfl, rfl, rfl, rfl, rfl⟩

theorem State.admissionPass_of_empty (h : x.queue = []) : x.admissionPass = x := by
  refine (State.admissionPass_of_passesBy x (by rw [h]; exact fun f hf => absurd hf List.not_mem_nil)).trans ?_
  rw [h]
  show x.withQueue [] = x
  rw [← h]
  rfl

theorem State.retryWired_of_unconfigured {c : ChannelNo} (h : x.configured (channelUnit c) = false) : x.retryWired c = x :=
  if_neg (by rw [h]; exact Bool.false_ne_true)

/-! ### One part, but for a shed action and a pass over entries -/

/-- What one part does to the figures that `PartStep` leaves out. -/
structure State.IdleStep (p : TickPart) (x y : State) : Prop where
  unticked : x.Unticked y
  startGate : y.startGate = if p = .startGate then x.startGate.tick else x.startGate
  openingDue : y.openingDue = if p = .startGate then x.openingDue || x.startGate.opensAtTick else x.openingDue
  slots : ∀ i : SlotNo, y.slots[i] = if p = .slotCounters then x.slots[i].tick else x.slots[i]
  queue : y.queue = if p = .slotCounters then x.queue.map QueueEntry.restTick else x.queue
  channels : ∀ c : ChannelNo, y.channels[c] = if p = .cycleCounters then x.channels[c].secondTick else x.channels[c]
  demand : y.shed.demand = if p = .shedEvaluation then (if x.overLimit = true then .overload else .normal) else x.shed.demand

theorem State.IdleStep.refl (h : p ≠ .startGate ∧ p ≠ .slotCounters ∧ p ≠ .cycleCounters ∧ p ≠ .shedEvaluation) (x : State) :
    State.IdleStep p x x := by
  obtain ⟨h1, h2, h3, h4⟩ := h
  exact ⟨.refl x, (if_neg h1).symm, (if_neg h1).symm, fun i => (if_neg h2).symm, (if_neg h2).symm,
    fun c => (if_neg h3).symm, (if_neg h4).symm⟩

theorem State.takePart_idle (hgate : p = .shedEvaluation → x.shedEvaluation = x.moveDemand)
    (hwired : ∀ c : ChannelNo, p = .wiredRetry c → x.configured (channelUnit c) = false)
    (hqueue : p = .regularPass → x.queue = []) : State.IdleStep p x (x.takePart p) := by
  cases p with
  | shedEvaluation =>
    have hmove : x.takePart .shedEvaluation = x.moveDemand := hgate rfl
    obtain ⟨h1, h2, h3, h4, h5⟩ := x.moveDemand_eq_shed
    rw [hmove]
    exact ⟨x.moveDemand_unticked, h2, h3, fun i => congrArg (·[i]) h1, h5, fun c => congrArg (·[c]) h4, x.moveDemand_demand⟩
  | wiredRetry c =>
    have hretry : x.takePart (.wiredRetry c) = x := State.retryWired_of_unconfigured (hwired c rfl)
    rw [hretry]
    exact .refl ⟨by simp, by simp, by simp, by simp⟩ x
  | regularPass =>
    have hpass : x.takePart .regularPass = x := State.admissionPass_of_empty (hqueue rfl)
    rw [hpass]
    exact .refl ⟨by simp, by simp, by simp, by simp⟩ x
  | slotCounters =>
    rw [State.takePart_slotCounters]
    exact ⟨⟨rfl, rfl, rfl, rfl, rfl, rfl⟩, by simp, by simp, fun i => by simp, by simp, by simp, by simp⟩
  | restartHold | startGate | shedGate | subintervalClock | rateDecay | cycleCounters =>
    dsimp only [State.takePart, State.modifyMeter]
    refine ⟨⟨rfl, rfl, rfl, rfl, rfl, rfl⟩, ?_, ?_, fun i => ?_, ?_, fun c => ?_, ?_⟩ <;> simp

end Sys2Proof.Machine


/-! The parts of a second tick taken one after the other, but for a shed action and a pass over entries: what they leave does
not depend on their order (log entry 5). -/

namespace Sys2Proof.Machine

variable {s x y : State} {done : List TickPart} {p : TickPart}

/-! ### The meter -/

/-- The Meter Interface behind the parts taken so far (R72, R73, R75, R77). -/
def State.tickedMeter (done : List TickPart) (s : State) : Meter :=
  let decayed := if .rateDecay ∈ done then s.meter.secondTick s.site else s.meter
  if .subintervalClock ∈ done then decayed.clockTick s.site else decayed

/-- The rate behind a second tick at which the loss test fails (R72). -/
def Meter.decayed (site : SiteRecord) (m : Meter) : Nat :=
  match m.state, m.elapsedMs, m.interval with
  | .ok, some e, some d => if d < e then site.rateOver e else m.rate
  | _, _, _ => m.rate

theorem Meter.secondTick_eq (site : SiteRecord) (m : Meter) : m.secondTick site =
    if m.lossHolds site then { m with lossDue := true } else { m with rate := m.decayed site } := by
  unfold Meter.secondTick Meter.decayed
  split
  · rfl
  · obtain ⟨pulse, eoi, e, d, st, rate, energy, elapsed, lost, ring, rolling, peak, before, pulseDue, eoiDue, loss, close⟩ := m
    cases st with
    | starting => rfl
    | lost => rfl
    | ok =>
      cases e with
      | none => rfl
      | some e =>
        cases d with
        | none => rfl
        | some d => dsimp only; split <;> rfl

/-- The clock and the decay take the tick in either order (log entry 5). -/
theorem Meter.clockTick_secondTick (site : SiteRecord) (m : Meter) :
    (m.clockTick site).secondTick site = (m.secondTick site).clockTick site := by
  have hloss : (m.clockTick site).lossHolds site = m.lossHolds site := rfl
  rw [Meter.secondTick_eq, Meter.secondTick_eq, hloss]
  split
  · rfl
  · have hdecay : (m.clockTick site).decayed site = m.decayed site := rfl
    rw [hdecay]
    rfl

theorem State.tickedMeter_state (done : List TickPart) (s : State) : (s.tickedMeter done).state = s.meter.state := by
  have hdecay (m : Meter) : (m.secondTick s.site).state = m.state := by
    rw [Meter.secondTick_eq]
    split <;> rfl
  unfold State.tickedMeter
  dsimp only
  split <;> split
  · exact hdecay _
  · rfl
  · exact hdecay _
  · rfl

/-! ### The parts taken so far -/

theorem ShedGate.tick_ne_opened {g : ShedGate} (h : g ≠ .opened) : g.tick ≠ .opened := by
  cases g with
  | opened => exact absurd rfl h
  | counting n => exact fun h => by cases h

/-- The state behind the parts taken so far. -/
structure State.Taken (done : List TickPart) (s x : State) : Prop where
  site : x.site = s.site
  units : x.units = s.units
  threshold : x.shed.threshold = s.shed.threshold
  hold : x.hold = if .restartHold ∈ done then s.hold.tick else s.hold
  shedGate : x.shedGate = if .shedGate ∈ done then s.shedGate.tick else s.shedGate
  meter : x.meter = s.tickedMeter done
  unticked : s.Unticked x
  startGate : x.startGate = if .startGate ∈ done then s.startGate.tick else s.startGate
  openingDue : x.openingDue = if .startGate ∈ done then s.openingDue || s.startGate.opensAtTick else s.openingDue
  slots : ∀ i : SlotNo, x.slots[i] = if .slotCounters ∈ done then s.slots[i].tick else s.slots[i]
  queue : x.queue = if .slotCounters ∈ done then s.queue.map QueueEntry.restTick else s.queue
  channels : ∀ c : ChannelNo, x.channels[c] = if .cycleCounters ∈ done then s.channels[c].secondTick else s.channels[c]
  demand : if .shedEvaluation ∈ done then
      s.meter.state ≠ .ok → x.shed.demand = if s.site.budget < s.committed then .overload else .normal
    else x.shed.demand = s.shed.demand

theorem State.Taken.nil (s : State) : State.Taken [] s s :=
  ⟨rfl, rfl, rfl, rfl, rfl, rfl, .refl s, rfl, rfl, fun _ => rfl, rfl, fun _ => rfl, by simp⟩

theorem State.Taken.permit (h : State.Taken done s x) (i : SlotNo) : x.slots[i].permit = s.slots[i].permit := by
  rw [h.slots]
  split
  · exact Slot.tick_permit _
  · rfl

theorem State.Taken.meterState (h : State.Taken done s x) : x.meter.state = s.meter.state := by
  rw [h.meter, State.tickedMeter_state]

theorem State.Taken.closed (h : State.Taken done s x) (hg : s.shedGate ≠ .opened) : x.shedGate ≠ .opened := by
  rw [h.shedGate]
  split
  · exact ShedGate.tick_ne_opened hg
  · exact hg

/-- Where a shed evaluation takes no shed action: the shed gate is not OPEN, or nothing is over the budget, curtailed or
waiting (R124, R126). -/
def State.NoShed (s : State) : Prop := s.shedGate ≠ .opened
  ∨ s.queue = [] ∧ s.shed.threshold = none ∧ s.meter.state ≠ .ok ∧ s.committed ≤ s.site.budget

theorem State.NoShed.evaluation (h : s.NoShed) : s.shedEvaluation = s.moveDemand := by
  rcases h with h | ⟨hqueue, hthreshold, hok, hbudget⟩
  · exact State.shedEvaluation_of_closed h
  · have hover : s.overLimit = false := by
      rw [State.overLimit_of_not_ok hok]
      exact decide_eq_false (Nat.not_lt.mpr hbudget)
    have hnormal : s.moveDemand.shed.demand ≠ .overload := by
      rw [s.moveDemand_demand, hover]
      simp
    have hcurtail : s.moveDemand.curtailVictim = none := by
      rw [State.curtailVictim, s.moveDemand_threshold, hthreshold]
    have hrotation : s.moveDemand.rotationChoice s.moveDemand.queue = none := by
      rw [s.moveDemand_eq_shed.2.2.2.2, hqueue]
      rfl
    unfold State.shedEvaluation State.actIfOpen State.shedAction
    rw [if_neg hnormal, hcurtail, hrotation]
    split <;> rfl

theorem State.Taken.noShed (h : State.Taken done s x) (hg : s.NoShed) : x.NoShed := by
  rcases hg with hg | ⟨hqueue, hthreshold, hok, hbudget⟩
  · exact .inl (h.closed hg)
  · refine .inr ⟨?_, h.threshold.trans hthreshold, by rw [h.meterState]; exact hok, ?_⟩
    · rw [h.queue, hqueue]
      split <;> rfl
    · rw [State.committed_congr h.permit, h.site]
      exact hbudget

theorem State.configured_of_units (h : x.units = s.units) (u : UnitNo) : x.configured u = s.configured u := by
  have hstatus : x.status u = s.status u := (State.record_of_units (by rw [h])).2
  rw [State.configured, State.configured, hstatus]

/-- A figure that one part takes on, of the parts taken so far. -/
theorem ite_taken {α : Type} {q : TickPart} (f : α → α) (a : α) (hp : (p :: done).Nodup) :
    (if p = q then f (if q ∈ done then f a else a) else if q ∈ done then f a else a) = if q ∈ p :: done then f a else a := by
  obtain ⟨hnew, -⟩ := List.nodup_cons.mp hp
  by_cases hpq : p = q
  · rw [if_pos hpq, if_neg (hpq ▸ hnew), if_pos (hpq ▸ List.mem_cons_self)]
  · rw [if_neg hpq]
    simp [Ne.symm hpq]

theorem State.Taken.take (h : State.Taken done s x) (hg : p = .shedEvaluation → s.NoShed)
    (hwired : ∀ c : ChannelNo, s.configured (channelUnit c) = false) (hqueue : p = .regularPass → s.queue = [])
    (hp : (p :: done).Nodup) : State.Taken (p :: done) s (x.takePart p) := by
  obtain ⟨hnew, -⟩ := List.nodup_cons.mp hp
  have hclosed : p = .shedEvaluation → x.shedEvaluation = x.moveDemand := fun hpe => (h.noShed (hg hpe)).evaluation
  have hempty : p = .regularPass → x.queue = [] := fun hpe => by
    rw [h.queue, hqueue hpe]
    split <;> rfl
  have hstep := x.takePart_step p hclosed
  have hidle := State.takePart_idle hclosed (fun c _ => (State.configured_of_units h.units _).trans (hwired c)) hempty
  refine ⟨hstep.site.trans h.site, hstep.units.trans h.units, hstep.threshold.trans h.threshold, ?_, ?_, ?_,
    h.unticked.trans hidle.unticked, ?_, ?_, fun i => ?_, ?_, fun c => ?_, ?_⟩
  · rw [hstep.hold, h.hold, ite_taken _ _ hp]
  · rw [hstep.shedGate, h.shedGate, ite_taken _ _ hp]
  · rw [hstep.meter, h.meter, h.site]
    unfold State.tickedMeter
    by_cases hpq : p = .subintervalClock
    · subst hpq
      simp [hnew]
    · by_cases hpr : p = .rateDecay
      · subst hpr
        by_cases hc : TickPart.subintervalClock ∈ done <;> simp [hnew, hc, Meter.clockTick_secondTick]
      · simp [hpq, hpr, Ne.symm hpq, Ne.symm hpr]
  · rw [hidle.startGate, h.startGate, ite_taken _ _ hp]
  · rw [hidle.openingDue, h.openingDue, h.startGate]
    by_cases hpq : p = .startGate
    · subst hpq
      simp [hnew]
    · simp [hpq, Ne.symm hpq]
  · rw [hidle.slots, h.slots, ite_taken _ _ hp]
  · rw [hidle.queue, h.queue, ite_taken _ _ hp]
  · rw [hidle.channels, h.channels, ite_taken _ _ hp]
  · rw [hidle.demand]
    by_cases hpq : p = .shedEvaluation
    · rw [if_pos hpq, if_pos (hpq ▸ List.mem_cons_self)]
      intro hok
      rw [State.overLimit_of_not_ok (by rw [h.meterState]; exact hok), h.site, State.committed_congr h.permit]
      simp
    · have hdemand := h.demand
      rw [if_neg hpq]
      simpa [Ne.symm hpq] using hdemand

/-- The parts, but for a shed action and a pass over entries, taken one after the other. -/
theorem State.takeParts_taken {l : List TickPart} (hl : l.Nodup) (hg : .shedEvaluation ∈ l → s.NoShed)
    (hwired : ∀ c : ChannelNo, s.configured (channelUnit c) = false) (hqueue : .regularPass ∈ l → s.queue = []) :
    State.Taken l.reverse s (s.takeParts l) :=
  State.takeParts_induction hl (P := fun done x => State.Taken done s x) (.nil s) fun _ _ _ hmem hp hx =>
    hx.take (fun h => hg (h ▸ hmem)) hwired (fun h => hqueue (h ▸ hmem)) hp

end Sys2Proof.Machine


/-! O40's plain second tick: the figures behind every part, with nothing waiting and the shed gate not OPEN. -/

namespace Sys2Proof.Machine

variable {s : State} {done : List TickPart}

/-- The Meter Interface behind a whole second tick (R72, R73, R75, R77). -/
def State.meterTicked (s : State) : Meter := { s.meter with
  elapsed := s.meter.elapsed + 1
  closeDue :=
    if s.site.syncMode = .free ∨ s.meter.syncLost = true then
      (if s.site.subLength ≤ s.meter.elapsed + 1 then some .free else none)
    else if s.site.subLength + s.site.grace ≤ s.meter.elapsed + 1 then some .selfClose else none
  lossDue := decide (s.meter.state = .ok) && s.meter.elapsedMs.any fun e => decide (s.site.lossTime * 1000 < e)
  rate :=
    match s.meter.state, s.meter.elapsedMs, s.meter.interval with
    | .ok, some e, some d =>
      if d < e ∧ e ≤ s.site.lossTime * 1000 then min 65535 (s.site.pulseWeight * 36000 / e) else s.meter.rate
    | _, _, _ => s.meter.rate }

/-- The loss test and the decay together (R72, R73). -/
theorem Meter.secondTick_of_clear (site : SiteRecord) (m : Meter) (h : m.lossDue = false) : m.secondTick site = { m with
    lossDue := decide (m.state = .ok) && m.elapsedMs.any fun e => decide (site.lossTime * 1000 < e)
    rate :=
      match m.state, m.elapsedMs, m.interval with
      | .ok, some e, some d =>
        if d < e ∧ e ≤ site.lossTime * 1000 then min 65535 (site.pulseWeight * 36000 / e) else m.rate
      | _, _, _ => m.rate } := by
  rw [Meter.secondTick_eq]
  obtain ⟨pulse, eoi, e, d, st, rate, energy, elapsed, lost, ring, rolling, peak, before, pulseDue, eoiDue, loss, close⟩ := m
  obtain rfl : loss = false := h
  cases st with
  | starting => rfl
  | lost => rfl
  | ok =>
    cases e with
    | none => rfl
    | some e =>
      by_cases hloss : site.lossTime * 1000 < e
      · have hno (d : Nat) : ¬ (d < e ∧ e ≤ site.lossTime * 1000) := fun h => by omega
        rw [if_pos (by simpa [Meter.lossHolds] using hloss)]
        cases d <;> simp [hloss, hno]
      · rw [if_neg (by simpa [Meter.lossHolds] using Nat.not_lt.mp hloss)]
        cases d <;> simp [hloss, Nat.not_lt.mp hloss, Meter.decayed, SiteRecord.rateOver]

theorem State.tickedMeter_all (hall : ∀ p, p ∈ done) (s : State) : s.tickStart.tickedMeter done = s.meterTicked := by
  unfold State.tickedMeter
  rw [if_pos (hall _), if_pos (hall _), Meter.secondTick_of_clear _ _ rfl]
  unfold Meter.clockTick State.meterTicked
  simp only [Bool.or_eq_true, decide_eq_true_eq]
  rfl

theorem State.tickStart_channels (s : State) (c : ChannelNo) :
    s.tickStart.channels[c] = { s.channels[c] with testDue := false } := by
  show (Vector.ofFn fun c : ChannelNo => { s.channels[c] with testDue := false })[c] = _
  simp

theorem secondTick_idle {order : List TickItem} (h : plainOrder order) (hr : s.resetHeld = false) (hg : s.NoShed)
    (hwired : ∀ c : ChannelNo, s.configured (channelUnit c) = false) (hqueue : s.queue = []) :
    ∃ t, exec (.secondTick order) s = .next t
      ∧ { t with timeBase := s.timeBase, slots := s.slots, startGate := s.startGate, openingDue := s.openingDue
                 shedGate := s.shedGate, meter := s.meter, shed := s.shed, channels := s.channels, panel := s.panel
                 hold := s.hold } = s
      ∧ { t.panel with notices := s.panel.notices } = s.panel ∧ t.shed.threshold = s.shed.threshold
      ∧ (s.meter.state ≠ .ok → t.shed.demand = if s.site.budget < s.committed then .overload else .normal)
      ∧ t.hold = s.hold.tick ∧ t.startGate = s.startGate.tick
      ∧ t.openingDue = (s.openingDue || s.startGate.opensAtTick) ∧ t.shedGate = s.shedGate.tick
      ∧ (∀ i : SlotNo, t.slots[i] = s.slots[i].tick)
      ∧ (∀ c : ChannelNo, t.channels[c] = { s.channels[c] with testDue := false }.secondTick)
      ∧ t.meter = s.meterTicked := by
  obtain ⟨l, hl, hexec⟩ := exec_secondTick_plain h hr
  have hall (p : TickPart) : p ∈ l.reverse := List.mem_reverse.mpr (hl.mem_iff.mpr (mem_allTickParts p))
  have ht := State.takeParts_taken (s := s.tickStart) (hl.nodup_iff.mpr allTickParts_nodup) (fun _ => hg) hwired fun _ => hqueue
  generalize s.tickStart.takeParts l = t at hexec ht
  obtain ⟨hfree, hlink, hstore, hreset, hpending, hpanel⟩ := ht.unticked
  have hq : t.queue = s.queue := by
    rw [ht.queue, if_pos (hall _), hqueue]
    exact congrArg _ hqueue
  have hdemand := ht.demand
  rw [if_pos (hall _)] at hdemand
  refine ⟨t, hexec, ?_, hpanel, ht.threshold, hdemand, ?_, ?_, ?_, ?_, fun i => ?_, fun c => ?_, ?_⟩
  · rw [ht.units, hfree, hq, hlink, ht.site, hstore, hreset, hpending]
    rfl
  · rw [ht.hold, if_pos (hall _)]; rfl
  · rw [ht.startGate, if_pos (hall _)]; rfl
  · rw [ht.openingDue, if_pos (hall _)]; rfl
  · rw [ht.shedGate, if_pos (hall _)]; rfl
  · rw [ht.slots, if_pos (hall _)]; rfl
  · rw [ht.channels, if_pos (hall _), State.tickStart_channels]
  · rw [ht.meter, State.tickedMeter_all hall]

end Sys2Proof.Machine


/-! The regular pass of a second tick with no configured wired unit and the shed gate not OPEN: what comes before it and behind
it takes its own figure on, so the pass gives HOLD while the hold runs, makes the grant at an OPEN gate, and shows a rest as
the tick leaves it, in every order (R90, R92, R95, R99, R105; log entry 5). -/

namespace Sys2Proof.Machine

section

variable {s x y : State} {u : UnitNo} {e : QueueEntry} {i : SlotNo} {p : Permit}

/-! ### A tick about its pass -/

/-- The state before the pass and behind it, of a second tick from `s` with the parts `before` and `behind` it. -/
structure State.PassedAt (s : State) (before behind : List TickPart) (x t : State) : Prop where
  split : SplitAt .regularPass before behind
  reached : State.Taken before.reverse s x
  left : State.Taken behind.reverse x.admissionPass t

theorem State.takeParts_passedAt {before behind : List TickPart} (hg : s.shedGate ≠ .opened)
    (hwired : ∀ c : ChannelNo, s.configured (channelUnit c) = false) (h : SplitAt .regularPass before behind) :
    State.PassedAt s before behind (s.takeParts before)
      (((s.takeParts before).takePart .regularPass).takeParts behind) := by
  have hx := State.takeParts_taken (s := s) h.nodup.1 (fun _ => .inl hg) hwired fun hmem => absurd hmem h.fresh.1
  have hpass := (s.takeParts before).admissionPass_passed
  refine ⟨h, hx, State.takeParts_taken h.nodup.2 (fun _ => .inl ?_) (fun c => ?_) fun hmem => absurd hmem h.fresh.2⟩
  · exact fun hopen => hx.closed hg (hpass.shedGate.symm.trans hopen)
  · exact (State.configured_of_units hpass.units _).trans ((State.configured_of_units hx.units _).trans (hwired c))

theorem exec_secondTick_pass {order : List TickItem} (h : plainOrder order) (hr : s.resetHeld = false)
    (hg : s.shedGate ≠ .opened) (hwired : ∀ c : ChannelNo, s.configured (channelUnit c) = false) :
    ∃ before behind x t, exec (.secondTick order) s = .next t ∧ State.PassedAt s.tickStart before behind x t := by
  obtain ⟨before, behind, hsplit, hexec⟩ := exec_secondTick_split h hr .regularPass
  exact ⟨before, behind, _, _, hexec, State.takeParts_passedAt (s := s.tickStart) hg hwired hsplit⟩

theorem RestartHold.tick_eq_ended {h : RestartHold} : h.tick = .ended ↔ h = .ended := by
  cases h <;> simp [RestartHold.tick]

theorem State.Taken.hold_eq_ended {done : List TickPart} (h : State.Taken done s x) : x.hold = .ended ↔ s.hold = .ended := by
  rw [h.hold]
  split
  · exact RestartHold.tick_eq_ended
  · rfl

/-! ### While the hold runs -/

/-- An entry behind a pass of the restart hold (R92). -/
def QueueEntry.held (e : QueueEntry) : QueueEntry := { e with reason := .hold, remaining := 0 }

theorem QueueEntry.held_restTick (e : QueueEntry) : e.restTick.held = e.held := by
  unfold QueueEntry.restTick
  split <;> rfl

theorem State.admissionPass_of_hold (h : x.hold ≠ .ended) (hskips : ∀ f ∈ x.queue, f.skips < x.site.skipLimit) :
    x.admissionPass = x.withQueue (x.queue.map QueueEntry.held) := by
  have hobstacle (f : QueueEntry) : x.obstacle f = some (.hold, 0) := by
    unfold State.obstacle
    exact if_pos (decide_eq_true h)
  rw [State.admissionPass_of_passesBy x fun f hf => ⟨by rw [hobstacle]; exact Option.some_ne_none _, hskips f hf⟩]
  refine congrArg x.withQueue (List.map_congr_left fun f _ => ?_)
  rw [x.blocked_of_obstacle (hobstacle f)]
  rfl

theorem State.PassedAt.queue_of_hold {before behind : List TickPart} {t : State} (h : State.PassedAt s before behind x t)
    (hhold : s.hold ≠ .ended) (hskips : ∀ f ∈ s.queue, f.skips < s.site.skipLimit) :
    t.queue = s.queue.map QueueEntry.held := by
  have hx := h.reached
  have hheld (l : List QueueEntry) : (l.map QueueEntry.restTick).map QueueEntry.held = l.map QueueEntry.held := by
    rw [List.map_map]
    exact List.map_congr_left fun f _ => QueueEntry.held_restTick f
  have hqueue : x.queue.map QueueEntry.held = s.queue.map QueueEntry.held := by
    rw [hx.queue]
    split
    · exact hheld _
    · rfl
  have hpass := State.admissionPass_of_hold (x := x) (fun he => hhold (hx.hold_eq_ended.mp he)) fun f hf => by
    rw [hx.queue] at hf
    rw [hx.site]
    split at hf
    · obtain ⟨g, hg, rfl⟩ := List.mem_map.mp hf
      rw [QueueEntry.restTick_skips]
      exact hskips g hg
    · exact hskips f hf
  have hpassed : x.admissionPass.queue = s.queue.map QueueEntry.held := by rw [hpass]; exact hqueue
  rw [h.left.queue, hpassed]
  split
  · rw [List.map_map]
    exact List.map_congr_left fun f _ => rfl
  · rfl

/-! ### The grant -/

/-- What lets a first stage of a linked unit through every check, with the meter not OK (R46, R84, R92 to R98). -/
structure State.Admits (s : State) (u : UnitNo) (load : Nat) : Prop where
  hold : s.hold = .ended
  gate : s.startGate = .opened
  linked : isWired u = false
  noPermit : s.hasPermit u = false
  free : s.freeList ≠ []
  threshold : s.shed.threshold = none
  meter : s.meter.state ≠ .ok
  rating : s.rating u 0 = some load
  budget : s.committed + load ≤ s.site.budget

theorem State.slotAt_of_noPermit (h : s.hasPermit u = false) (k : Nat) : s.slotAt u k = none :=
  State.slotAt_none_iff.mpr fun i p hp hu => absurd hu ((s.hasPermit_eq_false_iff u).mp h i p hp)

theorem State.Admits.obstacle {rating : Nat} (h : s.Admits e.unit rating) : s.obstacle e = none := by
  have hlevel := s.level_of_noPermit e.unit h.noPermit
  have hdemand : s.demandObstacle ((s.rating e.unit (s.level e.unit)).getD 0) = none := by
    rw [hlevel, h.rating, State.demandObstacle, State.regime, if_neg h.meter]
    exact if_pos h.budget
  have hhold : s.holdRunning = false := by rw [State.holdRunning, h.hold]; rfl
  have hrest : s.restingAt e.unit (s.level e.unit) = none := by
    rw [State.restingAt, State.slotAt_of_noPermit h.noPermit]
    rfl
  have hfree : s.freeList.isEmpty = false := List.isEmpty_eq_false_iff.mpr h.free
  unfold State.obstacle
  simp only [hhold, h.threshold, channelOf_of_linked h.linked, hrest, hfree, hdemand, h.gate, Option.any_none,
    Bool.false_eq_true, if_false, if_true]

theorem State.Taken.admits {done : List TickPart} {rating : Nat} (hx : State.Taken done s x) (h : s.Admits u rating) :
    x.Admits u rating where
  hold := hx.hold_eq_ended.mpr h.hold
  gate := by rw [hx.startGate, h.gate]; split <;> rfl
  linked := h.linked
  noPermit := (x.hasPermit_eq_false_iff u).mpr fun i p hp => (s.hasPermit_eq_false_iff u).mp h.noPermit i p (hx.permit i ▸ hp)
  free := by rw [hx.unticked.freeList]; exact h.free
  threshold := hx.threshold.trans h.threshold
  meter := by rw [hx.meterState]; exact h.meter
  rating := by rw [State.rating, (State.record_of_units (s := s) (t := x) (by rw [hx.units])).1]; exact h.rating
  budget := by rw [State.committed_congr hx.permit, hx.site]; exact h.budget

theorem State.admissionPass_admits {rating : Nat} (h : s.Admits e.unit rating) (hq : s.queue = [e]) :
    s.admissionPass.level e.unit = 1 ∧ s.admissionPass.startGate = .counting (s.site.startSpacing + 1) := by
  obtain ⟨j, rest, hfree⟩ := List.exists_cons_of_ne_nil h.free
  rw [State.admissionPass_of_grant (front := []) (behind := []) s (by rw [hq]; rfl) (fun f hf => absurd hf List.not_mem_nil)
    h.obstacle]
  have hslots := (s.createGrant_slots e.unit hfree).1
  obtain ⟨p, hp, hu, -, -, hon⟩ := Slot.granted_permit e.unit (s.level e.unit) ((s.rating e.unit (s.level e.unit)).getD 0)
    s.site.settleTime (s.minRun e.unit) (s.rotation e.unit)
  have hlevel : (s.createGrant e.unit).level e.unit = s.level e.unit + 1 := by
    refine State.level_of_on e.unit (i := j) (fun k hk => ?_) (Bool.eq_false_iff.mpr fun hh => ?_) ?_
    · rw [hslots, getElem_set_eq, if_neg hk]
    · obtain ⟨q, hq, hqu, -⟩ := (s.holds_iff e.unit _ j).mp hh
      exact (s.hasPermit_eq_false_iff e.unit).mp h.noPermit j q hq hqu
    · refine (State.holds_iff _ e.unit _ j).mpr ⟨p, ?_, hu, hon⟩
      rw [hslots, getElem_set_eq, if_pos rfl]
      exact hp
  refine ⟨hlevel.trans (by rw [s.level_of_noPermit e.unit h.noPermit]), ?_⟩
  show (s.createGrant e.unit).startGate = _
  rw [s.createGrant_cons e.unit hfree]
  exact ((State.onChannelOf_aside _ e.unit _).startGate).trans (State.joinUrgent_aside _ e.unit).startGate

theorem State.PassedAt.granted {before behind : List TickPart} {t : State} {rating : Nat}
    (h : State.PassedAt s before behind x t) (hadmits : s.Admits e.unit rating) (hq : s.queue = [e])
    (hspacing : 0 < s.site.startSpacing) : t.level e.unit = 1
      ∧ (t.startGate = .counting (s.site.startSpacing + 1) ∨ t.startGate = .counting s.site.startSpacing) := by
  have hx := h.reached
  obtain ⟨f, hf, hfu⟩ : ∃ f : QueueEntry, x.queue = [f] ∧ f.unit = e.unit := by
    rw [hx.queue, hq]
    split
    · exact ⟨_, rfl, QueueEntry.restTick_unit e⟩
    · exact ⟨e, rfl, rfl⟩
  obtain ⟨h1, h2⟩ := State.admissionPass_admits (e := f) (hfu ▸ hx.admits hadmits) hf
  rw [hfu] at h1
  rw [hx.site] at h2
  refine ⟨(State.level_congr e.unit h.left.permit).trans h1, ?_⟩
  rw [h.left.startGate, h2]
  split
  · right
    exact if_neg (by omega)
  · exact .inl rfl

/-! ### A stage that stops or rests -/

theorem State.admissionPass_of_one {o : WaitReason × Nat} (hq : s.queue = [e]) (ho : s.obstacle e = some o) :
    s.admissionPass = s.withQueue [{ e with reason := o.1, remaining := o.2 }] := by
  have hne : s.obstacle e ≠ none := by rw [ho]; exact Option.some_ne_none o
  by_cases hb : s.site.skipLimit ≤ e.skips
  · rw [State.admissionPass_of_barrier (front := []) (behind := []) s (by rw [hq]; rfl)
      (fun f hf => absurd hf List.not_mem_nil) hne hb, s.blocked_of_obstacle ho]
    rfl
  · rw [State.admissionPass_of_passesBy s fun f hf => by
      rw [hq] at hf
      rw [List.mem_singleton.mp hf]
      exact ⟨hne, Nat.not_le.mp hb⟩, hq, List.map_singleton, s.blocked_of_obstacle ho]

theorem State.obstacle_of_resting (hhold : s.hold = .ended) (hthreshold : s.shed.threshold = none)
    (hlinked : isWired e.unit = false) (hi : s.slotAt e.unit (s.level e.unit) = some i) :
    s.obstacle e = some (.resting, s.slots[i].remaining) := by
  have hrun : s.holdRunning = false := by rw [State.holdRunning, hhold]; rfl
  have hrest : s.restingAt e.unit (s.level e.unit) = some s.slots[i].remaining := by rw [State.restingAt, hi]; rfl
  unfold State.obstacle
  simp only [hrun, hthreshold, channelOf_of_linked hlinked, hrest, Option.any_none, Bool.false_eq_true, if_false]

theorem State.Taken.slotAt {done : List TickPart} (hx : State.Taken done s x) (k : Nat) : x.slotAt u k = s.slotAt u k := by
  unfold State.slotAt
  refine congrArg (fun f => allSlots.find? f) (funext fun i => State.holds_congr u (hx.permit i) _)

theorem State.PassedAt.resting {before behind : List TickPart} {t : State} (h : State.PassedAt s before behind x t)
    (hhold : s.hold = .ended) (hthreshold : s.shed.threshold = none) (hlinked : isWired e.unit = false) (hq : s.queue = [e])
    (hi : s.slotAt e.unit (s.level e.unit) = some i) (hp : s.slots[i].permit.isSome = true)
    (hc : s.slots[i].counter < Config.counterMax) :
    t.queue = [{ e with reason := .resting, remaining := s.slots[i].aValue - (s.slots[i].counter + 1) }] := by
  have hx := h.reached
  obtain ⟨f, hf, hfe⟩ : ∃ f : QueueEntry, x.queue = [f]
      ∧ ∀ r n, { f with reason := r, remaining := n } = { e with reason := r, remaining := n } := by
    rw [hx.queue, hq]
    split
    · exact ⟨_, rfl, fun r n => by unfold QueueEntry.restTick; split <;> rfl⟩
    · exact ⟨e, rfl, fun r n => rfl⟩
  have hfu : f.unit = e.unit := (QueueEntry.mk.inj (hfe .resting 0)).1
  have hpass := State.admissionPass_of_one hf (State.obstacle_of_resting (hx.hold_eq_ended.mpr hhold)
    (hx.threshold.trans hthreshold) (hfu ▸ hlinked) (i := i) (by
      rw [hx.slotAt, hfu, State.level_congr e.unit hx.permit]
      exact hi))
  rw [hfe] at hpass
  have hpassed : x.admissionPass.queue = [{ e with reason := .resting, remaining := x.slots[i].remaining }] := by rw [hpass]; rfl
  have htick : s.slots[i].tick.remaining = s.slots[i].aValue - (s.slots[i].counter + 1) := by
    rw [Slot.tick, if_pos hp, Slot.remaining, Nat.min_eq_right (Nat.succ_le_of_lt hc)]
  have honce := h.split.once .slotCounters (by simp)
  rw [h.left.queue, hpassed, hx.slots]
  simp only [List.mem_reverse]
  by_cases hb : TickPart.slotCounters ∈ before
  · rw [if_neg (fun hn => honce.mp hn hb), if_pos hb, htick]
  · rw [if_pos (honce.mpr hb), if_neg hb]
    show [{ e with reason := .resting, remaining := s.slots[i].remaining - 1 }] = _
    rw [Slot.remaining, Nat.sub_sub]

end

end Sys2Proof.Machine


/-! A rest that ends at a second tick: its expiry comes behind the slot counters, and a pass behind it tests the entry on (R35,
R95, R105; log entry 5). -/

namespace Sys2Proof.Machine

section

variable {s x : State} {u : UnitNo} {e : QueueEntry} {i : SlotNo} {p : Permit}

/-! ### The order -/

/-- An order that names the slot counters first and an event behind them takes at most the start gate before them. -/
theorem exec_secondTick_counters {order : List TickItem} (ev : TickEvent) (h : plainOrder order) (hr : s.resetHeld = false) :
    ∃ pre before behind : List TickPart, pre ⊆ [.startGate] ∧ (pre ++ [TickPart.slotCounters]).Nodup ∧ before.Nodup ∧ behind.Nodup
      ∧ .regularPass ∉ before ∧ .regularPass ∉ behind
      ∧ exec (.secondTick (.part .slotCounters :: .event ev :: order)) s = .next
        (((((s.tickStart.takeParts (pre ++ [.slotCounters])).takeEvent ev).takeParts before).takePart .regularPass).takeParts
          behind) := by
  obtain ⟨ps, rfl⟩ := parts_of_plainOrder h
  obtain ⟨pre, left, hpre, hnodup, hleft, hmem, horder⟩ : ∃ pre left : List TickPart, pre ⊆ [.startGate]
      ∧ (pre ++ [TickPart.slotCounters]).Nodup ∧ left.Nodup ∧ TickPart.regularPass ∈ left
      ∧ completeOrder allTickParts (s.tickOrder (.part .slotCounters :: .event ev :: ps.map .part))
        = (pre ++ [TickPart.slotCounters]).map .part ++ .event ev :: completeOrder left (ps.map .part) := by
    unfold State.tickOrder
    split
    · exact ⟨[.startGate], (allTickParts.filter fun q => decide (q ≠ .startGate)).filter fun q => decide (q ≠ .slotCounters),
        List.Subset.refl _, by decide, by decide, by decide, rfl⟩
    · exact ⟨[], allTickParts.filter fun q => decide (q ≠ .slotCounters), List.nil_subset _, by decide, by decide, by decide, rfl⟩
  obtain ⟨l, hl, heq⟩ := completeOrder_parts ps left hleft
  obtain ⟨before, behind, rfl⟩ := List.append_of_mem (hl.mem_iff.mpr hmem)
  obtain ⟨h1, h2, h3⟩ := List.nodup_append.mp (hl.nodup_iff.mpr hleft)
  obtain ⟨h4, h5⟩ := List.nodup_cons.mp h2
  refine ⟨pre, before, behind, hpre, hnodup, h1, h5, fun hq => h3 _ hq _ List.mem_cons_self rfl, h4,
    (exec_secondTick hr _).trans (congrArg Host.Outcome.next ?_)⟩
  rw [State.secondTick, horder, heq, List.foldl_append, foldl_takeItem_parts, List.foldl_cons, foldl_takeItem_parts,
    State.takeParts_append, State.takeParts_cons]
  rfl

/-! ### The freed slot -/

/-- What the pass behind the expiry meets: the entry of a unit that holds no permit at its next stage. -/
structure State.Freed (u : UnitNo) (i : SlotNo) (s : State) : Prop where
  slot : s.slots[i].permit = none
  stage : s.slotAt u (s.level u) = none
  entry : ∃ e, s.queue = [e] ∧ e.unit = u

theorem State.Taken.freed {done : List TickPart} (hx : State.Taken done s x) (h : State.Freed u i s) : State.Freed u i x where
  slot := (hx.permit i).trans h.slot
  stage := by rw [hx.slotAt, State.level_congr u hx.permit]; exact h.stage
  entry := by
    obtain ⟨e, he, hu⟩ := h.entry
    rw [hx.queue, he]
    split
    · exact ⟨_, rfl, (QueueEntry.restTick_unit e).trans hu⟩
    · exact ⟨e, rfl, hu⟩

theorem State.obstacle_ne_resting (h : s.slotAt e.unit (s.level e.unit) = none) {o : WaitReason × Nat}
    (ho : s.obstacle e = some o) : o.1 ≠ .resting := by
  have hrest : s.restingAt e.unit (s.level e.unit) = none := by rw [State.restingAt, h]; rfl
  unfold State.obstacle at ho
  rw [hrest] at ho
  dsimp only at ho
  split at ho
  · cases ho; simp
  · split at ho
    · cases ho; simp
    · split at ho
      · cases ho; simp
      · split at ho
        · cases ho; simp
        · split at ho
          · next r hr =>
            cases ho
            rw [State.demandObstacle_eq] at hr
            split at hr
            · cases hr; simp
            · split at hr
              · cases hr; simp
              · cases hr
          · split at ho
            · cases ho
            · cases ho; simp

theorem State.createGrant_slots_on (s : State) (u : UnitNo) (i : SlotNo) {q : Permit}
    (hq : (s.createGrant u).slots[i].permit = some q) : s.slots[i].permit = some q ∨ q.state.commandedOn = true := by
  cases hfree : s.freeList with
  | nil =>
    rw [s.createGrant_nil u hfree] at hq
    exact .inl hq
  | cons j rest =>
    rw [(s.createGrant_slots u hfree).1, getElem_set_eq] at hq
    split at hq
    · obtain ⟨p, hp, -, -, -, hon⟩ := Slot.granted_permit u (s.level u) ((s.rating u (s.level u)).getD 0)
        s.site.settleTime (s.minRun u) (s.rotation u)
      cases hp.symm.trans hq
      exact .inr hon
    · exact .inl hq

/-- A pass behind the expiry finds no rest, and leaves none in the freed slot. -/
theorem State.Freed.pass (h : State.Freed u i s) : (∀ q ∈ s.admissionPass.slots[i].permit, q.state ≠ .resting)
    ∧ ∀ f ∈ s.admissionPass.queue, f.reason ≠ .resting := by
  obtain ⟨e, hq, rfl⟩ := h.entry
  cases ho : s.obstacle e with
  | some o =>
    rw [State.admissionPass_of_one hq ho]
    refine ⟨fun q hq => ?_, fun f hf => ?_⟩
    · rw [Option.mem_def] at hq
      cases h.slot.symm.trans hq
    · rw [List.mem_singleton.mp hf]
      exact State.obstacle_ne_resting h.stage ho
  | none =>
    rw [State.admissionPass_of_grant (front := []) (behind := []) s (by rw [hq]; rfl) (fun f hf => absurd hf List.not_mem_nil)
      ho]
    refine ⟨fun q hq hst => ?_, fun f hf => ?_⟩
    · rcases s.createGrant_slots_on e.unit i hq with h' | h'
      · cases h.slot.symm.trans h'
      · rw [hst] at h'; cases h'
    · have hf' : f ∈ (s.createGrant e.unit).grantedEntry e := by simpa using hf
      unfold State.grantedEntry at hf'
      split at hf'
      · cases hf'
      · rw [List.mem_singleton.mp hf']
        simp

theorem State.Taken.noRest {done : List TickPart} (hx : State.Taken done s x)
    (h : (∀ q ∈ s.slots[i].permit, q.state ≠ .resting) ∧ ∀ f ∈ s.queue, f.reason ≠ .resting) :
    (∀ q ∈ x.slots[i].permit, q.state ≠ .resting) ∧ ∀ f ∈ x.queue, f.reason ≠ .resting := by
  refine ⟨fun q hq => h.1 q (by rw [← hx.permit]; exact hq), fun f hf => ?_⟩
  rw [hx.queue] at hf
  split at hf
  · obtain ⟨g, hg, rfl⟩ := List.mem_map.mp hf
    rw [QueueEntry.restTick_reason]
    exact h.2 g hg
  · exact h.2 f hf

/-- The expiry of a rest frees the slot of the unit's next stage (R35). -/
theorem State.minOffExpiry_freed (ho : s.InOrder u) (hst : (s.status u).state = .active) (hp : s.slots[i].permit = some p)
    (hu : p.unit = u) (hk : p.stage = s.level u) (hrest : p.state = .resting) (ha : s.slots[i].aArmed = true)
    (hv : s.slots[i].aValue ≤ s.slots[i].counter) (hq : ∃ e, s.queue = [e] ∧ e.unit = u) :
    s.minOffExpiry i = { s with slots := s.slots.set i .free, freeList := s.freeList ++ [i] }
      ∧ State.Freed u i (s.minOffExpiry i) := by
  have heq : s.minOffExpiry i = { s with slots := s.slots.set i .free, freeList := s.freeList ++ [i] } := by
    rw [State.minOffExpiry, State.expired_some hp hrest ha hv]
    refine (s.freeSlot_eq p.unit i).trans (State.retireIfEmpty_of_not_retiring _ _ fun h => ?_)
    rw [hu] at h
    exact UnitState.noConfusion (hst.symm.trans h)
  have hslots (j : SlotNo) : (s.minOffExpiry i).slots[j] = if j = i then .free else s.slots[j] := by
    rw [heq]
    exact getElem_set_eq s.slots i j .free
  have hlevel : (s.minOffExpiry i).level u = s.level u := by
    refine congrArg List.length (State.slotsOf_congr u fun j => ?_)
    by_cases hj : j = i
    · rw [State.holds_eq_any, State.holds_eq_any, hslots, if_pos hj, hj, hp, Option.any_some, hrest]
      show false = (_ && false)
      rw [Bool.and_false]
    · exact State.holds_congr u (by rw [hslots, if_neg hj]) _
  refine ⟨heq, ?_, ?_, ?_⟩
  · rw [hslots, if_pos rfl]; rfl
  · refine State.slotAt_none_iff.mpr fun j q hq hqu hqk => ?_
    rw [hslots] at hq
    split at hq
    · cases hq
    · next hj => exact hj (ho.distinct hq hp hqu hu (by omega))
  · rw [heq]
    exact hq

/-! ### The tick at which the rest ends -/

theorem State.not_wired_of_configured (hwired : ∀ c : ChannelNo, s.configured (channelUnit c) = false)
    (h : s.configured u = true) : isWired u = false := Bool.eq_false_iff.mpr fun hw => by
  obtain ⟨c, rfl, -⟩ := exists_channel_of_wired hw
  rw [hwired] at h
  cases h

/-- The unit of an entry is ACTIVE (R110). -/
theorem State.active_of_entry (hs : s.tablesSound) (he : e ∈ s.queue) : (s.status e.unit).state = .active :=
  ((s.eligible_iff _).mp (State.claims_of_sound hs _ (List.mem_map_of_mem he)).1).1

theorem exec_secondTick_restEnds {order : List TickItem} (h : plainOrder order) (hr : s.resetHeld = false) (hs : s.tablesSound)
    (hg : s.shedGate ≠ .opened) (hwired : ∀ c : ChannelNo, s.configured (channelUnit c) = false) (hq : s.queue = [e])
    (hp : s.slots[i].permit = some p) (hu : p.unit = e.unit) (hk : p.stage = s.level e.unit) (hrest : p.state = .resting)
    (ha : s.slots[i].aArmed = true) (hc : s.slots[i].counter < Config.counterMax)
    (hv : s.slots[i].aValue = s.slots[i].counter + 1) :
    ∃ t, exec (.secondTick (.part .slotCounters :: .event (.minOffExpiry i) :: order)) s = .next t
      ∧ (∀ q ∈ t.slots[i].permit, q.state ≠ .resting) ∧ ∀ f ∈ t.queue, f.reason ≠ .resting := by
  obtain ⟨pre, before, behind, hpre, hnodup, hb1, hb2, hf1, hf2, hexec⟩ := exec_secondTick_counters (.minOffExpiry i) h hr
  have hx := State.takeParts_taken (s := s.tickStart) hnodup (fun _ => .inl hg) hwired fun hmem => by
    rcases List.mem_append.mp hmem with hm | hm
    · cases List.mem_singleton.mp (hpre hm)
    · cases List.mem_singleton.mp hm
  have hcounters : TickPart.slotCounters ∈ (pre ++ [TickPart.slotCounters]).reverse := by simp
  have hevent (x : State) : x.takeEvent (.minOffExpiry i) = x.minOffExpiry i := rfl
  rw [hevent] at hexec
  generalize (pre ++ [TickPart.slotCounters]).reverse = done at hx hcounters
  generalize s.tickStart.takeParts (pre ++ [TickPart.slotCounters]) = x at hx hexec
  have hslot : x.slots[i] = s.slots[i].tick := (hx.slots i).trans (if_pos hcounters)
  have htick : s.slots[i].tick = { s.slots[i] with counter := s.slots[i].counter + 1 } := by
    rw [Slot.tick, if_pos (by rw [hp]; rfl), Nat.min_eq_right (Nat.succ_le_of_lt hc)]
  rw [htick] at hslot
  have hroles : s.SameRoles x := fun j => by
    rw [hx.permit]
    rfl
  have hlevel : x.level e.unit = s.level e.unit := hroles.level e.unit
  have hunits : x.units = s.units := hx.units
  have hstatus : x.status e.unit = s.status e.unit := (State.record_of_units (by rw [hunits])).2
  have hactive : (x.status e.unit).state = .active := by
    rw [hstatus]
    exact State.active_of_entry hs (by rw [hq]; exact List.mem_singleton_self e)
  obtain ⟨heq, hfreed⟩ := State.minOffExpiry_freed (u := e.unit) (hroles.inOrder (State.tablesSound_inOrder hs e.unit)) hactive
    ((congrArg Slot.permit hslot).trans hp) hu (hk.trans hlevel.symm) hrest (by rw [hslot]; exact ha)
    (by rw [hslot]; exact Nat.le_of_eq hv) (by
      rw [hx.queue, if_pos hcounters]
      exact ⟨e.restTick, congrArg _ hq, QueueEntry.restTick_unit e⟩)
  have hzgate : (x.minOffExpiry i).shedGate ≠ .opened := by rw [heq]; exact hx.closed hg
  have hzwired (c : ChannelNo) : (x.minOffExpiry i).configured (channelUnit c) = false := by
    rw [heq]
    exact (State.configured_of_units hunits _).trans (hwired c)
  generalize x.minOffExpiry i = z at hfreed hzgate hzwired hexec
  have hy := State.takeParts_taken (s := z) hb1 (fun _ => .inl hzgate) hzwired fun hmem => absurd hmem hf1
  generalize z.takeParts before = y at hy hexec
  have hpass := y.admissionPass_passed
  have ht := State.takeParts_taken (s := y.admissionPass) hb2
    (fun _ => .inl fun hopen => hy.closed hzgate (hpass.shedGate.symm.trans hopen))
    (fun c => (State.configured_of_units hpass.units _).trans ((State.configured_of_units hy.units _).trans (hzwired c)))
    fun hmem => absurd hmem hf2
  obtain ⟨h1, h2⟩ := ht.noRest (hy.freed hfreed).pass
  exact ⟨_, hexec, h1, h2⟩

/-- A rest or a stop that the tick leaves is shown as it is behind the tick (R95, R105). -/
theorem exec_secondTick_rests {order : List TickItem} (h : plainOrder order) (hr : s.resetHeld = false) (hs : s.tablesSound)
    (hg : s.shedGate ≠ .opened) (hwired : ∀ c : ChannelNo, s.configured (channelUnit c) = false) (hhold : s.hold = .ended)
    (hthreshold : s.shed.threshold = none) (hq : s.queue = [e]) (hp : s.slots[i].permit = some p) (hu : p.unit = e.unit)
    (hk : p.stage = s.level e.unit) (hc : s.slots[i].counter < Config.counterMax) :
    ∃ t, exec (.secondTick order) s = .next t
      ∧ t.queue = [{ e with reason := .resting, remaining := s.slots[i].aValue - (s.slots[i].counter + 1) }] := by
  obtain ⟨before, behind, x, t, hexec, ht⟩ := exec_secondTick_pass h hr hg hwired
  have hactive := State.active_of_entry hs (e := e) (by rw [hq]; exact List.mem_singleton_self e)
  have hlinked : isWired e.unit = false := State.not_wired_of_configured hwired
    (State.configured_of_state (by rw [hactive]; exact fun h => UnitState.noConfusion h))
  have hat : s.slotAt e.unit (s.level e.unit) = some i := by
    rw [← hk, ← hu]
    exact (State.tablesSound_inOrder hs p.unit).slotAt_eq hp rfl
  exact ⟨t, hexec, ht.resting hhold hthreshold hlinked hq hat (by
    show s.slots[i].permit.isSome = true
    rw [hp]; rfl) hc⟩

end

end Sys2Proof.Machine


/-! The retry of a wired unit at a second tick of the restart hold: a unit that calls and holds no entry gets one, whatever the
other wired units do, and in every order (R92, R117; log entry 5). -/

namespace Sys2Proof.Machine

section

variable {s x y : State} {u : UnitNo} {c : ChannelNo} {p : TickPart} {done : List TickPart}

/-! ### One part -/

theorem QueueEntry.restTick_key (e : QueueEntry) : e.restTick.key = e.key := by
  unfold QueueEntry.restTick
  split <;> rfl

theorem State.holdRunning_of (h : x.hold ≠ .ended) : x.holdRunning = true := decide_eq_true h

/-- What a part other than a retry does while the hold runs: no entry and no permit comes or goes. -/
theorem State.takePart_keeps (hgate : x.shedGate ≠ .opened) (hhold : x.hold ≠ .ended) (hp : ∀ c, p ≠ .wiredRetry c) :
    (x.takePart p).queue.map QueueEntry.key = x.queue.map QueueEntry.key
      ∧ ∀ i : SlotNo, (x.takePart p).slots[i].permit = x.slots[i].permit := by
  by_cases hpass : p = .regularPass
  · subst hpass
    obtain ⟨h1, h2⟩ := State.admissionPass_keys_of_closed (s := x) (.inl (State.holdRunning_of hhold))
    have hslots : x.admissionPass.slots = x.slots := by rw [h1]; rfl
    exact ⟨h2, fun i => congrArg (·[i].permit) hslots⟩
  · have hidle := State.takePart_idle (x := x) (p := p) (fun _ => State.shedEvaluation_of_closed hgate)
      (fun c h => absurd h (hp c)) fun h => absurd h hpass
    refine ⟨?_, fun i => ?_⟩
    · rw [hidle.queue]
      split
      · rw [List.map_map]
        exact List.map_congr_left fun e _ => QueueEntry.restTick_key e
      · rfl
    · rw [hidle.slots]
      split
      · exact Slot.tick_permit _
      · rfl

/-- The entries behind a retry while the hold runs, with room in the queue (R117): those of other units stay, and the unit that
wants more has one. -/
structure State.Retried (u : UnitNo) (x y : State) : Prop where
  length : y.queue.length ≤ x.queue.length + 1
  others : ∀ v ≠ u, ∀ k : Nat × Nat × Nat, (v, k) ∈ y.queue.map QueueEntry.key ↔ (v, k) ∈ x.queue.map QueueEntry.key
  slots : y.slots = x.slots
  entry : x.configured u = true → x.queued u = false → x.wants u = true →
    ∃ e ∈ y.queue, e.unit = u ∧ e.wanted = x.effectiveDesired u

theorem State.desireStep_retried (hhold : x.hold ≠ .ended) (hroom : x.queue.length < Config.queueCapacity)
    (hno : x.queued u = false) : State.Retried u x (x.desireStep u) := by
  have hslots := (x.desireStep_of_closed u (.inr (.inl (State.holdRunning_of hhold)))).1
  by_cases hw : x.wants u = true
  · have hstep : x.desireStep u
        = (x.withQueue (insertByClass (.new u (x.effectiveDesired u) (x.cls u)) x.queue)).admissionPass := by
      rw [x.desireStep_of_noEntry u hw ((x.entryOf_eq_none_iff u).mpr hno), if_pos hroom, State.enqueue_eq]
    obtain ⟨-, hkeys⟩ := State.admissionPass_keys_of_closed
      (s := x.withQueue (insertByClass (.new u (x.effectiveDesired u) (x.cls u)) x.queue)) (.inl (State.holdRunning_of hhold))
    rw [← hstep] at hkeys
    have hperm := (insertByClass_perm (.new u (x.effectiveDesired u) (x.cls u)) x.queue).map QueueEntry.key
    have hkeys' : (x.desireStep u).queue.map QueueEntry.key
        = (insertByClass (.new u (x.effectiveDesired u) (x.cls u)) x.queue).map QueueEntry.key := hkeys
    rw [← hkeys'] at hperm
    refine ⟨?_, fun v hv k => ?_, hslots, fun _ _ _ => ?_⟩
    · have := hperm.length_eq
      rw [List.length_map, List.map_cons, List.length_cons, List.length_map] at this
      exact this.le
    · rw [hperm.mem_iff, List.map_cons, List.mem_cons]
      exact or_iff_right fun h => hv (congrArg Prod.fst h)
    · have hmem := hperm.mem_iff.mpr (List.mem_map_of_mem (f := QueueEntry.key)
        (List.mem_cons_self (a := QueueEntry.new u (x.effectiveDesired u) (x.cls u)) (l := x.queue)))
      obtain ⟨e, he, hkey⟩ := List.mem_map.mp hmem
      exact ⟨e, he, congrArg Prod.fst hkey, congrArg (fun k => k.2.1) hkey⟩
  · have hstep := x.desireStep_of_not_wants u (Bool.eq_false_iff.mpr hw)
    have hqueue : (x.desireStep u).queue = x.queue.filter fun e => decide (e.unit ≠ u) := by rw [hstep]; rfl
    refine ⟨?_, fun v hv k => ?_, hslots, fun _ _ h => absurd h hw⟩
    · rw [hqueue]
      exact (List.length_filter_le _ _).trans (Nat.le_succ _)
    · rw [hqueue, List.mem_map, List.mem_map]
      refine exists_congr fun e => and_congr_left fun hkey => ?_
      rw [List.mem_filter]
      exact and_iff_left (decide_eq_true fun h => hv ((congrArg Prod.fst hkey).symm.trans h))

theorem State.retryWired_retried (hhold : x.hold ≠ .ended) (hroom : x.queue.length < Config.queueCapacity) (c : ChannelNo) :
    State.Retried (channelUnit c) x (x.retryWired c) := by
  unfold State.retryWired
  by_cases h : (x.configured (channelUnit c) && !x.queued (channelUnit c)) = true
  · rw [if_pos h]
    obtain ⟨-, hno⟩ := Bool.and_eq_true_iff.mp h
    exact State.desireStep_retried hhold hroom (Bool.not_eq_true' _ |>.mp hno)
  · rw [if_neg h]
    refine ⟨Nat.le_succ _, fun _ _ _ => Iff.rfl, rfl, fun h1 h2 _ => absurd ?_ h⟩
    rw [h1, h2]
    rfl

/-! ### The parts taken so far -/

/-- Whether a part is a retry. -/
def TickPart.isRetry : TickPart → Bool
  | .wiredRetry _ => true
  | _ => false

/-- A tick takes four retries at most. -/
theorem length_retries_le (h : done.Nodup) : (done.filter TickPart.isRetry).length ≤ 4 := by
  have hsub : done.filter TickPart.isRetry ⊆ [.wiredRetry 0, .wiredRetry 1, .wiredRetry 2, .wiredRetry 3] := fun p hp => by
    obtain ⟨-, hp⟩ := List.mem_filter.mp hp
    cases p with
    | wiredRetry c => fin_cases c <;> decide
    | restartHold | startGate | shedGate | slotCounters | subintervalClock | rateDecay | cycleCounters | shedEvaluation
    | regularPass => cases hp
  exact (List.subperm_of_subset (h.filter _) hsub).length_le

/-- A wired unit that calls, and holds neither a stage nor an entry, while the hold runs (R117). -/
structure State.Calls (c : ChannelNo) (s : State) : Prop where
  active : (s.status (channelUnit c)).state = .active
  condition : (s.status (channelUnit c)).condition = .normal
  desired : (s.status (channelUnit c)).desired = 1
  level : s.level (channelUnit c) = 0
  hold : s.hold ≠ .ended
  gate : s.shedGate ≠ .opened

/-- The queue behind the parts taken so far, with at most 12 entries before them. -/
structure State.Retrying (c : ChannelNo) (done : List TickPart) (x : State) : Prop where
  calls : x.Calls c
  length : x.queue.length ≤ 12 + (done.filter TickPart.isRetry).length
  entry : if .wiredRetry c ∈ done then ∃ e ∈ x.queue, e.unit = channelUnit c ∧ e.wanted = 1
    else x.queued (channelUnit c) = false

theorem State.queued_eq_false_iff_keys : x.queued u = false ↔ ∀ k : Nat × Nat × Nat, (u, k) ∉ x.queue.map QueueEntry.key := by
  rw [← Bool.not_eq_true, State.queued, List.any_eq_true]
  refine ⟨fun h k hk => ?_, fun h ⟨e, he, hu⟩ => ?_⟩
  · obtain ⟨e, he, hkey⟩ := List.mem_map.mp hk
    exact h ⟨e, he, decide_eq_true (congrArg Prod.fst hkey)⟩
  · exact h (e.wanted, e.cls, e.skips) (List.mem_map.mpr ⟨e, he, by rw [← of_decide_eq_true hu]; rfl⟩)

theorem exists_entry_iff_keys {n : Nat} : (∃ e ∈ x.queue, e.unit = u ∧ e.wanted = n)
    ↔ ∃ k : Nat × Nat, (u, n, k) ∈ x.queue.map QueueEntry.key := by
  refine ⟨fun ⟨e, he, hu, hn⟩ => ⟨(e.cls, e.skips), List.mem_map.mpr ⟨e, he, by rw [← hu, ← hn]; rfl⟩⟩, fun ⟨k, hk⟩ => ?_⟩
  obtain ⟨e, he, hkey⟩ := List.mem_map.mp hk
  exact ⟨e, he, congrArg Prod.fst hkey, congrArg (fun k => k.2.1) hkey⟩

theorem State.Calls.step (h : x.Calls c) (hstep : State.PartStep p x y)
    (hpermit : ∀ i : SlotNo, y.slots[i].permit = x.slots[i].permit) : y.Calls c := by
  have hstatus : y.status (channelUnit c) = x.status (channelUnit c) := (State.record_of_units (by rw [hstep.units])).2
  refine ⟨by rw [hstatus]; exact h.active, by rw [hstatus]; exact h.condition, by rw [hstatus]; exact h.desired,
    (State.level_congr _ hpermit).trans h.level, ?_, ?_⟩
  · rw [hstep.hold]
    split
    · exact fun he => h.hold (RestartHold.tick_eq_ended.mp he)
    · exact h.hold
  · rw [hstep.shedGate]
    split
    · exact ShedGate.tick_ne_opened h.gate
    · exact h.gate

theorem State.Calls.wants (h : x.Calls c) : x.wants (channelUnit c) = true ∧ x.effectiveDesired (channelUnit c) = 1
    ∧ x.configured (channelUnit c) = true := by
  have hd : x.effectiveDesired (channelUnit c) = 1 := (if_pos h.condition).trans h.desired
  refine ⟨?_, hd, State.configured_of_state (by rw [h.active]; exact fun h => UnitState.noConfusion h)⟩
  rw [State.wants, (x.eligible_iff _).mpr ⟨h.active, .inl (isWired_channelUnit c), h.condition⟩, hd, h.level]
  rfl

theorem State.Retrying.take (h : State.Retrying c done x) (hp : (p :: done).Nodup) :
    State.Retrying c (p :: done) (x.takePart p) := by
  have hstep := x.takePart_step p fun _ => State.shedEvaluation_of_closed h.calls.gate
  by_cases hretry : ∃ c', p = .wiredRetry c'
  · obtain ⟨c', rfl⟩ := hretry
    have hcount := length_retries_le hp
    have hfilter : ((TickPart.wiredRetry c' :: done).filter TickPart.isRetry).length
        = (done.filter TickPart.isRetry).length + 1 := by
      rw [List.filter_cons_of_pos rfl, List.length_cons]
    have hlen := h.length
    have hroom : x.queue.length < Config.queueCapacity := by
      show x.queue.length < 16
      omega
    have hr : State.Retried (channelUnit c') x (x.takePart (.wiredRetry c')) :=
      State.retryWired_retried h.calls.hold hroom c'
    have hrl := hr.length
    refine ⟨h.calls.step hstep fun i => congrArg (·[i].permit) hr.slots, by omega, ?_⟩
    have hentry := h.entry
    by_cases hc : c' = c
    · subst hc
      obtain ⟨hnew, -⟩ := List.nodup_cons.mp hp
      rw [if_neg hnew] at hentry
      obtain ⟨hw, hd, hconf⟩ := h.calls.wants
      rw [if_pos List.mem_cons_self, ← hd]
      exact hr.entry hconf hentry hw
    · have hne : channelUnit c ≠ channelUnit c' := fun he => hc (by
        have := congrArg channelOf he
        rw [channelOf_channelUnit, channelOf_channelUnit] at this
        exact (Option.some.inj this).symm)
      have hmem : TickPart.wiredRetry c ∈ TickPart.wiredRetry c' :: done ↔ TickPart.wiredRetry c ∈ done := by
        rw [List.mem_cons]
        exact or_iff_right fun he => hc (TickPart.wiredRetry.inj he).symm
      simp only [hmem]
      split at hentry
      · next hd =>
        rw [if_pos hd]
        obtain ⟨k, hk⟩ := exists_entry_iff_keys.mp hentry
        exact exists_entry_iff_keys.mpr ⟨k, (hr.others _ hne _).mpr hk⟩
      · next hd =>
        rw [if_neg hd]
        exact State.queued_eq_false_iff_keys.mpr fun k hk =>
          State.queued_eq_false_iff_keys.mp hentry k ((hr.others _ hne _).mp hk)
  · have hno (c' : ChannelNo) : p ≠ .wiredRetry c' := fun hpc => hretry ⟨c', hpc⟩
    obtain ⟨hkeys, hpermit⟩ := State.takePart_keeps h.calls.gate h.calls.hold hno
    have hlength := congrArg List.length hkeys
    rw [List.length_map, List.length_map] at hlength
    have hmem : TickPart.wiredRetry c ∈ p :: done ↔ TickPart.wiredRetry c ∈ done := by
      rw [List.mem_cons]
      exact or_iff_right fun he => hno c he.symm
    refine ⟨h.calls.step hstep hpermit, ?_, ?_⟩
    · rw [hlength]
      refine h.length.trans (Nat.add_le_add_left ?_ 12)
      exact ((List.sublist_cons_self p done).filter _).length_le
    · have hentry := h.entry
      rw [exists_entry_iff_keys, State.queued_eq_false_iff_keys] at hentry ⊢
      simp only [hmem, hkeys]
      exact hentry

/-- A configured wired unit without an entry takes its desire step at a second tick (R117). -/
theorem exec_secondTick_retry {order : List TickItem} (h : plainOrder order) (hr : s.resetHeld = false) (hcalls : s.Calls c)
    (hno : s.queued (channelUnit c) = false) (hlen : s.queue.length ≤ 12) :
    ∃ t, exec (.secondTick order) s = .next t ∧ ∃ e ∈ t.queue, e.unit = channelUnit c ∧ e.wanted = 1 := by
  obtain ⟨l, hl, hexec⟩ := exec_secondTick_plain h hr
  have hstart : State.Retrying c [] s.tickStart := by
    refine ⟨⟨hcalls.active, hcalls.condition, hcalls.desired, hcalls.level, hcalls.hold, hcalls.gate⟩, hlen, ?_⟩
    rw [if_neg List.not_mem_nil]
    exact hno
  have ht := State.takeParts_induction (hl.nodup_iff.mpr allTickParts_nodup) (P := fun done x => State.Retrying c done x) hstart
    fun _ _ _ _ hp hx => hx.take hp
  have hentry := ht.entry
  rw [if_pos (List.mem_reverse.mpr (hl.mem_iff.mpr (mem_allTickParts _)))] at hentry
  exact ⟨_, hexec, hentry⟩

end

end Sys2Proof.Machine


/-! The shed evaluation of a second tick at an OPEN shed gate, over the budget: it stops the first victim, and what comes behind
it keeps the stop (R31, R62, R124, R126, R128, R129; log entry 5). -/

namespace Sys2Proof.Machine

section

variable {s x y : State} {i : SlotNo} {p : Permit} {q : TickPart} {done : List TickPart}

/-! ### The action -/

/-- The one victim of the highest class (R128, R129). -/
structure State.TopVictim (i : SlotNo) (p : Permit) (s : State) : Prop where
  permit : s.slots[i].permit = some p
  running : p.state = .running
  top : p.stage + 1 = s.level p.unit
  cls : s.cls p.unit ≠ 0
  best : ∀ (j : SlotNo) (q : Permit), s.slots[j].permit = some q → q.state = .running → q.stage + 1 = s.level q.unit →
    s.cls q.unit ≠ 0 → j ≠ i → s.cls q.unit < s.cls p.unit

theorem State.cls_of_units (h : x.units = s.units) (u : UnitNo) : x.cls u = s.cls u := by
  have hrec : x.record u = s.record u := (State.record_of_units (by rw [h])).1
  rw [State.cls, State.cls, hrec]

theorem State.TopVictim.congr (h : State.TopVictim i p s) (hpermit : ∀ j : SlotNo, x.slots[j].permit = s.slots[j].permit)
    (hunits : x.units = s.units) : State.TopVictim i p x := by
  have hcls (u : UnitNo) := State.cls_of_units hunits u
  have hlevel (u : UnitNo) : x.level u = s.level u := State.level_congr u hpermit
  refine ⟨(hpermit i).trans h.permit, h.running, by rw [hlevel]; exact h.top, by rw [hcls]; exact h.cls,
    fun j r hr h1 h2 h3 hj => ?_⟩
  rw [hpermit] at hr
  rw [hlevel] at h2
  rw [hcls] at h3 ⊢
  rw [hcls]
  exact h.best j r hr h1 h2 h3 hj

/-- Over the budget, the evaluation at the OPEN gate stops that victim (R126). -/
theorem State.TopVictim.evaluation (h : State.TopVictim i p s) (hg : s.shedGate = .opened) (hok : s.meter.state ≠ .ok)
    (hover : s.site.budget < s.committed) : s.shedEvaluation = s.moveDemand.stopVictim .shed i := by
  have hdemand : s.moveDemand.shed.demand = .overload := by
    rw [s.moveDemand_demand, if_pos]
    rw [State.overLimit_of_not_ok hok]
    exact decide_eq_true hover
  have hslots := s.moveDemand_eq_shed.1
  have hgate := s.moveDemand_shedGate.trans hg
  have hmoved : State.TopVictim i p s.moveDemand :=
    h.congr (fun j => congrArg (·[j].permit) hslots) s.moveDemand_framed.units
  unfold State.shedEvaluation
  generalize s.moveDemand = t at hdemand hgate hmoved
  have hfirst : t.firstVictim (t.victims fun _ => true) = some i :=
    State.firstVictim_victims (State.mem_victims.mpr ⟨p, hmoved.permit, hmoved.running, hmoved.top, hmoved.cls, rfl⟩)
      hmoved.permit fun j r hj hr hji => by
        obtain ⟨r', hr', h1, h2, h3, -⟩ := State.mem_victims.mp hj
        cases hr.symm.trans hr'
        exact .inl (hmoved.best j r hr h1 h2 h3 hji)
  unfold State.actIfOpen State.shedAction
  rw [if_pos hgate, if_pos hdemand, hfirst]

/-- The state behind the action: the demand state, the gate, and the victim's slot (R31, R62, R126). -/
structure State.Shed (i : SlotNo) (p : Permit) (s y : State) : Prop where
  sound : y.tablesSound
  demand : y.shed.demand = .overload
  gate : y.shedGate = .counting (s.site.shedSpacing + 1)
  wired : ∀ c : ChannelNo, y.configured (channelUnit c) = false
  held : y.slots[i].permit ≠ none
  met : p.minRunMet = true → y.slots[i].counter = 0 ∧ y.slots[i].aValue = s.site.complianceTimeout
    ∧ y.slots[i].permit = some { p with state := .stopping, reason := some .shed, rotationDue := false }
  unmet : p.minRunMet = false → s.slots[i].counter < s.minRun p.unit → y.slots[i].counter = s.slots[i].counter
    ∧ y.slots[i].permit = some { p with state := .draining, reason := some .shed, rotationDue := false }

theorem State.TopVictim.shed (h : State.TopVictim i p s) (hs : s.tablesSound) (hr : s.resetHeld = false)
    (hg : s.shedGate = .opened) (hwired : ∀ c : ChannelNo, s.configured (channelUnit c) = false) (hok : s.meter.state ≠ .ok)
    (hover : s.site.budget < s.committed) : State.Shed i p s s.shedEvaluation := by
  have hsound : s.shedEvaluation.tablesSound := State.kept_tablesSound.shedEvaluation hs
  have hlinked : isWired p.unit = false := State.not_wired_of_configured hwired (State.configured_of_permit hs h.permit)
  have hdemand : s.shedEvaluation.shed.demand = .overload := by
    refine s.moveDemand.actIfOpen_keeps.1.trans ?_
    rw [s.moveDemand_demand, if_pos]
    rw [State.overLimit_of_not_ok hok]
    exact decide_eq_true hover
  have hmovedSound : s.moveDemand.tablesSound := State.kept_tablesSound.framed s.moveDemand_framed hs
  have hslots := s.moveDemand_eq_shed.1
  have hslot : s.moveDemand.slots[i] = s.slots[i] := congrArg (·[i]) hslots
  have hunits := s.moveDemand_framed.units
  have hmoved : State.TopVictim i p s.moveDemand := h.congr (fun j => congrArg (·[j].permit) hslots) hunits
  have hsite := s.moveDemand_base.site
  have hreset := s.moveDemand_base.resetHeld.trans hr
  have hrec : s.moveDemand.record p.unit = s.record p.unit := (State.record_of_units (by rw [hunits])).1
  have hminRun : s.moveDemand.minRun p.unit = s.minRun p.unit := by rw [State.minRun, hrec]; rfl
  rw [h.evaluation hg hok hover] at hsound hdemand ⊢
  generalize s.moveDemand = m at *
  obtain ⟨hgate, -, hmet, -, hunmet⟩ := State.stopVictim_stopped hmovedSound hreset hmoved.permit hmoved.running hmoved.top .shed
  rw [hslot, hsite] at hmet
  rw [hslot, hminRun] at hunmet
  rw [hsite] at hgate
  have hset : (m.slots.set i { s.slots[i] with
        aValue := s.minRun p.unit, aArmed := true, pArmed := false
        permit := some { p with state := .draining, reason := some .shed, rotationDue := false } })[i]
      = { s.slots[i] with
        aValue := s.minRun p.unit, aArmed := true, pArmed := false
        permit := some { p with state := .draining, reason := some .shed, rotationDue := false } } :=
    (getElem_set_eq m.slots i i _).trans (if_pos rfl)
  have hcounter := congrArg Slot.counter hset
  have hpermit := congrArg Slot.permit hset
  refine ⟨hsound, hdemand, hgate, fun c => ?_, ?_, fun hm => ?_, fun hm hc => ?_⟩
  · have hne : channelUnit c ≠ p.unit := fun he => by
      rw [← he, isWired_channelUnit] at hlinked
      cases hlinked
    have hkeep : (m.stopVictim .shed i).units[channelUnit c] = m.units[channelUnit c] := by
      unfold State.stopVictim
      rw [hmoved.permit]
      dsimp only
      exact (State.settleLevel_keepsOthers _ p.unit _ _ hne).trans
        ((State.enterStop_aside _ p.unit .shed _).keepsOthers _ hne)
    have hstatus : (m.stopVictim .shed i).status (channelUnit c) = s.status (channelUnit c) :=
      (State.record_of_units hkeep).2.trans (State.record_of_units (by rw [hunits])).2
    rw [State.configured, hstatus]
    exact hwired c
  · by_cases hm : p.minRunMet = true ∨ s.minRun p.unit ≤ s.slots[i].counter
    · rw [(hmet (hminRun.symm ▸ hm) hlinked).2]
      exact Option.some_ne_none _
    · obtain ⟨h1, h2⟩ := not_or.mp hm
      rw [hunmet (Bool.not_eq_true _ |>.mp h1) (Nat.not_le.mp h2)]
      exact hpermit ▸ Option.some_ne_none _
  · obtain ⟨-, hslot'⟩ := hmet (.inl hm) hlinked
    rw [hslot']
    refine ⟨rfl, rfl, ?_⟩
    rw [← hm]
  · rw [hunmet hm hc]
    exact ⟨hcounter, hpermit⟩

/-! ### What comes behind the action -/

/-- What the parts behind the action keep of it. -/
structure State.ShedKept (i : SlotNo) (done : List TickPart) (y x : State) : Prop where
  sound : x.tablesSound
  wired : ∀ c : ChannelNo, x.configured (channelUnit c) = false
  demand : x.shed.demand = y.shed.demand
  gate : x.shedGate = if .shedGate ∈ done then y.shedGate.tick else y.shedGate
  slot : x.slots[i] = if .slotCounters ∈ done then y.slots[i].tick else y.slots[i]

theorem State.ShedKept.take (h : State.ShedKept i done y x) (hy : y.slots[i].permit ≠ none) (hq : q ≠ .shedEvaluation)
    (hp : (q :: done).Nodup) : State.ShedKept i (q :: done) y (x.takePart q) := by
  have hstep := x.takePart_step q fun h => absurd h hq
  have hsound := State.kept_tablesSound.takePart q h.sound
  have hgate : (x.takePart q).shedGate = if .shedGate ∈ q :: done then y.shedGate.tick else y.shedGate := by
    rw [hstep.shedGate, h.gate, ite_taken _ _ hp]
  have hwired (c : ChannelNo) : (x.takePart q).configured (channelUnit c) = false :=
    (State.configured_of_units hstep.units _).trans (h.wired c)
  have hpermit : x.slots[i].permit ≠ none := by
    rw [h.slot]
    split
    · rw [Slot.tick_permit]; exact hy
    · exact hy
  by_cases hpass : q = .regularPass
  · subst hpass
    have hslot : x.admissionPass.slots[i] = x.slots[i] :=
      (State.admissionPass_queueStep x false x.queue).slots_of_permit (State.tables_of_sound h.sound).free hpermit
    refine ⟨hsound, hwired, (congrArg ShedController.demand x.admissionPass_passed.shed).trans h.demand, hgate, ?_⟩
    refine hslot.trans (h.slot.trans ?_)
    simp
  · have hidle := State.takePart_idle (x := x) (p := q) (fun h => absurd h hq) (fun c _ => h.wired c) fun h => absurd h hpass
    refine ⟨hsound, hwired, ?_, hgate, ?_⟩
    · rw [hidle.demand, if_neg hq, h.demand]
    · rw [hidle.slots, h.slot, ite_taken _ _ hp]

theorem Slot.tick_aValue (sl : Slot) : sl.tick.aValue = sl.aValue := by
  unfold Slot.tick
  split <;> rfl

theorem State.minRun_le (h : s.recordsSound) (u : UnitNo) : s.minRun u ≤ 1023 := by
  unfold State.minRun
  cases hrec : s.record u with
  | none => exact Nat.zero_le _
  | some r =>
    have hv := (h.2 u).2 r hrec
    simp only [UnitRecord.valid, inRange, Bool.and_eq_true, decide_eq_true_eq] at hv
    obtain ⟨⟨⟨⟨-, -, h⟩, -⟩, -⟩, -⟩ := hv
    exact h

theorem State.takeParts_sound (l : List TickPart) : ∀ {s : State}, s.tablesSound → (s.takeParts l).tablesSound := by
  induction l with
  | nil => exact fun hs => hs
  | cons q l ih => exact fun hs => ih (State.kept_tablesSound.takePart q hs)

/-- A second tick at the OPEN shed gate, over the budget (R124, R126). -/
theorem exec_secondTick_shed {order : List TickItem} (h : plainOrder order) (hr : s.resetHeld = false) (hs : s.tablesSound)
    (hg : s.shedGate = .opened) (hwired : ∀ c : ChannelNo, s.configured (channelUnit c) = false) (hqueue : s.queue = [])
    (hok : s.meter.state ≠ .ok) (hover : s.site.budget < s.committed) (hv : State.TopVictim i p s) :
    ∃ t, exec (.secondTick order) s = .next t ∧ t.shed.demand = .overload
      ∧ (t.shedGate = .counting (s.site.shedSpacing + 1) ∨ t.shedGate = .counting s.site.shedSpacing)
      ∧ (p.minRunMet = true → t.slots[i].counter ≤ 1 ∧ t.slots[i].aValue = s.site.complianceTimeout
        ∧ t.slots[i].permit = some { p with state := .stopping, reason := some .shed, rotationDue := false })
      ∧ (p.minRunMet = false → s.slots[i].counter + 1 < s.minRun p.unit →
        t.slots[i].counter = s.slots[i].counter + 1
          ∧ t.slots[i].permit = some { p with state := .draining, reason := some .shed, rotationDue := false }) := by
  obtain ⟨before, behind, hsplit, hexec⟩ := exec_secondTick_split h hr .shedEvaluation
  have hx := State.takeParts_taken (s := s.tickStart) hsplit.nodup.1 (fun hmem => absurd hmem hsplit.fresh.1) hwired
    fun _ => hqueue
  have hstart : s.tickStart.tablesSound := State.kept_tablesSound.framed (s := s)
    ⟨rfl, rfl, rfl, rfl, rfl, rfl, rfl, rfl, .inl ⟨rfl, rfl⟩⟩ hs
  have hsound := State.takeParts_sound before hstart
  have hreset := (State.takeParts_resetHeld before s.tickStart).trans hr
  generalize s.tickStart.takeParts before = x at hx hsound hreset hexec
  have hxv : State.TopVictim i p x := State.TopVictim.congr (s := s.tickStart)
    ⟨hv.permit, hv.running, hv.top, hv.cls, hv.best⟩ hx.permit hx.units
  have hxgate : x.shedGate = .opened := by
    rw [hx.shedGate]
    split
    · exact congrArg ShedGate.tick hg
    · exact hg
  have hxover : x.site.budget < x.committed := by
    rw [hx.site, State.committed_congr hx.permit]
    exact hover
  have hxminRun : x.minRun p.unit = s.minRun p.unit := by
    have hrec : x.record p.unit = s.record p.unit := (State.record_of_units (s := s) (t := x) (by rw [hx.units]; rfl)).1
    rw [State.minRun, hrec]
    rfl
  have hshed := hxv.shed hsound hreset hxgate (fun c => (State.configured_of_units hx.units _).trans (hwired c))
    (by rw [hx.meterState]; exact hok) hxover
  have hpart : x.takePart .shedEvaluation = x.shedEvaluation := rfl
  rw [hpart] at hexec
  generalize x.shedEvaluation = y at hshed hexec
  have ht := State.takeParts_induction hsplit.nodup.2 (P := fun done z => State.ShedKept i done y z)
    ⟨hshed.sound, hshed.wired, rfl, rfl, rfl⟩ fun done q z hmem hp hz =>
      hz.take hshed.held (fun he => hsplit.fresh.2 (he ▸ hmem)) hp
  generalize y.takeParts behind = t at ht hexec
  have htpermit : t.slots[i].permit = y.slots[i].permit := by
    rw [ht.slot]
    split
    · exact Slot.tick_permit _
    · rfl
  refine ⟨t, hexec, ht.demand.trans hshed.demand, ?_, fun hm => ?_, fun hm hc => ?_⟩
  · rw [ht.gate, hshed.gate, hx.site]
    split
    · exact .inr rfl
    · exact .inl rfl
  · obtain ⟨h1, h2, h3⟩ := hshed.met hm
    rw [hx.site] at h2
    refine ⟨?_, ?_, htpermit.trans h3⟩
    · rw [ht.slot]
      split
      · rw [Slot.tick, if_pos (Option.isSome_iff_ne_none.mpr hshed.held)]
        exact (Nat.min_le_right _ _).trans (by rw [h1])
      · rw [h1]; exact Nat.zero_le 1
    · rw [ht.slot]
      split
      · rw [Slot.tick_aValue]; exact h2
      · exact h2
  · have hlt := State.minRun_le (State.tables_of_sound hs).records p.unit
    have htick : s.slots[i].tick.counter = s.slots[i].counter + 1 := by
      rw [Slot.tick, if_pos (by rw [hv.permit]; rfl)]
      exact Nat.min_eq_right (show s.slots[i].counter + 1 ≤ 65535 by omega)
    have honce := hsplit.once .slotCounters (by simp)
    have hxslot := hx.slots i
    have htslot := ht.slot
    simp only [List.mem_reverse] at hxslot htslot
    by_cases hb : TickPart.slotCounters ∈ before
    · rw [if_pos hb] at hxslot
      rw [if_neg fun hn => honce.mp hn hb] at htslot
      have hxc : x.slots[i].counter = s.slots[i].counter + 1 := (congrArg Slot.counter hxslot).trans htick
      obtain ⟨h1, h2⟩ := hshed.unmet hm (by rw [hxc, hxminRun]; exact hc)
      exact ⟨(congrArg Slot.counter htslot).trans (h1.trans hxc), htpermit.trans h2⟩
    · rw [if_neg hb] at hxslot
      rw [if_pos (honce.mpr hb)] at htslot
      have hxc : x.slots[i].counter = s.slots[i].counter := congrArg Slot.counter hxslot
      obtain ⟨h1, h2⟩ := hshed.unmet hm (by rw [hxc, hxminRun]; omega)
      refine ⟨?_, htpermit.trans h2⟩
      rw [htslot, Slot.tick, if_pos (Option.isSome_iff_ne_none.mpr hshed.held)]
      show min 65535 (y.slots[i].counter + 1) = _
      rw [h1, hxc]
      exact Nat.min_eq_right (by omega)

end

end Sys2Proof.Machine


/-! O40: the second tick, in every order of its parts (R51; log entry 5). -/

namespace Sys2Proof.Machine

theorem Slot.tick_eq (sl : Slot) : sl.tick =
    if sl.permit.isSome = true then { sl with counter := min 65535 (sl.counter + 1) } else sl := rfl

theorem Channel.secondTick_clear (ch : Channel) : { ch with testDue := false }.secondTick = { ch with
    testDue := true
    cycleCounter := if ch.grantRecorded = true then min 65535 (ch.cycleCounter + 1) else ch.cycleCounter } := rfl

/-- Settles O40: the figures of an idle tick, the pass of a tick, the retry of a wired unit and the action at the OPEN shed
gate; an event behind every part; the rest that a tick leaves or ends. -/
theorem secondTickReachesEachPart : Obligations.SecondTickReachesEachPart := by
  refine ⟨fun s order hplain hr => ⟨fun hg => ⟨fun hwired hqueue => ?_, fun hwired hhold hskips => ?_,
    fun e load hwired hhold hgate hqueue hlinked hno hfree hthreshold hok hrating hbudget hspacing => ?_,
    fun c hactive hcond hdesired hlevel hno hhold hlen => ?_⟩, fun hg hwired hqueue hok => ⟨fun hbudget hthreshold => ?_,
    fun hover hs i p => ?_⟩⟩, fun s parts e hperm hr => exec_secondTick_event e hperm hr,
    fun s order e i p hplain hr hs hg hhold hthreshold hwired hqueue hp hu hk hc => ⟨?_, fun hrest ha hv => ?_⟩⟩
  · obtain ⟨t, hexec, h1, h2, h3, h4, h5, h6, h7, h8, h9, h10, h11⟩ := secondTick_idle hplain hr (.inl hg) hwired hqueue
    refine ⟨t, hexec, h1, h2, h3, h4, ?_, ?_, ?_, ?_, fun i => ?_, fun c => ?_, h11⟩
    · rw [h5]; cases s.hold <;> rfl
    · rw [h6]; cases s.startGate <;> rfl
    · rw [h7]; cases s.startGate <;> rfl
    · rw [h8]; cases s.shedGate <;> rfl
    · rw [h9, Slot.tick_eq]
    · rw [h10, Channel.secondTick_clear]
  · obtain ⟨before, behind, x, t, hexec, ht⟩ := exec_secondTick_pass hplain hr hg hwired
    exact ⟨t, hexec, ht.queue_of_hold hhold hskips⟩
  · obtain ⟨before, behind, x, t, hexec, ht⟩ := exec_secondTick_pass hplain hr hg hwired
    exact ⟨t, hexec, State.PassedAt.granted (s := s.tickStart) (e := e) (rating := load) ht
      ⟨hhold, hgate, hlinked, hno, hfree, hthreshold, hok, hrating, hbudget⟩ hqueue hspacing⟩
  · exact exec_secondTick_retry hplain hr ⟨hactive, hcond, hdesired, hlevel, hhold, hg⟩ hno hlen
  · obtain ⟨t, hexec, -, -, -, h4, -, -, -, h8, h9, -, -⟩ := secondTick_idle hplain hr
      (.inr ⟨hqueue, hthreshold, hok, hbudget⟩) hwired hqueue
    refine ⟨t, hexec, by rw [h8, hg]; rfl, ?_, fun i => by rw [h9, Slot.tick_eq]⟩
    rw [h4 hok, if_neg (Nat.not_lt.mpr hbudget)]
  · intro victim ⟨hp, hrun, htop, hcls⟩ hbest
    exact exec_secondTick_shed hplain hr hs hg hwired hqueue hok hover
      ⟨hp, hrun, htop, hcls, fun j q hq h1 h2 h3 hj => hbest j q ⟨hq, h1, h2, h3⟩ hj⟩
  · exact exec_secondTick_rests hplain hr hs hg hwired hhold hthreshold hqueue hp hu hk hc
  · exact exec_secondTick_restEnds hplain hr hs hg hwired hqueue hp hu hk hrest ha hc hv

end Sys2Proof.Machine
